-- ==== Sys2Proof/Word.lean ====
section
/-!
DEFINITION. Sys2Proof/Word.lean: the word types.
-/
namespace Sys2Proof

/-- One byte. -/
abbrev Byte := BitVec 8

/-- One register of the register space, and every wrapping 32-bit counter (R723, R470 and the like). -/
abbrev Word := BitVec 32

end Sys2Proof
end

