-- ==== Sys2Proof/Syntax.lean ====
section
/-!
DEFINITION. Sys2Proof/Syntax.lean: the phrases of the Gachacel language as data, the data that events bring from
outside, and `Instr`, the commands of the block: one constructor per row of spec/opcode_table.json.
-/
namespace Sys2Proof

/-- The fifteen verbs (R58, Table PHR-4), in that table's order. -/
inductive Verb
  | set | get | showV | start | stop | arm | disarm | reset | load | save | test | watch | login | logout | help
  deriving DecidableEq, Repr

/-- The nouns (R59, Table PHR-9), in that table's order. -/
inductive Noun
  | session | device | part | key | impl | sec | prod | chan | pair | prof | gdr | diag | grant | odo | cmp | ssp
  | gnss | sat | aid | map | cellar | larder | log | profile | can | filter | peer | node | uart | spi | i2c | pin
  | time | attic | trace | power | fault | reg
  deriving DecidableEq, Repr

/-- The adverbs (R61, Table PHR-5), in that table's order. -/
inductive Adverb
  | now | once | new | every | until | quiet | force
  deriving DecidableEq, Repr

/-- The index of a noun: none, one instance, or an ascending range (R56). -/
inductive Idx
  | none
  | one (n : Nat)
  | range (n m : Nat)
  deriving DecidableEq, Repr

/-- A noun with its index and its sub (upper case, empty where none is given). -/
structure NounRef where
  noun : Noun
  idx  : Idx := .none
  sub  : String := ""
  deriving DecidableEq, Repr

/-- One attribute token: the name in upper case, the value as received where one is given, and the token as
received (R57, R67). -/
structure AttrTok where
  name  : String
  value : Option String := none
  tok   : String := ""
  deriving DecidableEq, Repr

/-- One adverb token, with the value of EVERY and UNTIL as received. -/
structure AdvTok where
  adv   : Adverb
  value : Option String := none
  tok   : String := ""
  deriving DecidableEq, Repr

/-- A phrase that has passed checks 1 to 8 of R70: its verb and its noun exist. -/
structure Phrase where
  verb    : Verb
  verbTok : String := ""
  noun    : Option NounRef := none
  nounTok : String := ""
  attrs   : List AttrTok := []
  advs    : List AdvTok := []
  tag     : Option String := none
  checked : Bool := false
  deriving DecidableEq, Repr

/-- The error codes (R69, Table PHR-7). -/
inductive ECode
  | queue | char | syntax_ | check | node | verb | noun | absent | retired | auth | owner | attr | range | locked
  | state | busy | full | notready | i2cstuck
  deriving DecidableEq, Repr

/-- An error found in a phrase: its code and what at= names, where it names something (R67). -/
structure Err where
  code : ECode
  at_  : Option String := none
  deriving DecidableEq, Repr

/-- One entry of a session's queue (R71): a phrase to run here, a phrase for another node, or a line already
found faulty whose answer waits for its turn (R53). -/
inductive QEntry
  | phrase (p : Phrase)
  | routed (node : Nat) (tag : Option String) (checked : Bool) (text : String)
  | reject (e : Err) (tag : Option String) (checked : Bool)
  deriving DecidableEq, Repr

/-! ### What events bring from outside -/

/-- How a counting edge arrives (R278): on CNTA with the level of CNTB, on CNTB, on both in one clock, or as a
count of the internal speed source. -/
inductive CountIn
  | a (cntbHigh : Bool)
  | b
  | both (cntbHigh : Bool)
  | internal (up : Bool)
  deriving DecidableEq, Repr

/-- What on-state evaluation measures (R400): IH and IL in mA (shunt current and VDS for a gate driver), the even
member's share of IL in 0.1 %, the gate at its command, and the junction temperature. -/
structure OnReading where
  ih     : Nat
  il     : Nat
  share  : Nat := 500
  gateOk : Bool := true
  temp   : Int := 25
  deriving DecidableEq, Repr

/-- A terminal in an off-state test (R403). -/
inductive Level3
  | low | mid | high
  deriving DecidableEq, Repr

/-- What an off-state test sees (R403 to R405). -/
structure OffReading where
  outh     : Level3 := .mid
  outl     : Level3 := .mid
  gateHigh : Bool := false
  stable   : Bool := true
  temp     : Int := 25
  deriving DecidableEq, Repr

/-- The end of the cellar initialisation (R199): the step each memory failed at, and the NOR's size in KiB. -/
structure CellarInit where
  psramFail : Option Nat := none
  norFail   : Option Nat := none
  norKiB    : Nat := 65536
  deriving DecidableEq, Repr

/-- What a read of one PSRAM line found (R202): nothing, a corrected or an uncorrectable error; with the tile and
the line in it, and the line's address. -/
structure ScrubRead where
  layer : Nat := 0
  te    : Int := 0
  tn    : Int := 0
  line  : Nat := 0
  addr  : Nat := 0
  errs  : Nat := 0        -- 0 none, 1 single-bit, 2 uncorrectable
  passEnd : Option Nat := none   -- a full pass ended: its duration in ms
  deriving DecidableEq, Repr

/-- The end of a map save or load (R214): whether the set in the NOR was good. -/
structure CopyEnd where
  ok : Bool := true
  deriving DecidableEq, Repr

/-- What the background pass over the larder found (R221, R656): corrected errors, and a block lost with the queue
it served. -/
inductive LarderLoss
  | free
  | session (s : Nat)
  | compare (odo : Nat)
  | canRx (n : Nat)
  | canTx (n : Nat)
  | log | trace | attic | peer
  deriving DecidableEq, Repr

structure LarderRead where
  corrected : Nat := 0
  lost      : Option (Nat × LarderLoss) := none   -- block number, and what it held
  deriving DecidableEq, Repr

/-- A fault report that reaches the collector (R662 to R664): class, detail code, island, unit, partition, and the
values of the record. -/
structure Detection where
  cls    : Nat
  detail : Nat
  island : Option Nat := none
  unit   : Option Nat := none
  part   : Option Nat := none
  val    : Nat := 0
  v1     : Nat := 0
  v2     : Nat := 0
  occ    : Nat := 1
  deriving DecidableEq, Repr

/-- A drive-rail state as the monitor finds it (R613). -/
inductive RailIn
  | ok | crank | uv | ov
  deriving DecidableEq, Repr

/-- An internal regulator (R658). -/
inductive Regulator
  | vcore | rf | dieA | dieB
  deriving DecidableEq, Repr

/-- What the BOOT sequence finds on its way (R619, Table PWR-6). -/
structure BootReport where
  tcxo     : Bool := true
  bistFail : List Nat := []         -- islands that fail their self-test
  torn0    : Bool := false          -- the attic scan
  torn1    : Bool := false
  bad0     : List Nat := []
  bad1     : List Nat := []
  safen    : Bool := true           -- SAFEN high at step 6
  off      : List (Nat × OffReading) := []   -- off-state readings per unit
  ign      : Bool := false
  vlog     : Nat := 3300
  mramBad  : List Nat := []         -- profile slots whose CRC fails
  recMs    : Nat := 122             -- t of the BOOT record, ms
  ms       : Nat := 200             -- t of READY, ms
  deriving DecidableEq, Repr

/-- The sources found in the waking sample, the waking pin, and the RTC periods counted (R574, R628, R629). -/
structure WakeIn where
  waken   : Bool := false
  ign     : Bool := false
  rtc     : Bool := false
  pins    : List Nat := []
  periods : Nat := 0
  deriving DecidableEq, Repr

/-- What the wake sequence finds (R630). -/
structure WakeReport where
  bistFail : List Nat := []
  safen    : Bool := true
  off      : List (Nat × OffReading) := []
  ms       : Nat := 50
  deriving DecidableEq, Repr

/-- A CAN frame on the bus (R476, R488, R491). -/
structure CanFrame where
  id   : Nat
  xtd  : Bool := false
  fd   : Bool := false
  brs  : Bool := false
  esi  : Bool := false
  rtr  : Bool := false
  dlc  : Nat := 0
  data : List Nat := []
  deriving DecidableEq, Repr

/-- A frame that arrives on a controller of the peer link: its 29-bit identifier, its bytes with the CRC of R450, the segment, and
SYSTIME at its start of frame. -/
structure PeerIn where
  id       : Nat
  data     : List Nat
  onBridge : Bool := false
  ts       : Nat := 0
  deriving DecidableEq, Repr

/-- A received UART frame (R512), and what HUNT measures of it (R514): `low` when the line was low from the start bit through
the last stop bit, the clocks counted to the falling edge at 5 bit times, and whether the other edges fit within ±25 %. -/
structure UartIn where
  data     : Nat
  parityOk : Bool := true
  stopOk   : Bool := true
  low      : Bool := false
  longLow  : Bool := false      -- a BREAK of 100 ms or more (R513)
  clocks   : Nat := 0
  pattern  : Bool := false
  deriving DecidableEq, Repr

/-- What the I2C bus does in a transfer (R530 to R532): SDA held low until the given recovery pulse (none: high), SCL held low,
the outcome (0 ACK, 1 NACK, 2 TIMEOUT, 3 ARBLOST; 4 a target still holds SCL), the byte it ended at, and the bytes read. -/
structure I2cBus where
  sdaFree : Option Nat := none
  sclLow  : Bool := false
  outcome : Nat := 0
  at_     : Nat := 0
  r       : List Nat := []
  deriving DecidableEq, Repr

/-- What one tracking channel measures at an epoch (Table GNS-6), and where its satellite stands (R345). -/
structure ChanMeas where
  ch   : Nat
  cn0  : Nat
  dop  : Int
  adr  : Int
  pr   : Nat
  half : Bool := false
  el   : Int := 0
  az   : Nat := 0
  deriving DecidableEq, Repr

/-- A computed solution (R337, R338): the instant in GPS time and SYSTIME, the satellites used with their channels, the position, and the
outcome of the residual test on all of them and, after an exclusion, on the rest. -/
structure GnssSol where
  gps     : Nat                     -- GPS time of the instant, ns
  sys     : Nat                     -- SYSTIME of the instant, ns
  used    : List (Nat × Nat) := []  -- channel, PRN
  lat     : Int := 0
  lon     : Int := 0
  hgt     : Int := 0
  ve      : Int := 0
  vn      : Int := 0
  vu      : Int := 0
  cog     : Int := 0
  pdop    : Nat := 9999
  hdop    : Nat := 9999
  vdop    : Nat := 9999
  testOk  : Bool := true
  worst   : Nat := 0                -- PRN with the largest normalised residual
  test2Ok : Bool := true
  deriving DecidableEq, Repr

/-- A decoded subframe (R330, Table GNS-1): its channel, its number and its 30 bytes. -/
structure NavIn where
  ch    : Nat
  sf    : Nat
  data  : List Nat := []
  deriving DecidableEq, Repr

/-- The commands of the block, in the order of spec/opcode_table.json: phrases that a session runs (with the session
and the phrase), and events (with what the outside brings). -/
inductive Instr
  | sessionInputCharacter (sess ch : Nat) (tagged : Bool)
  | phraseLineComplete (sess ch : Nat)
  | outputSpaceReturn (sess n : Nat)
  | setAttributes (sess : Nat) (ph : Phrase)
  | getAttributes (sess : Nat) (ph : Phrase)
  | getLatchedResult (sess : Nat) (ph : Phrase)
  | getLatchedNew (sess : Nat) (ph : Phrase)
  | show (sess : Nat) (ph : Phrase)
  | help (sess : Nat) (ph : Phrase)
  | watch (sess : Nat) (ph : Phrase)
  | watchEveryTick (sess : Nat) (noun : NounRef)
  | watchChangeDelivery (sess : Nat) (noun : NounRef)
  | watchUntilExpiry (sess : Nat) (noun : NounRef)
  | setSession (sess : Nat) (ph : Phrase)
  | getSession (sess : Nat) (ph : Phrase)
  | resetSession (sess : Nat) (ph : Phrase)
  | logout (sess : Nat) (ph : Phrase)
  | routedPhraseSend (sess : Nat)
  | routedPhraseSilence (sess : Nat)
  | peerSessionIdleExpiry (sess : Nat)
  | loginSuper (sess : Nat) (ph : Phrase)
  | loginSuperResp (sess : Nat) (ph : Phrase)
  | loginChallengeExpiry (sess : Nat)
  | loginLockoutEnd
  | superIdleExpiry (sess : Nat)
  | setPartOwnership (sess : Nat) (ph : Phrase)
  | setDeviceSecpin (sess : Nat) (ph : Phrase)
  | setDevicePinlock (sess : Nat) (ph : Phrase)
  | setDeviceOwnlock (sess : Nat) (ph : Phrase)
  | setKey (sess : Nat) (ph : Phrase)
  | getKey (sess : Nat) (ph : Phrase)
  | stopPart (sess : Nat) (ph : Phrase)
  | resetPart (sess : Nat) (ph : Phrase)
  | partResetComplete (part : Nat) (badOdo : List Nat)
  | resetDevice (sess : Nat) (ph : Phrase)
  | plannerCycle (differ : Bool)
  | plannerLaneCheckDone (failA failB : Bool)
  | secStoptimeExpiry (sec : Nat)
  | lostholdExpiry (impl : Nat)
  | startImpl (sess : Nat) (ph : Phrase)
  | implBindTimeout (impl : Nat)
  | stopImpl (sess : Nat) (ph : Phrase)
  | setImplPos (sess : Nat) (ph : Phrase)
  | setImplMot (sess : Nat) (ph : Phrase)
  | getImplSample (sess : Nat) (ph : Phrase)
  | setSecManual (sess : Nat) (ph : Phrase)
  | setSecOverlap (sess : Nat) (ph : Phrase)
  | commandRelease (sec : Nat)
  | cellarInitComplete (r : CellarInit)
  | scrubBurst (r : ScrubRead)
  | setCellar (sess : Nat) (ph : Phrase)
  | resetCellar (sess : Nat) (ph : Phrase)
  | setMapStage (sess : Nat) (ph : Phrase)
  | loadMapTile (sess : Nat) (ph : Phrase)
  | getMapTile (sess : Nat) (ph : Phrase)
  | getMapCell (sess : Nat) (ph : Phrase)
  | resetMapLayer (sess : Nat) (ph : Phrase)
  | resetMapAll (sess : Nat) (ph : Phrase)
  | saveMap (sess : Nat) (ph : Phrase)
  | loadMapNor (sess : Nat) (ph : Phrase)
  | mapCopyComplete (r : CopyEnd)
  | logInterval
  | logChangeWrite
  | logNorWrite
  | getLog (sess : Nat) (ph : Phrase)
  | resetLog (sess : Nat) (ph : Phrase)
  | larderBackgroundPass (r : LarderRead)
  | saveProfile (sess : Nat) (ph : Phrase)
  | loadProfile (sess : Nat) (ph : Phrase)
  | setProfileBoot (sess : Nat) (ph : Phrase)
  | resetProfile (sess : Nat) (ph : Phrase)
  | meteringCycle
  | fbTimeout (prod : Nat)
  | startProd (sess : Nat) (ph : Phrase)
  | stopProd (sess : Nat) (ph : Phrase)
  | setProdTarget (sess : Nat) (ph : Phrase)
  | odoCountEdge (unit ts : Nat) (c : CountIn)
  | odoIndexEdge (unit ts : Nat)
  | odoSnapshot
  | odoWindowGate (unit : Nat)
  | odoZerotime (unit : Nat)
  | cmpListRefill (unit : Nat)
  | cmpPulseEnd (unit : Nat)
  | odoPlausCheck
  | startOdo (sess : Nat) (ph : Phrase)
  | stopOdo (sess : Nat) (ph : Phrase)
  | armOdoIdx (sess : Nat) (ph : Phrase)
  | disarmOdoIdx (sess : Nat) (ph : Phrase)
  | getOdoIdx (sess : Nat) (ph : Phrase)
  | setOdoMpcProposed (sess : Nat) (ph : Phrase)
  | armCmp (sess : Nat) (ph : Phrase)
  | disarmCmp (sess : Nat) (ph : Phrase)
  | getCmp (sess : Nat) (ph : Phrase)
  | getCmpList (sess : Nat) (ph : Phrase)
  | sspCycleDue (port : Nat) (dataHigh : Bool)
  | sspTimeout (port : Nat)
  | sspCycleComplete (port : Nat) (bits : List Bool)
  | startSsp (sess : Nat) (ph : Phrase)
  | stopSsp (sess : Nat) (ph : Phrase)
  | startGnss (sess : Nat) (ph : Phrase)
  | stopGnss (sess : Nat) (ph : Phrase)
  | antStateChange (state ma : Nat)
  | antShortRetest (ma : Nat)
  | notchStateChange (k state : Nat) (hz : Int) (full : Bool)
  | jamEval (jami : Nat)
  | acqBurst (assign : List (Nat × Option Int)) (found : List Nat)
  | acqRetry
  | navSubframeDecoded (r : NavIn)
  | channelLockLost (c : Nat)
  | watchCorrelatorScan (c : Nat) (off db : Int)
  | gnssEpochLatch (meas : List ChanMeas) (bias drift : Int)
  | gnssSolution (r : GnssSol)
  | gpsTimeTimeout
  | aidPeriodicSave
  | getGnssPos (sess : Nat) (ph : Phrase)
  | getGnssRaw (sess : Nat) (ph : Phrase)
  | setGnssSubscription (sess : Nat) (ph : Phrase)
  | setAidTime (sess : Nat) (ph : Phrase)
  | setAidPos (sess : Nat) (ph : Phrase)
  | setAidEph (sess : Nat) (ph : Phrase)
  | setAidAlm (sess : Nat) (ph : Phrase)
  | setAidIono (sess : Nat) (ph : Phrase)
  | getAid (sess : Nat) (ph : Phrase)
  | saveAid (sess : Nat) (ph : Phrase)
  | loadAid (sess : Nat) (ph : Phrase)
  | resetAid (sess : Nat) (ph : Phrase)
  | phaseEndTime (u : Nat)
  | phaseTargetReached (u ts : Nat)
  | phaseTlim (u : Nat)
  | decayTfastEnd (u : Nat)
  | slowDecayTimeout (u : Nat)
  | decayComplete (u ts : Nat)
  | pwmPeriodStart (u : Nat)
  | pwmPulseEnd (u : Nat)
  | ditherHalf (u : Nat)
  | dutySample (u ma : Nat)
  | dutyEval (u : Nat)
  | senseCal (u ts : Nat)
  | safenLow (ts : Nat)
  | safenHigh (ts : Nat)
  | startChan (sess : Nat) (ph : Phrase)
  | stopChan (sess : Nat) (ph : Phrase)
  | setChanState (sess : Nat) (ph : Phrase)
  | setChanDuty (sess : Nat) (ph : Phrase)
  | setChanTarget (sess : Nat) (ph : Phrase)
  | setPairLink (sess : Nat) (ph : Phrase)
  | onstateFinding (u : Nat) (r : OnReading)
  | overcurrentTrip (u : Nat) (hs fw ls : Bool) (r : OnReading)
  | overtempTrip (u : Nat) (temp : Int)
  | overtempRelease (u : Nat) (temp : Int)
  | diagSweepStart
  | offstateTestStart (u : Nat)
  | offstateTestComplete (u : Nat) (r : OffReading)
  | diagRetest (u : Nat) (r : OffReading)
  | suspectExpiry (u : Nat)
  | testDiag (sess : Nat) (ph : Phrase) (r : List (Nat × OffReading))
  | resetDiag (sess : Nat) (ph : Phrase) (r : List (Nat × OffReading))
  | grantStart (u : Nat)
  | grantRelease (who : Nat)
  | grantEventSecond (u : Nat)
  | directGrantRetry (u : Nat)
  | grantLedgerCompare (differ : Bool)
  | grantLaneCheckDone (failA failB : Bool)
  | setGrant (sess : Nat) (ph : Phrase)
  | syncSend
  | syncFrameReceived (f g : PeerIn)
  | syncTimeout
  | hbSend
  | hbReceived (f : PeerIn)
  | peerLossCheck
  | peerFrameForward (f : PeerIn)
  | bindFrameReceived (f : PeerIn)
  | unbindFrameReceived (f : PeerIn)
  | bindackFrameReceived (f : PeerIn)
  | fireFrameReceived (f : PeerIn)
  | remoteFireRelease (u : Nat)
  | cancelFrameReceived (f : PeerIn)
  | reportFrameReceived (f : PeerIn)
  | dutyFrameReceived (f : PeerIn)
  | posFrameReceived (f : PeerIn)
  | phrFrameReceived (f : PeerIn)
  | rplFrameReceived (f : PeerIn)
  | ackFrameReceived (f : PeerIn)
  | peerResend (node typ key : Nat)
  | phrFragmentTimeout (node msg : Nat)
  | startPeer (sess : Nat) (ph : Phrase)
  | stopPeer (sess : Nat) (ph : Phrase)
  | canFrameReceived (n ts : Nat) (f : CanFrame)
  | canTxComplete (n ts tdcv : Nat)
  | canArbitrationLost (n : Nat)
  | canBusError (n lec : Nat) (tx dom : Bool)
  | canBusoffRecovery (n : Nat)
  | canIntegrated (n : Nat)
  | startCan (sess : Nat) (ph : Phrase)
  | stopCan (sess : Nat) (ph : Phrase)
  | testCan (sess : Nat) (ph : Phrase)
  | getCanRx (sess : Nat) (ph : Phrase)
  | resetCanRx (sess : Nat) (ph : Phrase)
  | armCanTx (sess : Nat) (ph : Phrase)
  | disarmCanTx (sess : Nat) (ph : Phrase)
  | uartFrameReceived (n : Nat) (r : UartIn)
  | uartHuntIdle (n : Nat)
  | uartXonSend (n : Nat)
  | setUartEnable (sess : Nat) (ph : Phrase)
  | portSettingsApply (n : Nat)
  | armUart2Tx (sess : Nat) (ph : Phrase)
  | getUart2Rx (sess : Nat) (ph : Phrase)
  | resetUart2Rx (sess : Nat) (ph : Phrase)
  | spiCsFall (ts : Nat)
  | spiCsRise (ts : Nat) (bytes : List Nat)
  | i2cXferRead (sess : Nat) (ph : Phrase) (b : I2cBus)
  | i2cXferWrite (sess : Nat) (ph : Phrase) (b : I2cBus)
  | i2cStretchTimeout (n : Nat)
  | pinEdge (k ts : Nat) (high : Bool)
  | pinEvminEnd (k : Nat)
  | pinLevel (k ts : Nat) (high : Bool)
  | pinBankDown (b : Nat)
  | pinBankUp (b : Nat) (levels : List Bool)
  | setPinFunc (sess : Nat) (ph : Phrase)
  | resetPin (sess : Nat) (ph : Phrase)
  | outSetWrite (sess : Nat) (ph : Phrase)
  | outClrWrite (sess : Nat) (ph : Phrase)
  | outTglWrite (sess : Nat) (ph : Phrase)
  | evtClearWrite (sess : Nat) (ph : Phrase)
  | calCompare
  | setTime (sess : Nat) (ph : Phrase)
  | setTimeAlarmin (sess : Nat) (ph : Phrase)
  | rtcAlarmDue
  | rtcStop (ts : Nat)
  | rtcRun (ts : Nat)
  | leapApply
  | hoursSave
  | atticRecordWrite
  | saveAttic (sess : Nat) (ph : Phrase)
  | getAttic (sess : Nat) (ph : Phrase)
  | resetAttic (sess : Nat) (ph : Phrase)
  | attSelHiWrite (sess : Nat) (ph : Phrase)
  | traceLineOut
  | startTrace (sess : Nat) (ph : Phrase)
  | stopTrace (sess : Nat) (ph : Phrase)
  | getTrace (sess : Nat) (ph : Phrase)
  | resetTrace (sess : Nat) (ph : Phrase)
  | traceSleepFlushEnd
  | vlogWarning (mv : Nat)
  | ignChange (high : Bool) (ts : Nat)
  | ignDelayExpiry
  | wakeholdEnd
  | atticCommit
  | shutdownFlushEnd
  | powerDown (vlogMv : Nat)
  | vlogReturn (mv : Nat)
  | powerOnReset (backupLost : Bool) (periods : Nat)
  | rstnAssert
  | rstnRelease
  | boot (r : BootReport)
  | tcxoRetry (found : Bool)
  | deferredBootresTest (u : Nat) (r : OffReading)
  | railStateChange (dieB : Bool) (state : RailIn) (mv : Nat)
  | vxsLow (mv : Nat)
  | standbyWake (w : WakeIn)
  | wakeSequenceComplete (r : WakeReport)
  | standbyVlogLoss (backupLost : Bool)
  | faultDetection (d : Detection)
  | statusFrame (u : Nat) (hs fw ls : Bool) (ts : Nat)
  | seqWatchdog (island : Nat)
  | dielinkFrameTimeout (dieB : Bool)
  | dielinkRetry (dieB : Bool)
  | phraseLaneCompare (differ : Bool) (decode : Option Nat)
  | phraseLaneCheckDone (failA failB : Bool)
  | clockMonitorFault (island : Nat) (stop : Bool) (khz : Nat)
  | regulatorOut (r : Regulator)
  | checkerTest (missing : Option Nat)
  | testFault (sess : Nat) (ph : Phrase) (missing : Option Nat)
  | resetFault (sess : Nat) (ph : Phrase)
  | fltLatchWrite (sess : Nat) (ph : Phrase)
  | hosthbExpiry (part : Nat)
  | faultCoverEvent
  | devLockWrite (sess : Nat) (ph : Phrase)
  | getReg (sess : Nat) (ph : Phrase)
  | showReg (sess : Nat) (ph : Phrase)
  | setReg (sess : Nat) (ph : Phrase)
  | sramBackgroundPass (island : Nat) (multi : Bool)
  | vbakLow (low : Bool)
  | vxsReturn (mv : Nat)
  | channelStateAdvance (c cn0 : Nat) (dop : Int)
  | carrierCycleSlip (c ts : Nat)
  | effectiveStateChange (sec : Nat)
  | remoteFireTime (sec : Nat)
  deriving DecidableEq, Repr

end Sys2Proof
end

