-- ==== Sys2Proof/Config.lean ====
section
/-!
DEFINITION. Sys2Proof/Config.lean: the values the spec leaves open. They are opaque: nothing evaluates them, and a
statement about them holds for every value (notes/assumptions).
-/
namespace Sys2Proof.Config

/-- Free value number `k`: 64 bits that the spec leaves open, such as the challenge from the device's random
source (R107). The state's counter `freeIx` says which is next. -/
opaque freeBits : Nat → BitVec 64

/-- The flow that a product in open loop estimates where UFULL equals UZERO, by QFULL, u and UZERO: R262 divides by their difference. -/
opaque openLoopEstimate : Nat → Int → Int → Nat

end Sys2Proof.Config
end

