-- ==== Sys2Proof/Machine/Text.lean ====
section
/-!
DEFINITION. Sys2Proof/Machine/Text.lean: characters and numbers of phrases and replies: splitting, the number forms
of Table SCO-2, lists, times, the CRC-8 of R63 and the CRC-32 of R211. All by structural recursion.
-/
namespace Sys2Proof.Machine

/-- Upper case (R55). -/
def upper (s : String) : String := String.ofList (s.toList.map Char.toUpper)

/-- Lower case, for the keys of DA and EV lines (R65). -/
def lower (s : String) : String := String.ofList (s.toList.map Char.toLower)

/-- Split a list of characters at every `c`. -/
def splitChars (c : Char) : List Char → List (List Char)
  | [] => [[]]
  | x :: xs =>
    match splitChars c xs with
    | [] => [[x]]
    | p :: ps => if x = c then [] :: p :: ps else (x :: p) :: ps

/-- Split a string at every `c`. -/
def splitStr (c : Char) (s : String) : List String := (splitChars c s.toList).map String.ofList

/-- Join with a separator. -/
def joinWith (sep : String) : List String → String
  | [] => ""
  | [x] => x
  | x :: xs => x ++ sep ++ joinWith sep xs

/-- The value of a decimal digit. -/
def digit (c : Char) : Option Nat := if '0' ≤ c ∧ c ≤ '9' then some (c.toNat - 48) else none

/-- The value of a hexadecimal digit, of either case. -/
def hexDigit (c : Char) : Option Nat :=
  if '0' ≤ c ∧ c ≤ '9' then some (c.toNat - 48)
  else if 'a' ≤ c ∧ c ≤ 'f' then some (c.toNat - 87)
  else if 'A' ≤ c ∧ c ≤ 'F' then some (c.toNat - 55)
  else none

/-- Decimal digits, at least one. -/
def natOf : List Char → Option Nat
  | [] => none
  | cs => cs.foldl (fun a c => match a, digit c with
    | some n, some d => some (10 * n + d)
    | _, _ => none) (some 0)

/-- Hexadecimal digits with underscores ignored, at least one digit. -/
def hexOf (cs : List Char) : Option Nat :=
  match cs.filter (· ≠ '_') with
  | [] => none
  | ds => ds.foldl (fun a c => match a, hexDigit c with
    | some n, some d => some (16 * n + d)
    | _, _ => none) (some 0)

/-- An unsigned number: decimal, or hexadecimal after 0x (Table PHR-3). -/
def parseNat (s : String) : Option Nat :=
  match s.toList with
  | '0' :: 'x' :: cs => hexOf cs
  | '0' :: 'X' :: cs => hexOf cs
  | cs => natOf cs

/-- A number with an optional sign (Table PHR-3). -/
def parseInt (s : String) : Option Int :=
  match s.toList with
  | '-' :: cs => (natOf cs).map fun n => -(n : Int)
  | '+' :: cs => (natOf cs).map fun n => (n : Int)
  | _ => (parseNat s).map fun n => (n : Int)

/-- A time: an integer followed by us, ms or s; in microseconds (Table PHR-3). -/
def parseTime (s : String) : Option Nat :=
  match (upper s).toList.reverse with
  | 'S' :: 'U' :: cs => natOf cs.reverse
  | 'S' :: 'M' :: cs => (natOf cs.reverse).map (1000 * ·)
  | 'S' :: cs => (natOf cs.reverse).map (1000000 * ·)
  | _ => none

/-- `n, n+1, …`, `k` numbers. -/
def natsFrom (n : Nat) : Nat → List Nat
  | 0 => []
  | k + 1 => n :: natsFrom (n + 1) k

/-- Insert into a rising list without repeats. -/
def insertNat (n : Nat) : List Nat → List Nat
  | [] => [n]
  | x :: xs => if n < x then n :: x :: xs else if n = x then x :: xs else x :: insertNat n xs

/-- One item of a list: a value or a range `n-m`. `some none` is a range with n > m. -/
def listItem (s : String) : Option (Option (List Nat)) :=
  match splitStr '-' s with
  | [a] => (parseNat a).map fun n => some [n]
  | [a, b] =>
    match parseNat a, parseNat b with
    | some n, some m => if m < n then some none else some (some (natsFrom n (m + 1 - n)))
    | _, _ => none
  | _ => none

/-- A list of numbers (Table PHR-3): `NONE` or comma-separated values and ranges, duplicates merged. -/
def parseList (s : String) : Option (List Nat) :=
  if upper s = "NONE" then some []
  else (splitStr ',' s).foldl (fun a t => match a, listItem t with
    | some xs, some (some ys) => some (ys.foldl (fun l y => insertNat y l) xs)
    | _, _ => none) (some [])

/-- A value that holds a descending list range, which is bad form (Table PHR-3, Table PHR-7). -/
def descending (s : String) : Bool := (splitStr ',' s).any fun t => listItem t == some none

/-- Split a rising list into runs. -/
def runs : List Nat → List (Nat × Nat)
  | [] => []
  | n :: ns =>
    match runs ns with
    | (a, b) :: rs => if a = n + 1 then (n, b) :: rs else (n, n) :: (a, b) :: rs
    | [] => [(n, n)]

/-- A list as replies give it: ranges merged, `NONE` when empty (Table PHR-3, R86). -/
def showList (xs : List Nat) : String :=
  match xs with
  | [] => "NONE"
  | _ => joinWith "," ((runs xs).map fun r => if r.1 = r.2 then toString r.1 else toString r.1 ++ "-" ++ toString r.2)

/-- A time in microseconds as replies give it (R86). -/
def showTime (us : Nat) : String :=
  if us % 1000000 = 0 then toString (us / 1000000) ++ "s"
  else if us % 1000 = 0 then toString (us / 1000) ++ "ms"
  else toString us ++ "us"

/-- One upper-case hexadecimal digit. -/
def hexChar (n : Nat) : Char := if n < 10 then Char.ofNat (48 + n) else Char.ofNat (55 + n)

/-- The lowest `k` hexadecimal digits of `n`, most significant first. -/
def hexDigits (n : Nat) : Nat → List Char
  | 0 => []
  | k + 1 => hexDigits (n / 16) k ++ [hexChar (n % 16)]

/-- Underscores every four digits from the right, on reversed digits (Table SCO-2). -/
def underscores : Nat → List Char → List Char
  | _, [] => []
  | 4, c :: cs => '_' :: c :: underscores 1 cs
  | k, c :: cs => c :: underscores (k + 1) cs

/-- `0x` and `k` digits with underscores. -/
def showHex (k n : Nat) : String := "0x" ++ String.ofList (underscores 0 (hexDigits n k).reverse).reverse

/-- How many hexadecimal digits a number needs, at least one. -/
def hexLen (n : Nat) : Nat := if n = 0 then 1 else Nat.log2 n / 4 + 1

/-- Bytes in the hexadecimal form of R210, first byte first; `NONE` when there are none. -/
def showBytes (bs : List Nat) : String :=
  match bs with
  | [] => "NONE"
  | _ => "0x" ++ String.ofList (underscores 0 ((bs.map fun b => hexDigits b 2).flatten).reverse).reverse

/-- Pairs of hexadecimal digits. -/
def bytePairs : List Char → Option (List Nat)
  | [] => some []
  | a :: b :: cs =>
    match hexDigit a, hexDigit b, bytePairs cs with
    | some x, some y, some bs => some ((16 * x + y) :: bs)
    | _, _, _ => none
  | [_] => none

/-- Bytes given in hexadecimal form (R210): an even number of digits after 0x, or `NONE`. -/
def parseBytes (s : String) : Option (List Nat) :=
  if upper s = "NONE" then some []
  else match s.toList with
    | '0' :: x :: cs => if x = 'x' ∨ x = 'X' then bytePairs (cs.filter (· ≠ '_')) else none
    | _ => none

/-- One shift of the CRC-8 of R63. -/
def crc8Shift (c : Nat) : Nat := if 128 ≤ c then Nat.xor ((2 * c) % 256) 7 else 2 * c

/-- The CRC-8 of R63 over one more character. -/
def crc8Byte (crc : Nat) (c : Char) : Nat :=
  (List.range 8).foldl (fun a _ => crc8Shift a) (Nat.xor crc (c.toNat % 256))

/-- The CRC-8 of R63. -/
def crc8 (cs : List Char) : Nat := cs.foldl crc8Byte 0

/-- One shift of the reflected CRC-32 of R211. -/
def crc32Shift (c : Nat) : Nat := if c % 2 = 1 then Nat.xor (c / 2) 0xEDB88320 else c / 2

/-- The CRC-32 of R211 over a list of bytes. -/
def crc32 (bs : List Nat) : Nat :=
  Nat.xor (bs.foldl (fun a b => (List.range 8).foldl (fun x _ => crc32Shift x) (Nat.xor a (b % 256))) 0xFFFFFFFF) 0xFFFFFFFF

/-- The lowest `k` bytes of `n`, little-endian. -/
def leBytes (n : Nat) : Nat → List Nat
  | 0 => []
  | k + 1 => n % 256 :: leBytes (n / 256) k

/-- Signed to two's complement of `bits` bits. -/
def toTwos (bits : Nat) (i : Int) : Nat := (i % (2 ^ bits : Int)).toNat

/-- Two's complement of `bits` bits to signed. -/
def ofTwos (bits n : Nat) : Int := if n % 2 ^ bits < 2 ^ (bits - 1) then (n % 2 ^ bits : Nat) else ((n % 2 ^ bits : Nat) : Int) - (2 ^ bits : Int)

/-- The number of little-endian bytes. -/
def leNat : List Nat → Nat
  | [] => 0
  | b :: bs => b % 256 + 256 * leNat bs

/-- ON or OFF. -/
def onOff (b : Bool) : String := if b then "ON" else "OFF"

/-- YES or NO. -/
def yesNo (b : Bool) : String := if b then "YES" else "NO"

/-- Round `a / b` to the nearest integer, halves away from zero (R25, R286). -/
def divRound (a : Int) (b : Nat) : Int :=
  if a < 0 then -((((-a).toNat * 2 + b) / (2 * b) : Nat) : Int) else (((a.toNat * 2 + b) / (2 * b) : Nat) : Int)

/-- Divide natural numbers, rounding up. -/
def ceilDiv (a b : Nat) : Nat := (a + b - 1) / b

end Sys2Proof.Machine
end

