-- ==== Sys2Proof/Machine/Parse.lean ====
section
/-!
DEFINITION. Sys2Proof/Machine/Parse.lean: from the characters of a line to a phrase, or to the first error of the
checks that need no state (R54 to R64, R70 checks 2 to 5, 7 and 8).
-/
namespace Sys2Proof.Machine

/-- The words of the verbs, in the order of Table PHR-4. -/
def verbWords : List (String × Verb) :=
  [("SET", .set), ("GET", .get), ("SHOW", .showV), ("START", .start), ("STOP", .stop), ("ARM", .arm),
   ("DISARM", .disarm), ("RESET", .reset), ("LOAD", .load), ("SAVE", .save), ("TEST", .test), ("WATCH", .watch),
   ("LOGIN", .login), ("LOGOUT", .logout), ("HELP", .help)]

/-- The words of the adverbs, in the order of Table PHR-5. -/
def adverbWords : List (String × Adverb) :=
  [("NOW", .now), ("ONCE", .once), ("NEW", .new), ("EVERY", .every), ("UNTIL", .until), ("QUIET", .quiet),
   ("FORCE", .force)]

/-- The words of the nouns, in the order of Table PHR-9. -/
def nounWords : List (String × Noun) :=
  [("SESSION", .session), ("DEVICE", .device), ("PART", .part), ("KEY", .key), ("IMPL", .impl), ("SEC", .sec),
   ("PROD", .prod), ("CHAN", .chan), ("PAIR", .pair), ("PROF", .prof), ("GDR", .gdr), ("DIAG", .diag),
   ("GRANT", .grant), ("ODO", .odo), ("CMP", .cmp), ("SSP", .ssp), ("GNSS", .gnss), ("SAT", .sat), ("AID", .aid),
   ("MAP", .map), ("CELLAR", .cellar), ("LARDER", .larder), ("LOG", .log), ("PROFILE", .profile), ("CAN", .can),
   ("FILTER", .filter), ("PEER", .peer), ("NODE", .node), ("UART", .uart), ("SPI", .spi), ("I2C", .i2c),
   ("PIN", .pin), ("TIME", .time), ("ATTIC", .attic), ("TRACE", .trace), ("POWER", .power), ("FAULT", .fault),
   ("REG", .reg)]

/-- Look a word up. -/
def wordFind {α : Type} (w : String) : List (String × α) → Option α
  | [] => none
  | (k, a) :: t => if k = w then some a else wordFind w t

/-- The word of an entry. -/
def wordOf {α : Type} [DecidableEq α] (a : α) : List (String × α) → String
  | [] => ""
  | (k, b) :: t => if b = a then k else wordOf a t

/-- The word of a noun. -/
def nounWord (n : Noun) : String := wordOf n nounWords

/-- The word of a verb. -/
def verbWord (v : Verb) : String := wordOf v verbWords

/-- Which indices a noun has (R59, Table PHR-9): whether it may stand without one, and which it accepts. -/
def nounIndex (n : Noun) : Bool × (Nat → Bool) :=
  match n with
  | .session | .device | .aid | .cellar | .log | .peer | .spi | .time | .trace | .power => (true, fun _ => false)
  | .part | .impl => (false, fun i => i < 4)
  | .key => (false, fun i => i = 0)
  | .sec => (false, fun i => i < 256)
  | .prod | .odo | .cmp | .gdr => (false, fun i => i < 8)
  | .chan => (false, fun i => i < 48)
  | .pair => (false, fun i => i < 48 && i % 2 == 0)
  | .prof => (false, fun i => i < 16)
  | .diag => (false, fun i => i < 56)
  | .grant => (false, fun i => i < 3 || (100 ≤ i && i < 156))
  | .ssp | .i2c => (false, fun i => i < 2)
  | .gnss | .fault => (true, fun i => i < 4)
  | .sat => (false, fun i => i < 24)
  | .map => (true, fun i => i < 4 || (10 ≤ i && i < 18))
  | .larder => (true, fun i => i < 5)
  | .profile => (true, fun i => i < 8)
  | .can | .filter => (false, fun i => i < 4)
  | .node => (false, fun i => i < 128)
  | .uart => (false, fun i => i < 3)
  | .pin => (false, fun i => i < 64)
  | .attic => (true, fun i => i < 2)
  | .reg => (false, fun i => i < 4294967296)

/-- Which subs a noun has (Table PHR-9). -/
def nounSub (n : Noun) (hasIdx : Bool) (sub : String) : Bool :=
  match n with
  | .impl => sub = "POS" || sub = "MOT"
  | .prof => ["PH0", "PH1", "PH2", "PH3", "PH4", "PH5"].contains sub
  | .odo => sub = "IDX"
  | .gnss => hasIdx && (sub = "POS" || sub = "RAW")
  | .aid => ["TIME", "POS", "EPH", "ALM", "IONO"].contains sub
  | .can => sub = "RX" || sub = "TX"
  | .filter => match sub.toList with
    | 'E' :: ds => match natOf ds with
      | some k => k < 128
      | none => false
    | _ => false
  | .uart => sub = "RX" || sub = "TX"
  | .i2c => sub = "XFER"
  | _ => false

/-- The result of reading a noun token: a noun, no such noun, or bad form (an index of neither form of R56, or a range with n ≥ m). -/
inductive NounRead
  | ok (r : NounRef)
  | unknown
  | bad
  deriving DecidableEq, Repr

/-- Check index and sub of a noun against Table PHR-9. -/
def nounCheck (n : Noun) (i : Idx) (sub : String) : NounRead :=
  let ix := nounIndex n
  let subOk := sub = "" || (nounSub n (i != .none) sub && (n != .uart || i == .one 2))
  match i with
  | .none => if ix.1 && subOk then .ok ⟨n, .none, sub⟩ else .unknown
  | .one a => if ix.2 a && subOk then .ok ⟨n, i, sub⟩ else .unknown
  | .range a b =>
    if b ≤ a then .bad
    else if ix.2 a && ix.2 b && subOk then .ok ⟨n, i, sub⟩ else .unknown

/-- A character that no value holds (R57). -/
def badValueChar (c : Char) : Bool := c = '=' || c = '#' || c = '@' || c = '*'

/-- The result of reading an index: an index, a value that no noun has, or neither form of R56. -/
inductive IdxRead
  | ok (i : Idx)
  | outside
  | bad
  deriving DecidableEq, Repr

/-- Read an index: one value or a range (R56, Table PHR-3). -/
def readIdx (s : String) : IdxRead :=
  match parseInt s with
  | some i => if 0 ≤ i then .ok (.one i.toNat) else .outside
  | none => match splitStr '-' s with
    | [a, b] => match parseNat a, parseNat b with
      | some n, some m => .ok (.range n m)
      | _, _ => .bad
    | _ => .bad

/-- The element is a word, so it can only be a sub. -/
def subWord (e : String) : Bool := match e.toList with
  | c :: _ => c.isAlpha
  | [] => false

/-- Read a noun token (R55, R56, R59). A noun without an index may carry a sub directly (AID.TIME). -/
def readNoun (tok : String) : NounRead :=
  let known (w : String) (f : Noun → NounRead) : NounRead := match wordFind w nounWords with
    | some k => f k
    | none => .unknown
  let indexed (w i sub : String) : NounRead :=
    if subWord i then .unknown
    else match readIdx i with
      | .ok x => known w fun k => nounCheck k x sub
      | .outside => .unknown
      | .bad => .bad
  if tok.toList.any badValueChar then .bad
  else match splitStr '.' (upper tok) with
  | [n] => known n fun k => nounCheck k .none ""
  | [n, i] => if subWord i then known n fun k => if k = .aid then nounCheck k .none i else .unknown else indexed n i ""
  | [n, i, s] => if s = "" then .bad else indexed n i s
  | _ => .unknown

/-- Read the noun token of a phrase: HELP also takes the bare word of a noun that has instances (R85). -/
def readNounOf (v : Verb) (tok : String) : NounRead :=
  match readNoun tok with
  | .unknown => if v = .help then (match wordFind (upper tok) nounWords with
      | some n => .ok ⟨n, .none, ""⟩
      | none => .unknown) else .unknown
  | r => r

/-- The adverbs each verb accepts (R61, Table PHR-5). FORCE is valid only where a chapter names it: STOP PEER. -/
def adverbAllowed (v : Verb) (n : Option Noun) (a : Adverb) : Bool :=
  match a with
  | .now => v = .set || v = .start || v = .stop
  | .once | .every | .until => v = .watch
  | .new => v = .get
  | .quiet => v = .set || v = .start || v = .stop || v = .arm || v = .disarm || v = .reset
  | .force => v = .stop && n = some .peer

/-- One token after the noun: an adverb, an attribute, or bad form. -/
inductive TokRead
  | adv (a : AdvTok)
  | attr (a : AttrTok)
  | bad
  deriving DecidableEq, Repr

/-- Read one attribute or adverb token (R55, R57). -/
def readTok (tok : String) : TokRead :=
  match splitStr '=' tok with
  | [w] =>
    match wordFind (upper w) adverbWords with
    | some .every | some .until => .bad
    | some a => .adv { adv := a, tok := tok }
    | none => if w.toList.any badValueChar || w = "" then .bad else .attr { name := upper w, tok := tok }
  | [w, v] =>
    if w = "" || v = "" || v.toList.any badValueChar || w.toList.any badValueChar then .bad
    else match wordFind (upper w) adverbWords with
      | some .every => .adv { adv := .every, value := some v, tok := tok }
      | some .until => .adv { adv := .until, value := some v, tok := tok }
      | some _ => .bad
      | none => if descending v then .bad else .attr { name := upper w, value := some v, tok := tok }
  | _ => .bad

/-- The verbs with which a bare attribute name is good form (Table PHR-2). -/
def bareOk (v : Verb) : Bool := v = .get || v = .showV || v = .watch

/-- Read the tokens after the noun in order: attributes, then adverbs. -/
def readToks (v : Verb) : List String → List AttrTok → List AdvTok → Except String (List AttrTok × List AdvTok)
  | [], as, ds => .ok (as.reverse, ds.reverse)
  | t :: ts, as, ds =>
    match readTok t with
    | .bad => .error t
    | .adv a => if ds.any fun d => d.adv = a.adv then .error t else readToks v ts as (a :: ds)
    | .attr a =>
      if !ds.isEmpty || (as.any fun b => b.name = a.name) || (a.value.isNone && !bareOk v) then .error t
      else readToks v ts (a :: as) ds

/-- The outcome of reading a whole line, by the checks of R70 that need no state. -/
inductive LineRead
  | empty
  | reject (e : Err) (tag : Option String) (checked : Bool)          -- checks 2 to 5
  | routed (node : Nat) (tag : Option String) (checked : Bool) (text : String)
  | late (e : Err) (tag : Option String) (checked : Bool)            -- checks 7 and 8: the line passed 1 to 5
  | phrase (p : Phrase)
  deriving DecidableEq, Repr

/-- The tokens of a line. -/
def tokens (cs : List Char) : List String :=
  (splitChars ' ' cs).filterMap fun t => if t.isEmpty then none else some (String.ofList t)

/-- A route token: @ and a node address 0 to 127 (Table PHR-2). -/
def readRoute (t : String) : Option Nat :=
  match t.toList with
  | '@' :: ds => (natOf ds).bind fun n => if n < 128 then some n else none
  | _ => none

/-- A tag token: # and 1 to 5 decimal digits; the digits as sent (R62). -/
def readTag (t : String) : Option String :=
  match t.toList with
  | '#' :: ds => if ds.length ≤ 5 then (natOf ds).map fun _ => String.ofList ds else none
  | _ => none

/-- The tag an ER line carries: when route and tag are valid as far as the tag (R62). -/
def tagOf : List String → Option String
  | t :: ts => match readRoute t with
    | some _ => match ts with
      | u :: _ => readTag u
      | [] => none
    | none => readTag t
  | [] => none

/-- The check field of R63. -/
inductive CheckRead
  | none_
  | bad (tok : String)
  | field (body : List Char) (crc : Nat)
  deriving DecidableEq, Repr

/-- Drop trailing spaces. -/
def trimRight (cs : List Char) : List Char := (cs.reverse.dropWhile (· = ' ')).reverse

/-- Look for the check field (R63): a space, `*` and two hexadecimal digits ending the line. -/
def readCheck (cs : List Char) : CheckRead :=
  let line := trimRight cs
  if !line.contains '*' then .none_
  else match line.reverse with
    | b :: a :: '*' :: ' ' :: body =>
      match hexDigit a, hexDigit b with
      | some x, some y => if body.contains '*' then .bad (firstStar (tokens line)) else .field body.reverse (16 * x + y)
      | _, _ => .bad (firstStar (tokens line))
    | _ => .bad (firstStar (tokens line))
where
  /-- The first token with a `*`. -/
  firstStar (ts : List String) : String := ((ts.find? fun t => t.toList.contains '*').getD "")

/-- Read verb, noun, attributes and adverbs: checks 5, 7 and 8 of R70. -/
def readBody (tag : Option String) (checked : Bool) (toks : List String) : LineRead :=
  match toks with
  | [] => .reject ⟨.syntax_, some ""⟩ tag checked
  | vt :: rest =>
    match wordFind (upper vt) verbWords with
    | none =>
      if (readRoute vt).isSome || vt.toList.head? = some '@' || vt.toList.head? = some '#' then
        .reject ⟨.syntax_, some vt⟩ tag checked
      else
        -- an unknown verb: the form of what follows is still checked first (R70)
        match readToks .get (rest.drop 1) [] [] with
        | .error t => .reject ⟨.syntax_, some t⟩ tag checked
        | .ok _ => .late ⟨.verb, none⟩ tag checked
    | some v =>
      if v = .login && (rest.head?.map upper) = some "SUPER" then
        match readToks v (rest.drop 1) [] [] with
        | .error t => .reject ⟨.syntax_, some t⟩ tag checked
        | .ok (as, ds) => match ds with
          | d :: _ => .reject ⟨.syntax_, some d.tok⟩ tag checked
          | [] => .phrase { verb := v, verbTok := vt, attrs := ⟨"SUPER", none, rest.headD ""⟩ :: as, tag := tag, checked := checked }
      else match rest with
        | [] =>
          if v = .help || v = .logout || v = .showV then .phrase { verb := v, verbTok := vt, tag := tag, checked := checked }
          else .reject ⟨.syntax_, some vt⟩ tag checked
        | nt :: more =>
          let nr := readNounOf v nt
          let noun := match nr with
            | .ok r => some r.noun
            | _ => none
          if v = .logout then .reject ⟨.syntax_, some nt⟩ tag checked
          else if nr = .bad then .reject ⟨.syntax_, some nt⟩ tag checked
          else match readToks v more [] [] with
            | .error t => .reject ⟨.syntax_, some t⟩ tag checked
            | .ok (as, ds) =>
              match ds.find? fun d => !adverbAllowed v noun d.adv with
              | some d => .reject ⟨.syntax_, some d.tok⟩ tag checked
              | none =>
                match nr with
                | .ok r =>
                  match r.idx with
                  | .range _ _ =>
                    if [Verb.set, .get, .showV, .start, .stop, .arm, .disarm, .reset, .test].contains v then
                      .phrase { verb := v, verbTok := vt, noun := some r, nounTok := nt, attrs := as, advs := ds, tag := tag, checked := checked }
                    else .reject ⟨.syntax_, some nt⟩ tag checked
                  | _ => .phrase { verb := v, verbTok := vt, noun := some r, nounTok := nt, attrs := as, advs := ds, tag := tag, checked := checked }
                | _ => .late ⟨.noun, some nt⟩ tag checked

/-- The text of a routed phrase without its route element (R82). -/
def dropRoute (cs : List Char) : String :=
  String.ofList (((cs.dropWhile (· = ' ')).dropWhile (· ≠ ' ')).dropWhile (· = ' '))

/-- Read a line as received (R54 to R64): `bad` when it holds a character outside 0x20 to 0x7E or a tagged one,
`tooLong` when it exceeded 200 characters, `self` the device's own node address. -/
def readLine (cs : List Char) (bad tooLong : Bool) (self : Option Nat) : LineRead :=
  let toks := tokens cs
  let tag := tagOf toks
  if toks.isEmpty && !bad && !tooLong then .empty
  else
    let chk := readCheck cs
    let carries := match chk with
      | .field _ _ => true
      | _ => false
    if bad then .reject ⟨.char, none⟩ tag carries
    else if tooLong then .reject ⟨.syntax_, none⟩ tag carries
    else match chk with
      | .bad t => .reject ⟨.syntax_, some (String.ofList (t.toList.take 32))⟩ tag false
      | .none_ => go toks tag false cs
      | .field body crc =>
        if crc8 body = crc then go (tokens body) tag true body else .reject ⟨.check, none⟩ tag true
where
  /-- Route, tag, and the rest. -/
  go (toks : List String) (tag : Option String) (checked : Bool) (cs : List Char) : LineRead :=
    match toks with
    | [] => .reject ⟨.syntax_, some ""⟩ tag checked
    | t :: ts =>
      if t.toList.head? = some '@' then
        match readRoute t with
        | none => .reject ⟨.syntax_, some t⟩ tag checked
        | some n =>
          let b := if ts.isEmpty then .reject ⟨.syntax_, some t⟩ tag checked else readBody' ts checked
          if self = some n then b
          else match b with
            | .reject e tg c => .reject e tg c
            | _ => .routed n tag checked (dropRoute cs)
      else readBody' toks checked
  /-- Tag, then verb and the rest. -/
  readBody' (toks : List String) (checked : Bool) : LineRead :=
    match toks with
    | t :: ts =>
      if t.toList.head? = some '#' then
        match readTag t with
        | none => .reject ⟨.syntax_, some t⟩ none checked
        | some g => if ts.isEmpty then .reject ⟨.syntax_, some t⟩ (some g) checked else readBody (some g) checked ts
      else readBody none checked toks
    | [] => .reject ⟨.syntax_, some ""⟩ none checked

end Sys2Proof.Machine
end

