-- ==== Sys2Proof/Machine/Tab.lean ====
section
/-!
DEFINITION. Sys2Proof/Machine/Tab.lean: the sparse table that every numbered collection of the state is held in
(one canonical form, so that equal collections are equal data), and the keyed map beside it.
-/
namespace Sys2Proof

/-- A collection of numbered instances: pairs of number and value, numbers strictly rising, no value equal
to the default `d` that an unlisted number has. -/
abbrev Tab (α : Type) := List (Nat × α)

/-- The value at number `k`; an unlisted number has `d`. -/
def Tab.get {α : Type} (d : α) : Tab α → Nat → α
  | [], _ => d
  | (j, v) :: t, k => if j = k then v else Tab.get d t k

/-- Insert or replace, keeping the numbers rising. -/
def Tab.ins {α : Type} (k : Nat) (v : α) : Tab α → Tab α
  | [] => [(k, v)]
  | (j, w) :: t =>
    if k < j then (k, v) :: (j, w) :: t
    else if j = k then (k, v) :: t
    else (j, w) :: Tab.ins k v t

/-- Take number `k` out. -/
def Tab.del {α : Type} (k : Nat) : Tab α → Tab α
  | [] => []
  | (j, w) :: t => if j = k then Tab.del k t else (j, w) :: Tab.del k t

/-- Write `v` at `k`: a value equal to the default is not listed. -/
def Tab.set {α : Type} [DecidableEq α] (d : α) (t : Tab α) (k : Nat) (v : α) : Tab α :=
  if v = d then Tab.del k t else Tab.ins k v t

/-- Every number of the table is above `k`. -/
def Tab.above {α : Type} (k : Nat) (t : Tab α) : Bool := t.all fun p => decide (k < p.1)

/-- The canonical form: numbers strictly rising, and no listed value equal to the default. -/
def Tab.wf {α : Type} [DecidableEq α] (d : α) : Tab α → Bool
  | [] => true
  | (j, v) :: t => Tab.above j t && decide (v ≠ d) && Tab.wf d t

/-- The numbers listed, rising. -/
def Tab.keys {α : Type} (t : Tab α) : List Nat := t.map Prod.fst

/-- A collection keyed by something other than a number, unlisted keys having a default. -/
abbrev AMap (κ α : Type) := List (κ × α)

/-- The value at `k`, if listed. -/
def AMap.find {κ α : Type} [DecidableEq κ] : AMap κ α → κ → Option α
  | [], _ => none
  | (j, v) :: t, k => if j = k then some v else AMap.find t k

/-- Replace the value at `k`, or add it at the end. -/
def AMap.put {κ α : Type} [DecidableEq κ] (k : κ) (v : α) : AMap κ α → AMap κ α
  | [] => [(k, v)]
  | (j, w) :: t => if j = k then (k, v) :: t else (j, w) :: AMap.put k v t

/-- Take the key out. -/
def AMap.del {κ α : Type} [DecidableEq κ] (k : κ) (t : AMap κ α) : AMap κ α :=
  t.filter fun p => !decide (p.1 = k)

end Sys2Proof
end

