-- ==== Sys2Proof/Machine/State.lean ====
section
/-!
DEFINITION. Sys2Proof/Machine/State.lean: everything the spec gives the block, as plain data; the closed lists of
faults and refusals; and the state right after reset.
-/
namespace Sys2Proof.Machine

/-! ### Device, time, sessions, partitions (01, 02, 03, 17, 18) -/

/-- The three variants (R1, Table SCO-1). -/
inductive Variant
  | sdx9640 | sdx9624 | sdx9640n
  deriving DecidableEq, Repr

/-- The device states (R616, Table PWR-3). -/
inductive DState
  | off | standby | boot | ready | run | safe | shutdown
  deriving DecidableEq, Repr

/-- The cause words of Table PWR-5, and WAKE. -/
inductive Cause
  | poweron | rstn | watchdog | device | return_ | wake
  deriving DecidableEq, Repr

/-- The island states (R39, Table MAC-5). -/
inductive IslState
  | active | stopped | retired | absent
  deriving DecidableEq, Repr

/-- The partition states (R115, Table PRT-3). -/
inductive PState
  | stopped | running | faulted | resetting
  deriving DecidableEq, Repr

/-- The source of calendar time (R576). -/
inductive CalSrc
  | none_ | gps | host
  deriving DecidableEq, Repr

/-- The value of an attribute: a number in the smallest unit the attribute has (times in microseconds), a word,
or a list (R57, Table PHR-3). -/
inductive Val
  | n (i : Int)
  | w (s : String)
  | l (xs : List Nat)
  deriving DecidableEq, Repr

/-- The key of one attribute of one instance in the stored configuration. -/
structure CKey where
  noun : Noun
  idx  : Nat
  sub  : String
  name : String
  deriving DecidableEq, Repr

/-- A watch of a session (R77, R78). -/
structure Watch where
  noun     : Noun
  idx      : Nat
  hasIdx   : Bool := true
  sub      : String := ""
  names    : List String := []
  every    : Option Nat := none   -- ns
  untilAt  : Option Nat := none   -- SYSTIME, ns
  lastAt   : Nat := 0             -- SYSTIME of the last line
  lastVals : List (String × String) := []
  lastErr  : Bool := false
  deriving DecidableEq, Repr

/-- One session (R51 to R53, Tables PHR-1 and PHR-10). `line` holds the input characters, with 256 added to a
character stored with a port tag; `owed` the reply lines that found no space; `out` the pieces waiting in the
output queue. -/
structure Session where
  opened    : Bool := false
  part      : Nat := 0
  super     : Bool := false
  echo      : Bool := false
  prompt    : Bool := false
  reqcheck  : Bool := false
  evcheck   : Bool := false
  faultOnly : Bool := false
  line      : List Nat := []
  tooLong   : Bool := false
  afterCR   : Bool := false
  queue     : List QEntry := []
  owed      : List String := []
  out       : List String := []
  evseq     : Nat := 0
  lost      : Nat := 0
  watches   : List Watch := []
  epochs    : AMap (Noun × Nat × String) Nat := []
  lastPhrase : Nat := 0
  chal      : Option (BitVec 64 × Nat) := none
  origin    : Option (Nat × Nat) := none   -- peer session: originating device and session (R84)
  lastUse   : Nat := 0
  hiLatch   : AMap Nat Nat := []            -- 64-bit register reads (R602, R738)
  hostRecs  : List Nat := []                -- instants of this session's HOST records (R590)
  unchecked : Option Nat := none            -- last unchecked acting phrase (R669, gap CHECK)
  msgs      : List Nat := []                -- peer session: MSG of the phrases it holds, oldest first (R465)
  await     : Option Phrase := none         -- a phrase executed whose reply is still to come (R130, R458)
  deriving DecidableEq, Repr

/-- A routed phrase that awaits its node (R82, R95). -/
structure Routed where
  sess    : Nat
  node    : Nat
  tag     : Option String
  checked : Bool
  since   : Nat
  msg     : Nat := 0            -- MSG of its PHR frames
  deriving DecidableEq, Repr

/-- One partition (R115, Table PRT-3). -/
structure Part where
  state    : PState := .stopped
  cause    : String := ""
  resets   : Word := 0
  pendFault : Option String := none   -- a fault that arose while RESETTING (R122)
  hbStart  : Nat := 0                 -- start of the heartbeat timer (R660)
  hbexp    : Nat := 0
  wasLast  : List Nat := []           -- sessions owed the OK of a RESET PART (R94, R130)
  deriving DecidableEq, Repr

/-- Time bases (R572 to R582). -/
structure Times where
  sys     : Nat := 0            -- SYSTIME, whole ns
  rem     : Nat := 0            -- remainder, in 1/3,069 ns (R573)
  cal     : Nat := 0            -- CAL, ns
  calSrc  : CalSrc := .none_
  leap    : Nat := 18
  leapv   : Bool := false
  leapSched : Option (Nat × Nat) := none   -- (CAL instant of the end of the UTC day in s, new LEAP)
  gpsOff  : Option Int := none
  gpsFirst : Bool := false      -- GPS time became valid and no comparison was made yet (R577)
  lastCmp : Nat := 0            -- GPS second of the last comparison
  rtctrim : Int := 0
  rtcRC   : Bool := false
  alarm   : Option Nat := none  -- SYSTIME, ns
  alarmIn : Nat := 0            -- ALARMIN as it was set, us
  hoursNs : Nat := 0            -- operating hours, in ns
  mramHours : Nat := 0          -- s, in MRAM
  mramTrim : Int := 0           -- RTC trim, in MRAM (R592)
  boots   : Nat := 0
  deriving DecidableEq, Repr

/-- One attic record (R585, Table ATT-2) without its CRC, which is computed. -/
structure ARec where
  log     : Nat
  code    : Nat
  flags   : Nat := 0
  seq     : Nat := 0
  src     : Nat := 255
  inst    : Nat := 255
  sess    : Nat := 255
  part    : Nat := 255
  stamp   : Nat := 0
  systime : Nat := 0
  data    : List Nat := []
  deriving DecidableEq, Repr

/-- The attic (R583 to R593, R603). -/
structure Attic where
  pend   : List ARec := []
  ring0  : Tab ARec := []
  ring1  : Tab ARec := []
  next0  : Nat := 1
  next1  : Nat := 1
  torn0  : Bool := false     -- the next slot of a full log is torn (R583, R588)
  torn1  : Bool := false
  bad0   : List Nat := []
  bad1   : List Nat := []
  lost0  : Nat := 0
  lost1  : Nat := 0
  gapEv0 : Option Nat := none
  gapEv1 : Option Nat := none
  scanned : Bool := false    -- the scan of this BOOT is done (R635)
  committed : Bool := false  -- the commit of this shutdown has begun (R592)
  selLo  : Word := 0
  selHi  : Word := 0
  winst  : Nat := 0
  win    : Option ARec := none
  deriving DecidableEq, Repr

/-- A trace line before it leaves (R595). -/
structure TLine where
  t    : Nat
  text : String
  deriving DecidableEq, Repr

/-- The trace stream (R594 to R597). -/
structure Trace where
  running : Bool := false
  queue   : List TLine := []
  tseq    : Nat := 0
  ring    : List (Nat × String) := []
  ringInst : Nat := 0
  lost    : Nat := 0
  asleep  : Option Nat := none   -- SYSTIME of the SLEEP line
  dropped : Nat := 0
  deriving DecidableEq, Repr

/-- A drive-rail state (R613). -/
inductive RailState
  | ok | crank | uv | ov
  deriving DecidableEq, Repr

/-- Supplies and device state (R612 to R641). -/
structure Power where
  variant  : Variant := .sdx9640
  dstate   : DState := .boot
  cause    : Cause := .poweron
  railA    : RailState := .uv
  railB    : RailState := .uv
  vlog     : Nat := 0
  vdrvA    : Nat := 0
  vdrvB    : Nat := 0
  tempC    : Int := 0
  vlogw    : Bool := false
  vxslow   : Bool := false
  vbaklow  : Bool := false
  ign      : Bool := false
  ignLowSince : Option Nat := none
  wakeholdEnd : Nat := 0
  trigger  : Option Nat := none      -- shutdown trigger: 0 VLOG, 1 IGN
  step     : Nat := 0                -- step of Table PWR-7 done
  ignBack  : Bool := false
  latched  : Option Cause := none    -- reset latched during SHUTDOWN (R633)
  watchVlog : Bool := false          -- after a VLOG shutdown, I00 watches VLOG (R624)
  wake     : Nat := 0                -- PWR_WAKE
  lastwake : List String := []
  inReset  : Bool := false           -- RSTN low
  noTcxo   : Bool := false
  noPhrases : Bool := false          -- SAFE with both phrase lanes failed (R41)
  readyAt  : Nat := 0
  waking   : Bool := false          -- the wake sequence runs (R630)
  deriving DecidableEq, Repr

/-- The fault collector (R642 to R681). -/
structure Faults where
  latch    : List Nat := []          -- class codes latched, 15 for DIAG
  lastIsl  : Nat := 255
  lastCls  : Nat := 0
  dieLast  : Tab (Option Nat) := []  -- last DIELINK or PDREG fault per die
  sense    : Tab (Option Nat) := []  -- last possible sense fault per unit (R650)
  mism     : Tab Nat := []           -- consecutive mismatching status frames per unit (R648)
  coverBase : Option (Bool × List String) := none
  coverAt  : Option Nat := none
  laneChk  : Option Nat := none      -- end of the phrase-lane check (R652)
  disputed : List Nat := []          -- sessions whose front phrase the lanes dispute (R92)
  chanExcl : List (Nat × Nat × Nat) := []  -- GPS channel exclusions: channel, PRN, instant (R654)
  bistFail : List Nat := []          -- islands whose failure caused SAFE
  retBoot  : List Nat := []          -- islands retired at BOOT
  causes   : Tab (Nat × Nat × Bool) := []  -- per island: class, detail, at BOOT (R737)
  retAt    : Tab Nat := []           -- per island: SYSTIME of its retirement (R725)
  deriving DecidableEq, Repr

/-! ### Drive stage, diagnostics, grants (10, 11, 12) -/

/-- The switch states (R358, Table DRV-2). -/
inductive SwState
  | drive | slow | fast | off
  deriving DecidableEq, Repr

/-- What one outcome of a unit's requests still has to report (R437): the instant of its last line, the number since, and the latest one. -/
structure GrantEv where
  outcome : Nat
  at_     : Nat
  cnt     : Nat := 0
  cls     : Nat := 0
  wait    : Nat := 0
  ir      : Nat := 0
  deriving DecidableEq, Repr

/-- One drive unit: u = 0 to 47 is channel DRVu, 48 to 55 gate driver GDR(u-48) (11). -/
structure Unit_ where
  on       : Bool := false            -- switched on (DRV_STATUS ON)
  sw       : SwState := .off
  phase    : Nat := 0                 -- running phase
  phStart  : Nat := 0                 -- SYSTIME at which it began
  onAt     : Nat := 0                 -- SYSTIME of the last switch-on release or pulse start (R399)
  reached  : Option Nat := none       -- SYSTIME at which a REACHED phase met its target
  ir       : Option Nat := none       -- reduced peak of this switch-on (R365)
  decaySince : Option Nat := none     -- switch-off decay under way, since
  fastSlow : Bool := false            -- FASTSLOW: in its FAST part (R366)
  offDone  : Nat := 0                 -- SYSTIME at which the last decay completed
  pulseEnd : Option Nat := none       -- scheduled end of the running PWM pulse (R368)
  enabled  : Bool := false            -- commanded on by its use (PWM: pulses are due)
  onDue    : Bool := false            -- a switch-on not yet counted in ON_CNT: it waits for its grant or its first pulse (R391)
  waiting  : Option Nat := none       -- a switch-on waits for its grant's start (R434)
  target   : Nat := 0                 -- target in the hold phase, PROPORTIONAL (R371)
  ramp     : Option (Nat × Nat) := none  -- increase waiting for or rising under a METER grant: value, start
  dithHigh : Bool := true             -- half of the dither period (R371)
  dutyNew  : Option Nat := none       -- a duty that takes effect at the next period (R370)
  duty     : Nat := 0                 -- duty in force, 0.1 %
  cut      : Bool := false            -- off under the duty limit (R378)
  recorded : Option Bool := none      -- latest recorded command (R378, R409)
  safe     : Bool := false            -- in its safe state (R383)
  held     : Bool := false            -- ... and held by HOLDLAST
  safenHold : Bool := false           -- held off by SAFEN (R384)
  railHold : Bool := false            -- off until a new switch-on after UV or OV (R614)
  direct   : Bool := false            -- running under direct operation (R373)
  retryAt  : Option Nat := none       -- next request of a refused direct switch-on (R436)
  scale    : Nat := 1000              -- R377
  sums     : List Nat := []           -- i squared samples of the window, mA²·ms, newest first
  lastSum  : Nat := 0                 -- window sum at the previous evaluation, mA²·ms
  dsum     : Nat := 0                 -- DSUM, 0.01 A²s
  ihs      : Nat := 0
  ils      : Nat := 0
  ish      : Nat := 0
  vds      : Nat := 0
  calAt    : Option Nat := none       -- last completed sense calibration (R382)
  calStart : Option Nat := none       -- calibration under way
  -- diagnostics (11)
  suspectEnd : Option Nat := none     -- end of the 60 s of SUSPECT
  blocked  : Bool := false            -- SUSPECT and not yet re-tested: commands recorded (R409)
  retestAt : Option Nat := none       -- next re-test
  retired  : Bool := false
  retIsland : Bool := false           -- retired with its drive island
  retFault : Bool := false            -- retired by a DRIVE fault (R668)
  onres    : Nat := 15
  offres   : Nat := 15
  bootres  : Nat := 15
  bootDue  : Bool := false            -- BOOTRES test left undone by a low SAFEN (R408)
  dcause   : Nat := 15
  findOn   : Bool := false            -- the finding came from on-state evaluation
  otwait   : Bool := false
  temp     : Int := -60               -- °C; -60 before the first reading (DIAG_STATUS resets to 0)
  findih   : Nat := 0
  findil   : Nat := 0
  testing  : Option (Nat × Nat) := none  -- off-state test under way: start, kind (0 sweep, 1 re-test, 2 TEST, 3 RESET, 4 boot)
  swept    : Bool := false            -- tested in the current sweep
  -- grants (12)
  gclass   : Nat := 3                 -- 0 SECTION, 1 PULSE, 2 METER, 3 NONE
  gout     : Nat := 0                 -- 0 NONE, 1 GRANTED, 2 DELAYED, 3 REDUCED, 4 REFUSED
  gwait    : Nat := 0                 -- µs
  gir      : Nat := 0                 -- mA
  gmax     : Nat := 0                 -- µs
  gev      : List GrantEv := []       -- per outcome 2 to 4 (R437)
  deriving DecidableEq, Repr

/-- A grant issued or booked (R428, R432). `who` is the unit u, or 100 + island for HEAVY work; `ir` the reduced peak or part of a step. -/
structure Grant where
  budget : Nat
  who    : Nat
  cls    : Nat
  start  : Nat      -- ns
  dur    : Nat      -- ns
  charge : Nat      -- mA
  booked : Bool := false
  ir     : Option Nat := none
  deriving DecidableEq, Repr

/-- The grant unit (R428 to R445). -/
structure Grants where
  list    : List Grant := []
  disagree : Option Nat := none       -- last disagreement of the lanes (R438)
  chkEnd  : Option Nat := none        -- end of the lane check
  heavyEv : Tab (Nat × Nat) := []     -- per user: instant of the last line, count since
  sweep   : Option Nat := none        -- sweep under way since (its grant start)
  deriving DecidableEq, Repr

/-! ### Planner, triggers, odometry, metering (04, 05, 07, 08) -/

/-- A compare entry (R296, Table ODO-2), with what the planner keeps of its triggers (R173 to R181). -/
structure Entry where
  value  : Int
  dir    : Nat := 1          -- 1 UP, 2 DOWN, 3 EITHER
  pulse  : Bool := false
  host   : Bool := false
  act    : Nat := 1          -- 0 NONE, 1 EVENT, 2 SECTION, 3 CHAN ON, 4 CHAN OFF, 5 GDR ON, 6 GDR OFF
  unit   : Nat := 0
  opens  : Bool := false
  shadow : Bool := false
  nolead : Bool := false
  tag    : Nat := 0
  order  : Nat := 0          -- write order (R293)
  hw     : Bool := false     -- in the 64-entry hardware list
  passed : Bool := false     -- passed while still queued (R294)
  commit : Bool := false     -- R179
  remain : Option Nat := none    -- remaining time at the last cycle start, ns; none while the count stands
  be     : Int := 0          -- boundary point, east and north, µm
  bn     : Int := 0
  fire   : Nat := 0          -- remote: fire time (R187)
  cseq   : Nat := 0          -- remote: command reference
  gstart : Option Nat := none    -- start of the booked grant
  grefused : Bool := false       -- the booked grant was refused
  deriving DecidableEq, Repr

/-- A command fired and held until its release (R182). -/
structure Held where
  on    : Bool
  due   : Nat
  late  : Nat := 0       -- the firing plus GRANTALLOW (R183)
  deriving DecidableEq, Repr

/-- One section (R136 to R172). -/
structure Sec where
  decided  : Bool := false        -- decided state open
  reason   : Nat := 0             -- code of Table PLN-6
  cells    : List Nat := []       -- the eight cells of the last look-ahead sample
  sf       : Nat := 1000          -- speed factor, 0.1 %
  vspd     : Int := 0             -- mm/s
  eff      : Bool := false        -- effective state (R158)
  effDue   : List (Nat × Bool) := []
  prevL    : Option Nat := none   -- look-ahead time of the previous cycle's sample, ns (R151)
  prevMark : List (Int × Int) := []   -- sub-strip positions at the previous cycle start, µm
  run      : Nat := 0             -- travel, µm
  touched  : List ((Int × Int) × Nat) := []   -- cells its path lay in, with the travel then (R158)
  spareOn  : Bool := false        -- moved to its spare (R414)
  spareGone : Bool := false
  unserved : Option String := none
  turn     : Bool := false
  rxClose  : Bool := false        -- closed by RXNONE=CLOSE (R251)
  stopDone : Bool := false
  held     : List Held := []
  cmdOn    : Bool := false        -- latest command released to its unit
  refused  : Bool := false        -- a refused switch-on waits for the next cycle (R436)
  rx       : Option Nat := none   -- last prescription sample not NONE
  samples  : List (Nat × Nat) := []   -- (instant it applies, rate in 0.01 rate unit) (R250)
  rate     : Nat := 0             -- rate in force, 0.01 rate unit
  hasRate  : Bool := false
  metOpen  : Bool := false        -- open for metering (R247)
  duty     : Nat := 0             -- duty sent (R261)
  clip     : Bool := false
  logDue   : Bool := false        -- a change to log (R217)
  deriving DecidableEq, Repr

/-- An accepted injected sample (R140), in the units of Table PLN-2, tov in ns. -/
structure Sample where
  lat : Int := 0
  lon : Int := 0
  hgt : Option Int := none
  fix : Nat := 0
  hdg : Option Int := none
  yaw : Option Int := none
  spd : Option Int := none
  tov : Nat := 0
  deriving DecidableEq, Repr

/-- One implement (R135 to R162). Lengths in µm, angles in microdegrees. -/
structure Impl where
  running  : Bool := false
  stopDue  : Bool := false             -- STOP waits for the next planner cycle (R135)
  pos      : Option Sample := none     -- last accepted sample on POS
  mot      : Option Sample := none     -- last accepted sample on MOT
  good     : Option Sample := none     -- latest position at or above MINFIX (R142, R143)
  hdgExt   : Option (Int × Nat) := none    -- latest injected heading (mdeg), its tov
  yawExt   : Option (Int × Nat) := none
  spdExt   : Option (Int × Nat) := none
  trackPt  : Option (Int × Int) := none    -- sample from which the next track course is taken, nanodegrees
  track    : Option Int := none        -- track course, µdeg
  hist     : List (Nat × Int) := []    -- headings of the last 100 ms, newest first
  posOk    : Bool := false
  outfield : Bool := false
  lostAt   : Option Nat := none        -- instant the position was lost (R157)
  lostDone : Bool := false             -- LOSTHOLD ran out
  moved    : Bool := false             -- it has moved since START: heading has a last value (R45)
  hdg      : Int := 0
  yaw      : Int := 0                  -- µdeg/s
  speed    : Int := 0                  -- mm/s
  motion   : Nat := 0                  -- 0 STOP, 1 FWD, 2 REV
  rev      : Bool := false             -- REV seen since the last FWD (R156)
  stopAt   : Option Nat := none        -- instant at which motion became STOP (R155)
  cycled   : Bool := false             -- its first cycle is done (R146, R160)
  gamma    : Int := 0
  jack     : Bool := false
  east     : Int := 0
  north    : Int := 0
  mapErr   : Bool := false
  mapErrAt : Option Nat := none
  laneDiff : Nat := 0
  laneEnd  : Option Nat := none        -- end of the lane check (R159)
  bindWait : Option (Nat × Nat) := none  -- START waits for bindings: session, since (R458)
  deriving DecidableEq, Repr

/-- One odometry unit (R277 to R320). Rates in 0.001 count/s. -/
structure Odo where
  state    : Nat := 0              -- 0 STOPPED, 1 RUNNING, 2 FAULTED
  count    : Int := 0
  lastEdge : Option Nat := none
  lastA    : Option Nat := none    -- last accepted edge on CNTA and on CNTB (R280)
  lastB    : Option Nat := none
  rate     : Nat := 0              -- r at the last edge or gate
  window   : Bool := false
  winNext  : Bool := false         -- window mode from the next gate (R284)
  gateN    : Nat := 0
  gateT1   : Nat := 0
  gateTn   : Nat := 0
  heldV    : Option Nat := none    -- R285
  down     : Bool := false
  snap     : Option (Int × Nat × Int × Bool × Nat) := none  -- count, r, speed mm/s, down, timestamp
  epoch    : Nat := 0
  speeds   : List Int := []        -- snapshot speeds of the last 50 ms, newest first
  armed    : Bool := false
  idx      : Option (Int × Bool) := none
  idxEpoch : Nat := 0
  idxSeen  : Bool := false
  entries  : List Entry := []
  order    : Nat := 0
  cmpOn    : Bool := false
  cmpEnd   : Nat := 0
  acc      : Int := 0              -- INTERNAL: distance not yet counted, pm (R279)
  accAt    : Nat := 0              -- ... and since when
  mpcUse   : Nat := 0              -- distance per count in use, 2^-32 m
  mpcNm    : Nat := 0              -- ... and in nm
  prop     : Option Nat := none
  calCnt   : Nat := 0
  calDist  : Nat := 0              -- µm
  calOn    : Bool := false
  calCourse : Option Int := none
  calRes   : List Nat := []        -- pm per count
  plst     : Nat := 0              -- 0 OFF, 1 OK, 2 SUSPENDED, 3 IMPLAUS
  viol     : Nat := 0
  deriving DecidableEq, Repr

/-- One serial sensor port (R299 to R301, R308). -/
structure Ssp where
  running : Bool := false
  nextDue : Nat := 0
  cycle   : Option Nat := none
  raw     : Nat := 0
  value   : Nat := 0
  err     : Bool := false
  epoch   : Nat := 0
  fails   : Nat := 0
  lost    : Bool := false
  deriving DecidableEq, Repr

/-- One product (R245 to R276). Flows in 10^-9 quantity unit per second. -/
structure Prod_ where
  state   : Nat := 0               -- 0 STOPPED, 1 RUNNING, 2 UNMETERED
  stopDue : Bool := false          -- STOP waits for the next metering cycle (R255)
  qf      : Option Int := none
  integ   : Int := 0               -- 0.001 output unit
  qt      : Int := 0
  out     : Int := 0               -- u or D, output unit
  actual  : Nat := 0
  lost    : Bool := false
  lostRet : Bool := false          -- lost by retirement
  est     : Bool := false
  idle    : Bool := false
  sat     : Bool := false
  satAt   : Option Nat := none
  satDone : Bool := false
  alarm   : Nat := 0               -- 0 NONE, 1 LOW, 2 HIGH
  lowAt   : Option Nat := none
  highAt  : Option Nat := none
  okAt    : Option Nat := none
  silent  : Option Nat := none     -- since when flow is required and u is above UZERO (R264)
  lossAt  : Nat := 0               -- instant of the loss of feedback
  rxEv    : Option Nat := none
  target  : Nat := 0               -- TARGET in force
  qty     : Nat := 0               -- applied since the last log record, 0.01 rate unit x ns

  deriving DecidableEq, Repr

/-! ### Cellar, larder, pantry (06) -/

/-- The state of a cellar memory (R199). -/
inductive MemState
  | none_ | ready | failed
  deriving DecidableEq, Repr

/-- One as-applied record (R217, Table CEL-4). -/
structure LogRec where
  typ    : Nat := 0xA1      -- 0xA1 applied, 0xA3 gap
  flags  : Nat := 0
  prod   : Nat := 0xFF
  fix    : Nat := 0
  seq    : Nat := 0
  time   : Nat := 0
  lat    : Int := 0         -- 100 nanodegree
  lon    : Int := 0
  hgt    : Int := 0
  hdg    : Nat := 0         -- 0.01 degree
  spd    : Int := 0
  opn    : Nat := 0
  target : Nat := 0         -- of a gap: the records lost
  actual : Nat := 0
  qty    : Nat := 0
  deriving DecidableEq, Repr

/-- The saved map set in the NOR (R214). -/
structure SavedSet where
  origin : Option (Int × Int) := none
  cells  : List (Nat × Nat) := []                      -- layer, cell size
  tiles  : AMap (Nat × Int × Int) (Tab Nat) := []
  deriving DecidableEq, Repr

/-- The cellar: memories, maps, staging, saved set, as-applied log (R197 to R220). A tile is its cells, an unlisted
coverage cell being 0 and an unlisted prescription cell 0xFFFF. -/
structure Cellar where
  psram   : MemState := .none_
  nor     : MemState := .none_
  norKiB  : Nat := 0
  init    : Bool := false                   -- initialisation under way
  inUse   : AMap String Val := []           -- settings in effect (R231)
  tiles   : AMap (Nat × Int × Int) (Tab Nat) := []
  poison  : List (Nat × Int × Int × Nat) := []
  nofit   : List (Nat × Int × Int) := []    -- tiles whose mark found no free slot (R209)
  fullEv  : List Nat := []                  -- layers whose FULL event stands (R209)
  stage0  : List Host.Cell := []
  stage1  : List Host.Cell := []
  stage2  : List Host.Cell := []
  stage3  : List Host.Cell := []
  saved   : Option SavedSet := none
  copy    : Option (Bool × SavedSet × Nat) := none   -- save (true) or load under way, what it copies, its session
  scrubMs : Nat := 0
  logRing : List LogRec := []               -- written records, oldest first
  logSeq  : Nat := 1
  logPend : List LogRec := []
  logLost : Nat := 0
  logLast : Nat := 0                        -- last LOGINT write
  logMerge : Option Nat := none             -- end of the 100 ms merge (R217)
  deriving DecidableEq, Repr

/-- The larder (R221 to R224): blocks that the CAN queues and filter lists hold per owner 0 to 4 (partitions, device), the others being
counted from the queues themselves; withdrawn blocks. -/
structure Larder where
  used   : Tab Nat := []
  bad    : List Nat := []
  evAt   : Tab (Option Nat) := []           -- last FULL event per owner
  deriving DecidableEq, Repr

/-- One profile slot of the pantry (R225 to R229). -/
structure Profile where
  name    : String := ""
  cfg     : AMap CKey Val := []
  own     : AMap (Noun × Nat) Nat := []
  variant : Nat := 0
  hours   : Nat := 0
  corrupt : Bool := false
  deriving DecidableEq, Repr

/-- The pantry (R225). -/
structure Pantry where
  slots : Tab (Option Profile) := []
  boot  : Option Nat := none
  deriving DecidableEq, Repr

/-! ### CAN (14) -/

/-- A stored frame (R488). -/
structure CanRx where
  inst : Nat
  ts   : Nat
  ovr  : Bool := false
  f    : CanFrame
  deriving DecidableEq, Repr

/-- A queued frame (R491, R492). -/
structure CanTx where
  f       : CanFrame
  oneshot : Bool := false
  tag     : Nat := 0
  order   : Nat := 0
  deriving DecidableEq, Repr

/-- One CAN controller (R476 to R508). -/
structure Can_ where
  running : Bool := false
  integ   : Bool := false
  tec     : Nat := 0
  rec_    : Nat := 0
  busoff  : Bool := false
  recov   : Nat := 0
  warn    : Bool := false
  lec     : Nat := 0
  nbt     : Nat := 0
  dbt     : Nat := 0
  tdco    : Nat := 0
  tdcv    : Nat := 0
  rx      : List CanRx := []
  tx      : List CanTx := []
  inst    : Nat := 1
  order   : Nat := 0
  drops   : Nat := 0            -- dropped since the last RXFULL line
  ovr     : Bool := false       -- the next stored frame carries ovr=YES
  fullAt  : Option Nat := none
  blocks  : Nat := 0            -- larder blocks reserved
  peer    : Bool := false       -- carries the peer link
  deriving DecidableEq, Repr

/-! ### The peer link (13) -/

/-- A frame to send: type, destination, payload before the CRC, and the controller of the bridge. -/
structure PeerTx where
  typ      : Nat
  dst      : Nat
  src      : Nat
  hops     : Nat := 0
  data     : List Nat
  onBridge : Bool := false
  deriving DecidableEq, Repr

/-- An answered frame awaiting its answer (R451): its key, when it was last sent and how often resent. -/
structure PeerWait where
  typ    : Nat
  dst    : Nat
  key    : Nat
  data   : List Nat
  sentAt : Nat
  resent : Nat := 0
  deriving DecidableEq, Repr

/-- What the device knows of another (R455, R468). -/
structure Node_ where
  present : Bool := false
  hops    : Nat := 0
  dstate  : Nat := 0
  flags   : Nat := 0
  leads   : Nat := 0
  varcode : Nat := 0
  boots   : Nat := 0
  inst    : Nat := 0
  known   : Bool := false       -- a heartbeat was received since START PEER
  lastHb  : Nat := 0
  onBridge : Bool := false      -- segment of its last heartbeat
  noackAt : Option Nat := none
  cseq    : Nat := 1
  ref     : Nat := 1
  msg     : Nat := 1
  deriving DecidableEq, Repr

/-- A binding as lead (R458): the section's unit on a node. `unbindEnd` while UNBIND is repeated (R456). -/
structure LeadBind where
  impl   : Nat
  node   : Nat
  utype  : Nat
  unit   : Nat
  spare  : Bool := false
  sec    : Nat
  ref    : Nat
  done   : Option Nat := none       -- RESULT of the BINDACK
  unbindEnd : Option Nat := none
  failed : Bool := false            -- its START failed before it was answered (R475)
  deriving DecidableEq, Repr

/-- A binding as node (R459). -/
structure NodeBind where
  lead  : Nat
  impl  : Nat
  utype : Nat
  unit  : Nat
  spare : Bool := false
  sec   : Nat := 0
  deriving DecidableEq, Repr

/-- A fire command held at a node (R460). -/
structure NodeCmd where
  lead   : Nat
  cseq   : Nat
  impl   : Nat
  utype  : Nat
  unit   : Nat
  action : Nat
  duty   : Nat
  ftime  : Nat          -- in SYSTIME
  gstart : Option Nat := none
  deriving DecidableEq, Repr

/-- A command the lead has sent and that is not yet settled (R187, R462). -/
structure LeadCmd where
  node  : Nat
  cseq  : Nat
  sec   : Nat
  on    : Bool
  now   : Bool := false      -- OFF-NOW
  ftime : Nat := 0
  acked : Bool := false
  applied : Bool := false    -- its fire time was reached (R247)
  again   : Bool := false    -- a switch-off without a REPORT, sent again each cycle (R462)
  deriving DecidableEq, Repr

/-- A line being assembled from fragments (R465). -/
structure PeerAsm where
  node  : Nat
  typ   : Nat
  msg   : Nat
  sess  : Nat
  part  : Nat
  frags : List (Nat × List Nat) := []
  last  : Option Nat := none
  since : Nat := 0
  deriving DecidableEq, Repr

/-- The peer link (R446 to R475). -/
structure Peer where
  state   : Nat := 0           -- 0 STOPPED, 1 RUNNING, 2 CONFLICT
  inst    : Nat := 0           -- own instance number
  loop    : Bool := false
  synced  : Bool := false
  offset  : Int := 0
  master  : Option Nat := none
  good    : Nat := 0           -- consecutive pairs within 2 µs
  lastPair : Nat := 0
  seq     : Nat := 0
  depth   : Nat := 0
  nodes   : Tab Node_ := []
  tx      : List PeerTx := []
  waits   : List PeerWait := []
  leadBinds : List LeadBind := []
  nodeBinds : List NodeBind := []
  cmds    : List NodeCmd := []
  sent    : List LeadCmd := []
  done    : List (Nat × Nat × Nat × List Nat) := []   -- answers given: node, type, key, payload (R451)
  asm     : List PeerAsm := []
  deriving DecidableEq, Repr

/-! ### Host ports (15) -/

/-- One entry of a receive queue (R516): tag 0 NONE, 1 FRAMING, 2 PARITY, 3 BREAK. -/
structure UartEnt where
  data : Nat
  tag  : Nat := 0
  ovr  : Bool := false
  inst : Nat := 0
  deriving DecidableEq, Repr

/-- One UART (R510 to R523). The settings in use are separate from the stored ones until R523 applies them. -/
structure Uart where
  enabled : Bool := false
  hunt    : Bool := false
  armed   : Bool := false      -- the 100 ms of idle line have passed (R513)
  rate    : Nat := 115200
  flow    : Bool := false
  apply_  : Option Nat := none -- changed settings wait, set by this session (R523)
  rehunt  : Bool := false      -- ... and start HUNT
  rx      : List UartEnt := []
  inst    : Nat := 1
  ovr     : Bool := false
  ovrAt   : Option Nat := none
  xoffDue : Bool := false      -- an XOFF waits to be sent
  xoffOut : Bool := false
  xonDue  : Bool := false
  paused  : Bool := false
  tx      : List Nat := []     -- RAW transmit queue, UART2 (R522)
  txAt    : Nat := 0           -- instant at which its first byte began to be sent
  wire    : List String := []  -- what UART2 sends in NMEA and TRACE mode
  breakOn : Bool := false
  deriving DecidableEq, Repr

/-- The SPI target (R524 to R528). -/
structure Spi where
  enabled : Bool := false
  mode    : Nat := 0
  apply_  : Option Nat := none
  rxbuf   : List Nat := []
  status  : Nat := 1           -- ACC, LENERR, BADHDR, RXFULL as bits 0 to 3
  sent    : Nat := 0           -- the status bits last sent (SPI_STATUS)
  header  : Option (Nat × Nat × Nat × Nat) := none   -- STATUS, RLEN, WFREE, MORE of the transfer under way
  early   : Bool := false
  lastRise : Option Nat := none
  deriving DecidableEq, Repr

/-- One I2C controller (R529 to R532). -/
structure I2c where
  enabled : Bool := false
  rate    : Nat := 400
  apply_  : Option Nat := none
  busy    : Option (Nat × Phrase × I2cBus) := none   -- a transfer under way: its session, phrase and bus
  sda     : Bool := true
  scl     : Bool := true
  since   : Nat := 0
  deriving DecidableEq, Repr

/-! ### Pins (16) -/

/-- One pin (R543 to R571): the synchronised value, the event flag, and the EVMIN interval. -/
structure Pin where
  val     : Bool := false
  evt     : Bool := false
  ecnt    : Nat := 0
  lineAt  : Option Nat := none    -- instant of the last EDGE line
  since   : Nat := 0              -- edges since that line
  lastTs  : Nat := 0
  lastHigh : Bool := false
  deriving DecidableEq, Repr

/-- All pins and their banks. -/
structure Pins where
  pins : Tab Pin := []
  down : List Nat := []           -- banks DOWN
  wakePin : Nat := 0              -- PIN_WAKESRC
  wakeMulti : Bool := false
  wakeValid : Bool := false
  deriving DecidableEq, Repr

/-! ### GPS (09) -/

/-- One tracking channel (R332 to R336). -/
structure Chan_ where
  state : Nat := 0
  prn   : Nat := 0
  cn0   : Nat := 0
  dop   : Int := 0
  half  : Bool := false
  slip  : Nat := 0
  lockAt : Nat := 0
  exclEnd : Option Nat := none
  el    : Int := 0
  az    : Int := 0
  hits  : Nat := 0               -- consecutive scans above 3 dB
  miss  : Nat := 0
  copy  : Bool := false          -- a copy exists
  copyOff : Int := 0
  copyDb : Int := 0
  copyCh : Option Nat := none
  isCopy : Bool := false
  deriving DecidableEq, Repr

/-- The aiding data held (R328 to R331). -/
structure Aid where
  eph   : List (Nat × Nat × Bool) := []     -- PRN, IODE, from the host
  sub   : List (Nat × Nat × Nat × List Nat) := []   -- PRN, subframe, IODE, bytes
  bsub  : List (Nat × Nat × Nat × List Nat) := []   -- ... from the broadcast, being collected
  alm   : List (Nat × List Nat × Option Nat) := []  -- PRN, bytes, GPS second of the reference where known
  iono  : Option (List Nat) := none
  utc   : Bool := false                     -- the UTC parameters are from broadcast or the pantry
  pos   : Option (Int × Int × Int × Nat) := none
  time  : Option (Nat × Nat × Nat × Nat) := none    -- week, tow, uncertainty in µs, SYSTIME given
  week  : Option Nat := none
  bad   : List Nat := []                    -- satellites whose health is other than healthy
  deriving DecidableEq, Repr

/-- A raw latch (R336): its header line and channel lines, as COPY=KEEP and as COPY=FOLLOW give them. -/
structure RawLatch where
  keep   : List (List (String × String))
  follow : List (List (String × String))
  deriving DecidableEq, Repr

/-- The receiver (R321 to R355). -/
structure Gnss where
  running : Bool := false
  ant     : Nat := 0
  antMa   : Nat := 0
  shortAt : Option Nat := none
  notch   : Tab (Nat × Int) := []
  notchFull : Bool := false
  jami    : Nat := 0
  jam     : Nat := 0
  jamLow  : Tab (Option Nat) := []    -- since when JAMI is below the threshold of a level minus 8
  ch      : Tab Chan_ := []
  acqWait : Option Nat := none       -- a refused burst waits
  acqEnd  : Option Nat := none
  gpsV    : Bool := false
  utcV    : Bool := false
  lastFix : Nat := 0
  last3d  : Option (Nat × Int) := none
  fix     : Bool := false
  nsv     : Nat := 0
  dim     : Nat := 0
  chk     : Bool := false
  week    : Nat := 0
  tow     : Nat := 0
  solEpoch : Nat := 0
  sol     : List (String × String) := []
  rawEpoch : Nat := 0
  raw     : Option RawLatch := none
  fixSince : Option Nat := none
  nav     : Option Sample := none    -- latest navigation solution with a position (R137)
  ve      : Int := 0
  vn      : Int := 0
  cog     : Int := 0
  aid     : Aid := {}
  stored  : Aid := {}                -- the pantry copy
  deriving DecidableEq, Repr

/-! ### Faults, refusals, the whole state -/

/-- The faults of the model. The spec gives the block no fault of its own: this one is raised by commands whose
effect the spec calls unspecified (R280: counting edges less than 200 ns apart). Safe: the model stops where the
hardware goes on in a way the spec does not give. -/
inductive Fault
  | edgesTooClose
  deriving DecidableEq, Repr

/-- The refusals of the model. `notModelled` stands in the arms of commands that have no meaning yet; safe. -/
inductive Refusal
  | notModelled (mnemonic : String)
  deriving DecidableEq, Repr

/-- The whole state of the block. -/
structure State where
  pending  : List Instr := []
  power    : Power := {}
  times    : Times := {}
  sess     : Tab Session := []
  routed   : List Routed := []
  cfg      : AMap CKey Val := []
  cnts     : AMap (String × Nat) Word := []
  parts    : Tab Part := []
  own      : AMap (Noun × Nat) Nat := []
  ownlock  : Bool := false
  pinlock  : Bool := false
  key0     : Option (BitVec 256) := none
  authFails : Nat := 0
  lockoutEnd : Option Nat := none
  islands  : Tab IslState := []
  safenLow : Bool := false
  attic    : Attic := {}
  trace    : Trace := {}
  faults   : Faults := {}
  units    : Tab Unit_ := []
  grants   : Grants := {}
  impls    : Tab Impl := []
  secs     : Tab Sec := []
  odos     : Tab Odo := []
  ssps     : Tab Ssp := []
  prods    : Tab Prod_ := []
  cellar   : Cellar := {}
  larder   : Larder := {}
  pantry   : Pantry := {}
  cans     : Tab Can_ := []
  peer     : Peer := {}
  uarts    : Tab Uart := []
  spi      : Spi := {}
  i2cs     : Tab I2c := []
  pins     : Pins := {}
  gnss     : Gnss := {}
  lastTick : AMap (String × Nat) Nat := []   -- the model's own: last instant of each periodic step
  freeIx   : Nat := 0        -- the model's own: the next free value (Config.freeBits)
  deriving DecidableEq, Repr

/-- The block right after power-on reset: BOOT has begun (R616, Table PWR-11 DSTATE reset 0b010), every register at
its reset value, no session open, nothing in any queue. The values the spec gives no reset for are the defaults
above (notes/assumptions). -/
def State.reset : State := {}

end Sys2Proof.Machine
end

