-- ==== Sys2Proof/Machine/Operands.lean ====
section
/-!
DEFINITION. Sys2Proof/Machine/Operands.lean: the forms of the values that phrases carry: reading a value, giving it in a reply, and
its range in HELP (R57, R85, R86).
-/
namespace Sys2Proof.Machine

/-- The form of an attribute's value. Times are in microseconds. -/
inductive AForm
  | int (lo hi : Int)
  | stepInt (lo hi step : Int)
  | oneOf (xs : List Int)
  | oneOfW (xs : List Int) (ws : List String)
  | words (ws : List String)
  | intW (lo hi : Int) (ws : List String)
  | time (lo hi step : Nat)
  | timeW (lo hi step : Nat) (ws : List String)
  | list (lo hi : Nat)
  | wordList (ws solo : List String)
  | bind (spare : Bool)
  | outunit
  | plaus
  | posout
  | text (max : Nat)
  | hex (digits : Nat)
  | bytes (lo hi : Nat)
  | ro (range : String)
  deriving DecidableEq, Repr

/-! ### Forms of values -/

/-- Unit forms of BIND, SPARE and OUTUNIT as a list: 0 NONE, 1 VIRTUAL, 2 CHAN, 3 PAIR, 4 GDR, each with its number;
5 NODE:a:DRVn and 6 NODE:a:GDRn with address and number. -/
def parseBind (s : String) : Option (List Nat) :=
  match splitStr ':' (upper s) with
  | ["NONE"] => some [0]
  | ["VIRTUAL"] => some [1]
  | ["CHAN", n] => (natOf n.toList).bind fun k => if k < 48 then some [2, k] else none
  | ["PAIR", n] => (natOf n.toList).bind fun k => if k < 48 ∧ k % 2 = 0 then some [3, k] else none
  | ["GDR", n] => (natOf n.toList).bind fun k => if k < 8 then some [4, k] else none
  | ["NODE", a, u] =>
    (natOf a.toList).bind fun x =>
      if 128 ≤ x then none
      else match u.toList with
        | 'D' :: 'R' :: 'V' :: ds => (natOf ds).bind fun k => if k < 48 then some [5, x, k] else none
        | 'G' :: 'D' :: 'R' :: ds => (natOf ds).bind fun k => if k < 8 then some [6, x, k] else none
        | _ => none
  | _ => none

/-- Two decimal digits. -/
def two (n : Nat) : String := if n < 10 then "0" ++ toString n else toString n

/-- A unit form as replies give it. -/
def showBind (b : List Nat) : String :=
  match b with
  | [1] => "VIRTUAL"
  | [2, n] => "CHAN:" ++ two n
  | [3, n] => "PAIR:" ++ two n
  | [4, n] => "GDR:" ++ toString n
  | [5, a, n] => "NODE:" ++ toString a ++ ":DRV" ++ two n
  | [6, a, n] => "NODE:" ++ toString a ++ ":GDR" ++ toString n
  | _ => "NONE"

/-- PLAUS: 0 NONE, 1 ODO:m, 2 GNSS (R304). -/
def parsePlaus (s : String) : Option (List Nat) :=
  match splitStr ':' (upper s) with
  | ["NONE"] => some [0]
  | ["GNSS"] => some [2]
  | ["ODO", m] => (natOf m.toList).bind fun k => if k < 8 then some [1, k] else none
  | _ => none

/-- POSOUT: NONE, or m:a:k, the implement, the address and the implement there (R464). -/
def parsePosout (s : String) : Option (List Nat) :=
  match splitStr ':' (upper s) with
  | ["NONE"] => some []
  | [m, a, k] =>
    match natOf m.toList, natOf a.toList, natOf k.toList with
    | some x, some y, some z => if x < 4 ∧ y < 128 ∧ z < 4 then some [x, y, z] else none
    | _, _, _ => none
  | _ => none

/-- Read a value of a form; none is E-RANGE. -/
def parseVal (f : AForm) (s : String) : Option Val :=
  match f with
  | .int lo hi => (parseInt s).bind fun i => if lo ≤ i ∧ i ≤ hi then some (.n i) else none
  | .stepInt lo hi st => (parseInt s).bind fun i => if lo ≤ i ∧ i ≤ hi ∧ (i - lo) % st = 0 then some (.n i) else none
  | .oneOf xs => (parseInt s).bind fun i => if xs.contains i then some (.n i) else none
  | .oneOfW xs ws =>
    if ws.contains (upper s) then some (.w (upper s)) else (parseInt s).bind fun i => if xs.contains i then some (.n i) else none
  | .words ws => if ws.contains (upper s) then some (.w (upper s)) else none
  | .intW lo hi ws =>
    if ws.contains (upper s) then some (.w (upper s))
    else (parseInt s).bind fun i => if lo ≤ i ∧ i ≤ hi then some (.n i) else none
  | .time lo hi st => (parseTime s).bind fun t => if lo ≤ t ∧ t ≤ hi ∧ (t - lo) % st = 0 then some (.n t) else none
  | .timeW lo hi st ws =>
    if ws.contains (upper s) then some (.w (upper s))
    else (parseTime s).bind fun t => if lo ≤ t ∧ t ≤ hi ∧ (t - lo) % st = 0 then some (.n t) else none
  | .list lo hi => (parseList s).bind fun xs => if xs.all fun x => decide (lo ≤ x ∧ x ≤ hi) then some (.l xs) else none
  | .wordList ws solo =>
    if solo.contains (upper s) then some (.w (upper s))
    else
      let ts := splitStr ',' (upper s)
      if ts.all ws.contains then some (.w (joinWith "," (ws.filter ts.contains))) else none
  | .bind spare => (parseBind s).bind fun b => if spare && b == [1] then none else some (.l b)
  | .outunit => (parseBind s).bind fun b => match b with
    | [0] | [2, _] | [3, _] | [4, _] => some (.l b)
    | _ => none
  | .plaus => (parsePlaus s).map .l
  | .posout => (parsePosout s).map .l
  | .text m => if s.length = 0 ∨ m < s.length then none else some (.w s)
  | .hex d => (parseNat s).bind fun n => if n < 16 ^ d then some (.n n) else none
  | .bytes lo hi => (parseBytes s).bind fun bs => if lo ≤ bs.length ∧ bs.length ≤ hi then some (.l bs) else none
  | .ro _ => none

/-- A value as replies give it (R86). -/
def renderVal (f : AForm) (v : Val) : String :=
  match v with
  | .w s => s
  | .n i =>
    match f with
    | .time _ _ _ | .timeW _ _ _ _ => showTime i.toNat
    | .hex d => showHex d i.toNat
    | _ => toString i
  | .l xs =>
    match f with
    | .bind _ | .outunit => showBind xs
    | .plaus => match xs with
      | [1, m] => "ODO:" ++ toString m
      | [2] => "GNSS"
      | _ => "NONE"
    | .posout => match xs with
      | [m, a, k] => toString m ++ ":" ++ toString a ++ ":" ++ toString k
      | _ => "NONE"
    | .bytes _ _ => showBytes xs
    | _ => showList xs

/-- The function names of Table PIN-2 with their numbers as a letter, as the table gives them: written out they exceed a line (R65). -/
def funcForms : List String :=
  ["CNTAn", "CNTBn", "IDXn", "CMPn", "CANTXn", "CANRXn", "SSPCLKp", "SSPDATp", "U0TX", "U0RX", "U2TX", "U2RX", "SPICSN", "SPICK", "SPIDI", "SPIDO",
   "ATTN", "I2CSCLn", "I2CSDAn"]

/-- The range items of HELP (R85). -/
def rangeText (f : AForm) : String :=
  let r (a b : Int) := toString a ++ ".." ++ toString b
  match f with
  | .int lo hi | .stepInt lo hi _ => r lo hi
  | .oneOf xs => joinWith "," (xs.map toString)
  | .oneOfW xs ws => joinWith "," (xs.map toString ++ ws)
  | .words ws => joinWith "," ws
  | .intW lo hi ws => joinWith "," (r lo hi :: ws)
  | .time lo hi _ => showTime lo ++ ".." ++ showTime hi
  | .timeW lo hi _ ws => joinWith "," ((showTime lo ++ ".." ++ showTime hi) :: ws)
  | .list lo hi => r lo hi ++ ",NONE"
  | .wordList ws solo => joinWith "," (if ws.length ≤ 32 then ws ++ solo else solo ++ funcForms)
  | .bind false => "NONE,VIRTUAL,CHAN:nn,PAIR:nn,GDR:n,NODE:a:DRVnn,NODE:a:GDRn"
  | .bind true => "NONE,CHAN:nn,PAIR:nn,GDR:n,NODE:a:DRVnn,NODE:a:GDRn"
  | .outunit => "CHAN:nn,PAIR:nn,GDR:n,NONE"
  | .plaus => "NONE,ODO:m,GNSS"
  | .posout => "NONE,m:a:k"
  | .text m => "1.." ++ toString m
  | .hex d => "0x0..0x" ++ String.ofList ((List.replicate d 'F'))
  | .bytes lo hi => toString lo ++ ".." ++ toString hi
  | .ro t => t

end Sys2Proof.Machine
end

