-- ==== Sys2Proof/Machine/Attrs.lean ====
section
/-!
DEFINITION. Sys2Proof/Machine/Attrs.lean: the attribute tables of the nouns: range, unit, default, run-time mark and role (R85), and the GET set
of each noun (R58).
-/
namespace Sys2Proof.Machine

/-- The role column of the attribute tables; `wo` is a write-only attribute (R127). -/
inductive ARole
  | part | super | ro | wo
  deriving DecidableEq, Repr

/-- The run column: stopped only, run-time, or run-time only for a directly operated unit (Table PRT-4). -/
inductive ARun
  | no | yes | direct
  deriving DecidableEq, Repr

/-- One row of an attribute table. -/
structure AttrSpec where
  name : String
  form : AForm
  unit : String := ""
  dflt : Val := .w "NONE"
  run  : ARun := .no
  role : ARole := .part
  deriving DecidableEq, Repr

/-- A row with the supervisor role. -/
def AttrSpec.sup (a : AttrSpec) : AttrSpec := { a with role := .super }
/-- A run-time row. -/
def AttrSpec.rt (a : AttrSpec) : AttrSpec := { a with run := .yes }
/-- A row that is run-time under direct operation only. -/
def AttrSpec.rd (a : AttrSpec) : AttrSpec := { a with run := .direct }

/-- A row with an integer. -/
def aI (name : String) (lo hi : Int) (unit : String) (d : Int) : AttrSpec :=
  { name := name, form := .int lo hi, unit := unit, dflt := .n d }
/-- A row with an integer or a word; the default a number. -/
def aIW (name : String) (lo hi : Int) (ws : List String) (unit : String) (d : Val) : AttrSpec :=
  { name := name, form := .intW lo hi ws, unit := unit, dflt := d }
/-- A row with a word. -/
def aW (name : String) (ws : List String) (d : String) : AttrSpec :=
  { name := name, form := .words ws, unit := "word", dflt := .w d }
/-- A row with a time. -/
def aT (name : String) (lo hi step d : Nat) : AttrSpec :=
  { name := name, form := .time lo hi step, unit := "time", dflt := .n d }
/-- A read-only row. -/
def aR (name range : String) (unit : String := "") (d : String := "-") : AttrSpec :=
  { name := name, form := .ro range, unit := unit, dflt := .w d, role := .ro }
/-- A row without a default. -/
def AttrSpec.nd (a : AttrSpec) : AttrSpec := { a with dflt := .w "-" }

/-! ### The tables -/

/-- Table PRT-5: DEVICE. -/
def deviceAttrs : List AttrSpec :=
  [aR "STATE" "OFF,STANDBY,BOOT,READY,RUN,SAFE,SHUTDOWN" "word", aR "VARIANT" "0x0000_0000..0xFFFF_FFFF" "" "fused", aR "FACTORY" "YES,NO" "word" "YES",
   ((aW "OWNLOCK" ["ON", "OFF"] "OFF").rt).sup, ((aW "PINLOCK" ["ON", "OFF"] "OFF").rt).sup,
   ({ name := "SECPIN", form := .list 0 63, dflt := .l [] } : AttrSpec).sup, aR "ISLANDS" "ACTIVE,STOPPED,RETIRED,ABSENT" "word"]

/-- Table PRT-6: PART. -/
def partAttrs (i : Nat) : List AttrSpec :=
  let own (n : String) (hi : Nat) : AttrSpec := { name := n, form := .list 0 hi, dflt := .l (if i = 0 then List.range (hi + 1) else []), role := .super }
  [aR "STATE" "STOPPED,RUNNING,FAULTED,RESETTING" "word" "STOPPED", own "SEC" 255, own "CHAN" 47, own "GDR" 7, own "ODO" 7, own "SSP" 1,
   own "CAN" 3, own "PROD" 7, own "PROF" 15, own "PIN" 63, aR "LARDER" "0..1408", aR "RESETS" "0..4294967295" "" "0"]

/-- R127: KEY. -/
def keyAttrs : List AttrSpec :=
  let w (n : String) : AttrSpec := { name := n, form := .hex 16, dflt := .w "-", run := .yes, role := .wo }
  [w "W0", w "W1", w "W2", w "W3", aR "WRITTEN" "YES,NO" "word" "NO", aR "KCV" "0000..FFFF,----" "" "----"]

/-- Table PHR-10: SESSION. -/
def sessionAttrs : List AttrSpec :=
  [(aI "PART" 0 3 "" 0).rt, (aW "ECHO" ["ON", "OFF"] "OFF").rt, (aW "PROMPT" ["ON", "OFF"] "OFF").rt,
   (aW "REQCHECK" ["ON", "OFF"] "OFF").rt, (aW "EVCHECK" ["ON", "OFF"] "OFF").rt, (aW "EVENTS" ["ALL", "FAULT"] "ALL").rt,
   aR "ID" "0..10", aR "ROLE" "PART,SUPER" "word" "PART", aR "QUEUED" "0..16", aR "EVSEQ" "0..65535" "" "0"]

/-- Table PLN-3: IMPL. -/
def implAttrs : List AttrSpec :=
  [aW "MODEL" ["MOUNTED", "TRAILED"] "MOUNTED", aIW "ODO" 0 7 ["NONE"] "" (.w "NONE"), aW "POSSRC" ["GNSS", "EXT"] "GNSS",
   aW "HDGSRC" ["TRACK", "EXT"] "TRACK", aW "YAWSRC" ["DERIVED", "EXT"] "DERIVED", aW "SPDSRC" ["ODO", "GNSS", "EXT"] "ODO",
   aW "MINFIX" ["STD", "DGPS", "FLOAT", "FIXED"] "STD", aT "MAXAGE" 20000 1000000 1 200000, aI "ANTHGT" 0 10000 "mm" 0,
   aI "HITCHX" (-30000) 30000 "mm" 0, aI "HITCHY" (-30000) 30000 "mm" 0, aI "AXLE" 500 30000 "mm" 3000,
   aT "GRANTALLOW" 0 5000 1 2000, aI "MINSPD" 0 2000 "mm/s" 100, aW "NOGO" ["STRICT", "SHARE"] "STRICT",
   aW "RXZERO" ["CLOSE", "OPEN"] "CLOSE", aW "LOSTPOS" ["CLOSE", "HOLD"] "CLOSE", aT "LOSTHOLD" 0 10000000 1 2000000,
   aR "STATE" "STOPPED,RUNNING" "word" "STOPPED", aR "POSOK" "YES,NO" "word" "NO", aR "MOTION" "STOP,FWD,REV" "word" "STOP",
   aR "SPEED" "-30000..30000" "mm/s" "0", aR "HDG" "0..359999" "millidegree" "0", aR "YAW" "-180000..180000" "millidegree/s" "0",
   aR "GAMMA" "-85000..85000" "millidegree" "0", aR "EAST" "-20000000..20000000" "mm" "0", aR "NORTH" "-20000000..20000000" "mm" "0",
   aR "LANES" "TWIN,SINGLE,NONE" "word" "TWIN"]

/-- Table PLN-2: IMPL.n.POS and IMPL.n.MOT. -/
def sampleAttrs (pos : Bool) : List AttrSpec :=
  (if pos then
    [(aI "LAT" (-90000000000) 90000000000 "nanodegree" 0).rt, (aI "LON" (-180000000000) 180000000000 "nanodegree" 0).rt,
     (aI "HGT" (-1000000) 10000000 "mm" 0).rt, (aW "FIX" ["NONE", "STD", "DGPS", "FLOAT", "FIXED"] "NONE").rt].map AttrSpec.nd else []) ++
  [(aI "HDG" 0 359999 "millidegree" 0).rt, (aI "YAW" (-180000) 180000 "millidegree/s" 0).rt,
   (aI "SPD" (-30000) 30000 "mm/s" 0).rt, (aI "TOV" 0 18446744073709551 "us" 0).rt, (aT "AGE" 0 1000000 1 0).rt].map AttrSpec.nd

/-- Table PLN-4: SEC. -/
def secAttrs : List AttrSpec :=
  [aI "ALONG" (-30000) 30000 "mm" 0, aI "ACROSS" (-30000) 30000 "mm" 0, aI "WIDTH" 10 10000 "mm" 1000,
   aT "ONDELAY" 0 5000000 1000 0, aT "OFFDELAY" 0 5000000 1000 0, (aI "ONPCT" 1 1000 "0.1%" 500).rt,
   (aI "OFFPCT" 0 1000 "0.1%" 500).rt, { name := "BIND", form := .bind false, unit := "word", dflt := .l [0] },
   { name := "SPARE", form := .bind true, unit := "word", dflt := .l [0] }, aIW "PROD" 0 7 ["NONE"] "" (.w "NONE"),
   aW "STOP" ["HOLD", "CLOSE"] "CLOSE", aT "STOPTIME" 0 10000000 1 0, aW "REVERSE" ["CLOSE", "IGNORE"] "CLOSE",
   (aW "MANUAL" ["AUTO", "ON", "OFF"] "AUTO").rt, aR "STATE" "CLOSED,OPEN,UNSERVED,INACTIVE" "word",
   aR "REASON" "NONE,COVERED,NOGO,RXZERO,TURN,STOP,REVERSE,LOSTPOS,MANUAL,IDLE,SAFE,UNSERVED" "word",
   aR "COVER" "00000000..33333333" "word" "00000000", aR "SF" "0..2000" "0.1%" "1000", aR "VSPD" "-60000..60000" "mm/s" "0",
   aR "PEND" "NONE,ON,OFF" "word" "NONE"]

/-- Table MET-2: PROD. -/
def prodAttrs : List AttrSpec :=
  [{ name := "QUNIT", form := .text 8, dflt := .w "UNIT" }, aW "BASIS" ["AREA", "TIME"] "AREA",
   (aI "TARGET" 0 100000000 "0.01rate-unit" 0).rt, aW "TARGETSRC" ["FIXED", "RX"] "FIXED", aW "RXNONE" ["TARGET", "HOLD", "CLOSE"] "TARGET",
   aT "RXLEAD" 0 5000000 1 0, aW "FB" ["ODO", "NONE"] "ODO", aIW "FBODO" 0 7 ["NONE"] "" (.w "NONE"),
   aI "CAL" 1 100000000 "0.001pulse/quantity-unit" 1000000, aT "FBTAU" 0 2000000 1 100000, aW "OUT" ["VALVE", "MOTOR", "NOZZLE"] "VALVE",
   { name := "OUTUNIT", form := .outunit, unit := "word", dflt := .l [0] }, aI "KP" 0 65535 "output-unit/100%" 200, aI "KI" 0 65535 "output-unit/s/100%" 400,
   aI "ILIM" 0 20000 "output-unit" 500, aI "UMIN" 0 20000 "output-unit" 0, aI "UMAX" 0 20000 "output-unit" 1000, aI "UZERO" 0 20000 "output-unit" 0,
   aI "UFULL" 0 20000 "output-unit" 1000, aI "QFULL" 1 100000000 "0.01quantity-unit/min" 10000, aI "DNOM" 0 1000 "0.1%" 500,
   aI "NOMRATE" 1 100000000 "0.01rate-unit" 10000, aI "NOMSPD" 100 30000 "mm/s" 3000, aI "DUTYMIN" 0 1000 "0.1%" 100,
   aI "DUTYMAX" 0 1000 "0.1%" 950, aW "IDLEOUT" ["ZERO", "HOLD"] "ZERO", aT "FBTIMEOUT" 100000 10000000 1 1000000,
   aW "FBLOSS" ["OPEN", "HOLD", "CLOSE"] "CLOSE", aI "ALARMPCT" 10 500 "0.1%" 100, aT "ALARMTIME" 100000 60000000 1 3000000,
   aR "STATE" "STOPPED,RUNNING,UNMETERED" "word" "STOPPED", aR "ACTUAL" "0..100000000" "0.01rate-unit" "0", aR "FLOW" "0..100000000" "0.01quantity-unit/min" "0",
   aR "REQ" "0..100000000" "0.01quantity-unit/min" "0", aR "OUTPUT" "0..20000" "output-unit" "0", aR "ALARM" "NONE,LOW,HIGH" "word" "NONE"]

/-- Tables DRV-3 and DRV-4: CHAN and GDR (R385). -/
def driveAttrs (gdr : Bool) : List AttrSpec :=
  [aW "MODE" ["ONOFF", "PWM", "PROPORTIONAL"] "ONOFF"] ++ (if gdr then [] else [aW "WIRING" ["TWOTERM", "LOWSIDE"] "TWOTERM"]) ++
  [aW "FWD" ["DIODE", "NONE"] (if gdr then "DIODE" else "NONE"), aI "PROF" 0 15 "" 0,
   { name := "CLAMP", form := .oneOf [12, 18, 24, 36, 48], unit := "V", dflt := .n 36 }, aW "SAFE" ["OFF", "HOLDLAST"] "OFF",
   aI "FREQ" 1 (if gdr then 20000 else 100) "Hz" 15, aI "PWMOFS" 0 999 "0.1%" 0, (aI "DUTY" 0 1000 "0.1%" 0).rd,
   (aI "TARGET" 50 (if gdr then 20000 else 8000) "mA" 500).rd, aI "DFREQ" 50 400 "Hz" 100, aI "DAMP" 0 200 "0.1%" 0,
   aT "DWIN" 1000000 120000000 1 60000000, aIW "DLIMIT" 1 1000000 ["NONE"] "0.01A2s" (.w "NONE"),
   aW "DACT" ["THROTTLE", "CUT"] "THROTTLE", { name := "THRFLOOR", form := .stepInt 100 950 50, unit := "0.1%", dflt := .n 500 },
   (aW "STATE" ["OFF", "ON"] "OFF").rd, aR "RUN" "STOPPED,RUNNING" "word" "STOPPED",
   aR "USE" "NONE,SECTION,SPARE,PRODUCT,DIRECT,PAIRED" "word" "NONE", aR "OUT" "OFF,PH0,PH1,PH2,PH3,PH4,PH5,DECAY,CUT,SAFE,SAFEN" "word" "OFF",
   aR "IHS" "0..12000" "mA" "0", aR "ILS" "0..12000" "mA" "0", aR "SCALE" "0..1000" "0.1%" "1000", aR "DSUM" "0..4294967295" "0.01A2s" "0",
   aR "CALAGE" "0..65535" "s"] ++
  (if gdr then [aI "SHUNT" 2500 1000000 "uohm" 2500, aR "ISH" "0..25000" "mA" "0", aR "VDS" "0..60000" "mV" "0"] else [])

/-- Table DRV-5: PROF. -/
def profAttrs : List AttrSpec :=
  [aI "NPH" 1 6 "" 2, aW "CHOP" ["FREQ", "OFFT"] "FREQ", aI "CHOPF" 2 40 "kHz" 20, aT "CHOPT" 5 200 1 50,
   aW "REDUCE" ["ON", "OFF"] "OFF", aI "REDMIN" 50 20000 "mA" 500, aR "HOLD" "50..20000" "mA"]

/-- Table DRV-6: PROF.n.PHk. -/
def phaseAttrs (k : Nat) : List AttrSpec :=
  [aI "TARGET" 50 20000 "mA" (if k = 0 then 1500 else 500),
   aW "END" ["TIME", "REACHED", "HOLD"] (if k = 1 then "HOLD" else "TIME"), aT "T" 10 10000000 1 (if k = 0 then 20000 else 10000),
   aT "TLIM" 10 10000000 1 50000, aW "DECAY" ["SLOW", "FAST"] "SLOW", aW "OFF" ["SLOW", "FAST", "FASTSLOW"] "FAST",
   aT "TFAST" 10 100000 1 1000]

/-- R387: PAIR. -/
def pairAttrs : List AttrSpec :=
  [aW "LINK" ["ON", "OFF"] "OFF", aR "USE" "NONE,SECTION,SPARE,PRODUCT,DIRECT,PAIRED" "word" "NONE"]

/-- Table DIA-4: DIAG. -/
def diagAttrs : List AttrSpec :=
  let res := "OK,OPEN,SHORT-GND-OUTH,SHORT-GND-OUTL,SHORT-SUP-OUTH,SHORT-SUP-OUTL,OVERTEMP,SHORT-GND,SHORT-SUP,LEAK,OPENGND,SHORT-LOAD,IMBALANCE,GATE,NONE"
  [aW "ONDIAG" ["ON", "OFF"] "ON", aT "BLANK" 20 2000 1 200, aT "ONFILT" 10 1000 1 100, aW "SWEEP" ["ON", "OFF"] "OFF",
   aW "ACTION" ["RETIRE", "REPORT"] "RETIRE", aW "FLTNON" ["ON", "OFF"] "ON", aR "LIFE" "ACTIVE,SUSPECT,RETIRED,ABSENT" "word",
   aR "ONRES" res "word" "NONE", aR "OFFRES" res "word" "NONE", aR "BOOTRES" res "word" "NONE", aR "CAUSE" res "word" "NONE", aR "TEMP" "-40..195,NONE" "degC"]

/-- Table GRT-5 and R440: GRANT. -/
def grantAttrs (ix : Nat) : List AttrSpec :=
  let cnt (n : String) := aR n "0..4294967295" "" "0"
  if ix < 3 then
    [(if ix = 2 then ({ name := "BUDGET", form := .stepInt 0 320 5, unit := "mA", dflt := .n 100 } : AttrSpec).sup
      else ({ name := "BUDGET", form := .stepInt 1000 60000 500, unit := "mA", dflt := .n 8000 } : AttrSpec).sup)] ++
    (if ix = 2 then [] else [(aI "SECRES" 0 1000 "0.1%" 250).sup, (aW "GDRCHARGE" ["ON", "OFF"] "ON").sup]) ++
    [aR "USED" "0..65535" "mA" "0", aR "BOOKED" "0..65535" "mA" "0", cnt "GRANTED", cnt "DELAYED", cnt "REDUCED", cnt "REFUSED",
     aR "LANES" "TWIN,SINGLE,NONE" "word" "TWIN"]
  else
    [aR "CLASS" "NONE,SECTION,PULSE,METER" "word" "NONE", aR "OUTCOME" "NONE,GRANTED,DELAYED,REDUCED,REFUSED" "word" "NONE", aR "WAIT" "0..500000" "us",
     aR "IR" "0..20000" "mA", aR "HELD" "YES,NO" "word", aR "MAXWAIT" "0..500000" "us", cnt "GRANTED", cnt "DELAYED", cnt "REDUCED",
     cnt "REFUSED"]

/-- Table ODO-3: ODO. -/
def odoAttrs : List AttrSpec :=
  let cnt (n : String) (d : Val) : AttrSpec := { name := n, form := .int (-2147483648) 2147483647, unit := "count", dflt := d }
  [aW "SRC" ["PINS", "INTERNAL"] "PINS", aW "MODE" ["STEPDIR", "UPDOWN"] "STEPDIR", aW "DIRIN" ["PIN", "FIXED"] "PIN",
   aW "DIRPOL" ["HIGHUP", "LOWUP"] "HIGHUP", aW "EDGEA" ["RISING", "FALLING", "BOTH"] "RISING",
   aW "EDGEB" ["RISING", "FALLING", "BOTH"] "RISING", aI "FILTER" 0 100 "0.1us" 0, cnt "PRESET" (.n 0),
   aIW "MPC" 1 999999999 ["PROPOSED"] "nm" (.n 10000000), aI "CHGUP" 100 100000 "Hz" 500, aI "CHGDN" 50 99999 "Hz" 400,
   aT "ZEROTIME" 10000 10000000 1 500000, aW "IDXMODE" ["OFF", "ALWAYS", "ARMED-ONCE"] "OFF", aW "IDXEDGE" ["RISING", "FALLING"] "RISING",
   cnt "IDXVAL" (.n 0), cnt "IDXEXP" (.n 0), aIW "IDXTOL" 0 1000000 ["NONE"] "count" (.w "NONE"), aW "VETO" ["ON", "OFF"] "OFF",
   aT "PULSEW" 1 10000 1 10, aW "CMPPOL" ["HIGH", "LOW"] "HIGH", aW "CALMODE" ["ON", "OFF"] "OFF",
   aI "CALDIST" 10000 1000000 "mm" 100000, aI "CALRUNS" 1 16 "" 4, aW "CALAPPLY" ["MANUAL", "AUTO"] "MANUAL",
   { name := "PLAUS", form := .plaus, unit := "word", dflt := .l [0] }, aI "PLAUSTOL" 50 500 "0.1%" 200,
   aI "PLAUSMIN" 100 5000 "mm/s" 500, aR "STATE" "STOPPED,RUNNING,FAULTED" "word" "STOPPED", aR "COUNT" "-2147483648..2147483647" "count" "0",
   aR "RATE" "0..4294967295" "0.001count/s" "0", aR "SPEED" "-60000..60000" "mm/s" "0", aR "DIR" "UP,DOWN" "word" "UP",
   aR "SPDMODE" "PERIOD,WINDOW" "word" "PERIOD", aR "PROPOSED" "0..999999999,NONE" "nm" "NONE", aR "PLSTATE" "OFF,OK,SUSPENDED,IMPLAUS" "word" "OFF"]

/-- Table ODO-4: SSP. -/
def sspAttrs : List AttrSpec :=
  [aI "FREQ" 100 4000 "kHz" 1000, aT "PERIOD" 50 1000000 1 1000, aI "WORDBITS" 8 48 "bit" 25, aI "POSMSB" 0 47 "bit" 24,
   aI "POSLSB" 0 47 "bit" 1, aW "CHK" ["NONE", "CRC6", "CRC8"] "CRC6", aI "CRCINIT" 0 255 "" 0, aW "CRCINV" ["ON", "OFF"] "OFF",
   aIW "ERRBIT" 0 47 ["NONE"] "bit" (.n 0), aW "ERRPOL" ["LOW", "HIGH"] "LOW", aT "TIMEOUT" 1 255 1 20, aI "FAILMAX" 1 255 "cycles" 3,
   aR "STATE" "STOPPED,RUNNING" "word" "STOPPED", aR "VALUE" "0..281474976710655", aR "RAW" "0x0000_0000_0000..0xFFFF_FFFF_FFFF", aR "ERR" "YES,NO" "word" "NO",
   aR "LOST" "YES,NO" "word" "NO"]

/-- Table ATT-5: TIME. -/
def timeAttrs : List AttrSpec :=
  [aR "SYSTIME" "0..18446744073709551615" "ns", aR "GPS" "0..18446744073709551615,NONE" "ns" "NONE",
   ((aI "CAL" 0 9223372036854775807 "ms" 0).rt).sup.nd, aR "CALSRC" "NONE,GPS,HOST" "word" "NONE", ((aI "LEAP" 0 255 "s" 18).rt).sup,
   aR "LEAPV" "YES,NO" "word" "NO", aR "UTC" "yyyy-mm-ddThh:mm:ss.sssZ,NONE" "" "NONE", aR "RTCTRIM" "-2000..2000" "0.1ppm" "0", aR "RTC" "XTAL,RC" "word",
   aR "HOURS" "0..4294967295" "s", aR "BOOTS" "0..4294967295",
   (({ name := "ALARMIN", form := .timeW 1000000 2592000000000 1 ["NONE"], unit := "time" } : AttrSpec).rt).sup,
   aR "ALARMLEFT" "0..2592000,NONE" "s" "NONE"]

/-- R599: ATTIC. -/
def atticAttrs (hasIdx : Bool) : List AttrSpec :=
  if hasIdx then [aR "OLDEST" "1..281474976710655", aR "NEWEST" "0..281474976710655", aR "SLOTS" "4096,12288", aR "PENDING" "0..64" "" "0", aR "BAD" "0..12288" "" "0"]
  else [aR "STATE" "ACTIVE,RETIRED" "word" "ACTIVE", aR "GAPS" "0..4294967295" "" "0", aR "ERASES" "0..4294967295" "" "0"]

/-- The chapter mnemonics of Table SCO-4. -/
def chapterWords : List String :=
  ["SCO", "MAC", "PHR", "PRT", "PLN", "SWT", "CEL", "MET", "ODO", "GNS", "DRV", "DIA", "GRT", "PEER", "CAN", "HST", "PIN", "ATT",
   "PWR", "FLT", "ELC", "PKG", "REG", "WRK"]

/-- Table ATT-6: TRACE. -/
def traceAttrs : List AttrSpec :=
  [(aW "DEST" ["NONE", "UART2", "CELLAR"] "NONE").sup, ((aW "LEVEL" ["OFF", "EVENT", "ACT", "DETAIL"] "EVENT").rt).sup,
   ({ name := "SOURCES", form := .wordList chapterWords ["ALL"], unit := "word", dflt := .w "ALL" } : AttrSpec).sup,
   ({ name := "TRACESIZE", form := .oneOf [1, 2, 4, 8], unit := "MiB", dflt := .n 1 } : AttrSpec).sup, (aI "TRACEQ" 4 64 "block" 16).sup,
   aR "STATE" "STOPPED,RUNNING" "word" "STOPPED", aR "LOST" "0..4294967295" "" "0"]

/-- Table PWR-9: POWER. -/
def powerAttrs : List AttrSpec :=
  [(({ name := "VLOGWARN", form := .stepInt 2450 4600 50, unit := "mV", dflt := .n 2450 } : AttrSpec).rt).sup,
   ((aW "IGNMODE" ["ON", "OFF"] "ON").rt).sup, ((aT "IGNDELAY" 0 5000000 1000 1000000).rt).sup,
   ((aT "WAKEHOLD" 0 3600000000 1 60000000).rt).sup, ((aT "CRANKT" 0 2000000 1 1000000).rt).sup,
   (({ name := "WAKESRC", form := .wordList ["WAKEN", "IGN", "RTC", "PIN"] ["NONE"], unit := "word", dflt := .w "WAKEN,IGN,RTC,PIN" } : AttrSpec).rt).sup,
   ((aW "VXSV" ["1V8", "3V3"] "3V3").rt).sup, aR "STATE" "OFF,STANDBY,BOOT,READY,RUN,SAFE,SHUTDOWN" "word",
   aR "CAUSE" "POWERON,RSTN,WATCHDOG,DEVICE,RETURN,WAKE" "word", aR "VLOG" "0..65535" "mV", aR "VDRVA" "0..65535" "mV",
   aR "VDRVB" "0..65535" "mV", aR "RAILA" "OK,CRANK,UV,OV" "word", aR "RAILB" "OK,CRANK,UV,OV" "word", aR "IGN" "HIGH,LOW" "word",
   aR "TEMPC" "-40..195" "degC", aR "TEMPA" "-40..195" "degC", aR "TEMPB" "-40..195" "degC", aR "LASTWAKE" "NONE,WAKEN,IGN,RTC,PIN" "word" "NONE"]

/-- The class words of Table FLT-2, code 1 first. -/
def faultWords : List String :=
  ["DRIVE", "DIELINK", "PLANNER", "GRANT", "PHRASE", "ODOMETRY", "GPS", "MEMORY", "CELLAR", "CLOCK", "SUPPLY", "HOSTHB", "CHECKER", "BIST"]

/-- Table FLT-6 and R671: FAULT. -/
def faultAttrs (hasIdx : Bool) : List AttrSpec :=
  if hasIdx then
    [{ name := "HBTIME", form := .timeW 100000 10000000 1 ["NONE"], unit := "time" }, aR "HBLEFT" "0..10000,NONE" "ms", aR "HBEXP" "0..4294967295" "" "0"]
  else
    [(({ name := "FLTNCLASS", form := .wordList faultWords ["ALL"], unit := "word", dflt := .w "ALL" } : AttrSpec).rt).sup,
     aR "COVER" "FULL,PARTIAL" "word", aR "GAPS" "NONE,HB,CHECK,SCRUB,SINGLE,ODO,GPS,SENSE,CLAMP" "word",
     aR "LATCHED" (joinWith "," ("NONE" :: faultWords ++ ["DIAG"])) "word" "NONE", aR "LAST" (joinWith "," ("NONE" :: faultWords)) "word" "NONE", aR "FLTN" "ASSERTED,RELEASED" "word"]

/-- Table CEL-6: MAP and its layers. -/
def mapAttrs (ix : Option Nat) : List AttrSpec :=
  match ix with
  | none =>
    [(aIW "ORGLAT" (-90000) 90000 ["NONE"] "millidegree" (.w "NONE")).sup,
     (aIW "ORGLON" (-180000) 180000 ["NONE"] "millidegree" (.w "NONE")).sup, aR "STATE" "IDLE,BUSY" "word" "IDLE", aR "SAVED" "NONE,VALID" "word"]
  | some i =>
    [if i < 10 then { name := "COVCELL", form := .oneOf [50, 100, 200, 400], unit := "mm", dflt := .n 100 }
     else { name := "RXCELL", form := .stepInt 1000 10000 1000, unit := "mm", dflt := .n 5000 },
     aR "STATE" "EMPTY,USED,FULL" "word" "EMPTY", aR "TILES" "0..14336" "" "0"]

/-- Table CEL-7: CELLAR. -/
def cellarAttrs : List AttrSpec :=
  [({ name := "PSRAM", form := .oneOfW [8, 16, 32, 64, 128] ["NONE"], unit := "MiB" } : AttrSpec).sup,
   ({ name := "XSFREQ", form := .oneOf [50, 100, 133, 166, 200], unit := "MHz", dflt := .n 200 } : AttrSpec).sup,
   (aI "PSLAT" 3 16 "clock" 7).sup, (aI "NORDUMMY" 8 20 "clock" 16).sup, (aI "COVSIZE" 1 112 "MiB" 64).sup,
   (aI "RXSIZE" 1 112 "MiB" 8).sup, ({ name := "STAGESIZE", form := .oneOf [4, 8, 16], unit := "MiB", dflt := .n 4 } : AttrSpec).sup,
   (aI "LOGSIZE" 1 256 "MiB" 16).sup, aR "PSSTATE" "NONE,READY,FAILED" "word", aR "NORSTATE" "NONE,READY,FAILED" "word",
   aR "NORSIZE" "0..512" "MiB", aR "SCRUB" "0..60000" "ms"]

/-- R232: LOG. -/
def logAttrs : List AttrSpec :=
  [(aT "LOGINT" 100000 10000000 1 1000000).sup, (aW "ENABLE" ["ON", "OFF"] "ON").sup, aR "OLDEST" "0..4294967295", aR "NEWEST" "0..4294967295",
   aR "DROPS" "0..4294967295"]

/-- R233: LARDER. -/
def larderAttrs (hasIdx : Bool) : List AttrSpec :=
  if hasIdx then [aR "USED" "0..1408" "block", aR "QUOTA" "128,256" "block", aR "REFUSED" "0..4294967295"]
  else [aR "FREE" "0..2048" "block", aR "SHARED" "0..1280" "block"]

/-- R229, R234: PROFILE. -/
def profileAttrs (hasIdx : Bool) : List AttrSpec :=
  if hasIdx then [aR "STATE" "EMPTY,VALID,CORRUPT" "word", aR "NAME" "1..16", aR "VARIANT" "0x0000_0000..0xFFFF_FFFF", aR "HOURS" "0..4294967295" "s"]
  else [(aIW "BOOT" 0 7 ["NONE"] "" (.w "NONE")).sup]

/-- Table GNS-8 and R344: GNSS. -/
def gnssAttrs (hasIdx : Bool) : List AttrSpec :=
  if hasIdx then [(aW "OUT" ["NONE", "POS", "RAW", "BOTH"] "NONE").rt, (aW "COPY" ["KEEP", "FOLLOW"] "KEEP").rt]
  else
    let rates : List Int := [1, 2, 5, 10, 20]
    [(aW "AUTOSTART" ["ON", "OFF"] "ON").sup, (aW "ANTV" ["OFF", "3V3", "5V0"] "3V3").sup, (aW "NOTCH" ["AUTO", "OFF"] "AUTO").sup,
     (aI "JAMWARN" 0 254 "0.25dB" 40).sup, (aI "JAMALARM" 1 255 "0.25dB" 80).sup,
     ({ name := "EPOCHRATE", form := .oneOf rates, unit := "Hz", dflt := .n 5 } : AttrSpec).sup,
     ({ name := "POSRATE", form := .oneOf rates, unit := "Hz", dflt := .n 10 } : AttrSpec).sup, (aI "ELMASK" 0 30000 "millidegree" 5000).sup,
     (aI "CN0MASK" 200 400 "0.1dB-Hz" 250).sup, (aW "NEEDCHK" ["ON", "OFF"] "OFF").sup,
     ({ name := "NMEA", form := .wordList ["GGA", "RMC", "VTG", "GSA"] ["NONE"], unit := "word" } : AttrSpec).sup,
     ({ name := "NMEARATE", form := .oneOf rates, unit := "Hz", dflt := .n 1 } : AttrSpec).sup] ++
    [aR "STATE" "STOPPED,SEARCH,TRACK,FIX" "word" "STOPPED", aR "FIX" "NONE,STD" "word" "NONE", aR "NSV" "0..24" "" "0", aR "AIDLEVEL" "HOT,WARM,COLD" "word",
     aR "JAMI" "0..255" "0.25dB" "0", aR "JAM" "NONE,WARN,ALARM" "word" "NONE", aR "ANT" "OFF,OK,OPEN,SHORT" "word"] ++
    ((List.range 4).map fun k => aR ("NOTCH" ++ toString k) "IDLE,TRACKING,SATURATED" "word" "IDLE") ++
    ((List.range 4).map fun k => aR ("NOTCHHZ" ++ toString k) "-1023000..1023000" "Hz" "0") ++
    [aR "NOTCHFULL" "YES,NO" "word" "NO", aR "GPSTIME" "YES,NO" "word" "NO", aR "UTC" "YES,NO" "word" "NO"]

/-- R345: SAT. -/
def satAttrs : List AttrSpec :=
  [aR "PRN" "0..32", aR "STATE" "IDLE,ACQ,PULL,CODE,CARRIER,NAV" "word", aR "CN0" "0..1023" "0.1dB-Hz", aR "DOP" "-2147483648..2147483647" "mHz",
   aR "LOCK" "0..4294967295" "ms", aR "COPY" "YES,NO" "word", aR "EXCL" "YES,NO" "word", aR "EL" "-90000..90000" "millidegree", aR "AZ" "0..359999" "millidegree"]

/-- Table GNS-9: AID. -/
def aidAttrs (sub : String) : List AttrSpec :=
  let up (l : List AttrSpec) := l.map fun a => a.sup.rt.nd
  if sub = "TIME" then up [aI "WEEK" 0 65535 "week" 0, aI "TOW" 0 604799999 "ms" 0, aT "TUNC" 1 60000000 1 0]
  else if sub = "POS" then
    up [aI "LAT" (-90000000000) 90000000000 "nanodegree" 0, aI "LON" (-180000000000) 180000000000 "nanodegree" 0,
        aI "HGT" (-1000000) 10000000 "mm" 0, aI "PUNC" 1 10000 "km" 1]
  else if sub = "EPH" then up [aI "PRN" 1 32 "" 1, aI "SF" 1 3 "" 1, { name := "D", form := .bytes 30 30, dflt := .l [] }]
  else if sub = "ALM" then up [aI "PRN" 1 32 "" 1, { name := "D", form := .bytes 24 24, dflt := .l [] }]
  else if sub = "IONO" then up [{ name := "D", form := .bytes 24 24, dflt := .l [] }]
  else []

/-- Table CAN-5: CAN. -/
def canAttrs : List AttrSpec :=
  let n (s : String) (hi d : Int) : AttrSpec := aI s 1 hi "tq" d
  [aW "MODE" ["NORMAL", "LISTEN"] "NORMAL", aW "FD" ["ON", "OFF"] "ON", aI "NBRP" 1 512 "" 4, n "NSEG1" 256 63, aI "NSEG2" 2 128 "tq" 16,
   n "NSJW" 128 16, aI "DBRP" 1 32 "" 1, n "DSEG1" 32 14, n "DSEG2" 16 5, n "DSJW" 16 5, aW "TDC" ["AUTO", "OFF"] "AUTO",
   aIW "TDCO" 1 255 ["AUTO"] "12.5ns" (.w "AUTO"), aW "FILTER" ["OPEN", "LIST"] "OPEN", aI "NFILT" 1 128 "" 16,
   aI "RXMAX" 3 3072 "frame" 96, aI "TXMAX" 3 3072 "frame" 48, aW "DELIVER" ["QUEUE", "EVENT"] "QUEUE", aW "TXCONF" ["ON", "OFF"] "OFF",
   aI "TXWARN" 1 255 "" 96, aI "RXWARN" 1 255 "" 96, aW "BOFFTX" ["KEEP", "FLUSH"] "KEEP", aR "STATE" "STOPPED,RUNNING" "word" "STOPPED",
   aR "ERRSTATE" "ACTIVE,PASSIVE,BUSOFF" "word" "ACTIVE", aR "TEC" "0..255" "" "0", aR "REC" "0..255" "" "0", aR "LEC" "NONE,STUFF,FORM,ACK,BIT1,BIT0,CRC" "word" "NONE",
   aR "RATE" "0..5000000" "bit/s", aR "DRATE" "0..5000000" "bit/s", aR "TDCV" "0..127" "12.5ns" "0", aR "RXQ" "0..3072" "frame" "0",
   aR "TXQ" "0..3072" "frame" "0"]

/-- R491: CAN.n.TX, as ARM gives a frame. -/
def canTxAttrs : List AttrSpec :=
  [(aI "ID" 0 536870911 "" 0).rt.nd, (aW "XTD" ["YES", "NO"] "NO").rt, (aW "FD" ["YES", "NO"] "NO").rt, (aW "BRS" ["YES", "NO"] "NO").rt,
   { name := "D", form := .bytes 0 64, dflt := .w "-", run := .yes }, (aW "RTR" ["YES", "NO"] "NO").rt, (aI "DLC" 0 8 "" 0).rt.nd,
   (aW "ONESHOT" ["YES", "NO"] "NO").rt, (aI "TAG" 0 255 "" 0).rt]

/-- R500: FILTER.n.Ek. -/
def filterAttrs : List AttrSpec :=
  [aW "TYPE" ["OFF", "RANGE", "DUAL", "MASK"] "OFF", aW "XTD" ["YES", "NO"] "NO", aI "ID1" 0 536870911 "" 0, aI "ID2" 0 536870911 "" 0,
   aW "ACT" ["ACCEPT", "REJECT"] "ACCEPT", aW "RTR" ["YES", "NO"] "NO", aR "RAW" "0x0000_0000_0000_0000..0xFFFF_FFFF_FFFF_FFFF"]

/-- Table PEER-6: PEER. -/
def peerAttrs : List AttrSpec :=
  [(aI "ADDR" 0 127 "" 0).sup, (aI "CAN" 0 3 "" 0).sup, (aIW "BRIDGE" 0 3 ["NONE"] "" (.w "NONE")).sup, (aW "AUTOSTART" ["ON", "OFF"] "OFF").sup,
   ({ name := "POSOUT", form := .posout, dflt := .l [] } : AttrSpec).sup] ++
  ((List.range 4).map fun k => (aIW ("POSFROM" ++ toString k) 0 127 ["NONE"] "" (.w "NONE")).sup) ++
  [aR "STATE" "STOPPED,RUNNING,CONFLICT" "word" "STOPPED", aR "SYNCED" "YES,NO" "word" "NO", aR "MASTER" "0..127,NONE" "" "NONE", aR "SYNCTIME" "0..18446744073709551615" "ns",
   aR "OFFSET" "-9223372036854775808..9223372036854775807" "ns" "0", aR "NODES" "0..127,NONE" "" "NONE"]

/-- R468: NODE. -/
def nodeAttrs : List AttrSpec :=
  [aR "PRESENT" "YES,NO" "word", aR "HOPS" "0..3", aR "DSTATE" "OFF,STANDBY,BOOT,READY,RUN,SAFE,SHUTDOWN" "word", aR "VARIANT" "0x0000_0000..0xFFFF_FFFF",
   aR "BOOTS" "0..4294967295", aR "INST" "0..4294967295", aR "LEADS" "0..3,NONE", aR "AGE" "0..65535" "ms", aR "BINDS" "0..320"]

/-- Table HST-4: UART. -/
def uartAttrs (n : Nat) : List AttrSpec :=
  (if n = 1 then [] else [(aW "ENABLE" ["ON", "OFF"] "OFF").rt.sup]) ++
  [(aI "BAUD" 1200 3000000 "bit/s" 115200).rt.sup, (aW "PARITY" ["NONE", "EVEN", "ODD"] "NONE").rt.sup,
   (({ name := "STOP", form := .oneOf [1, 2], unit := "bit", dflt := .n 1 } : AttrSpec).rt).sup] ++
  (if n = 2 then [] else [(aW "AUTOBAUD" ["ON", "OFF"] (if n = 1 then "ON" else "OFF")).rt.sup]) ++
  [(aW "FLOW" ["NONE", "XONXOFF"] (if n = 2 then "NONE" else "XONXOFF")).rt.sup] ++
  (if n = 2 then [(aW "MODE" ["NMEA", "TRACE", "RAW"] "NMEA").rt.sup, (aIW "USEPART" 0 3 ["NONE"] "" (.w "NONE")).rt.sup] else []) ++
  [aR "STATE" "OFF,HUNT,RUN" "word", aR "RATE" "1200..3000000" "bit/s", aR "RXQ" "0..256" "entry" "0", aR "TXPAUSED" "YES,NO" "word" "NO"]

/-- R534: SPI. -/
def spiAttrs : List AttrSpec :=
  [(aW "ENABLE" ["ON", "OFF"] "OFF").rt.sup, (({ name := "SPIMODE", form := .oneOf [0, 3], dflt := .n 0 } : AttrSpec).rt).sup,
   (aW "ATTNPOL" ["LOW", "HIGH"] "LOW").rt.sup, aR "STATE" "OFF,RUN" "word", aR "RXROOM" "0..512" "byte", aR "TXWAIT" "0..4096" "byte"]

/-- R534: I2C. -/
def i2cAttrs : List AttrSpec :=
  [(aW "ENABLE" ["ON", "OFF"] "OFF").rt.sup, (({ name := "RATE", form := .oneOf [100, 400, 1000], unit := "kHz", dflt := .n 400 } : AttrSpec).rt).sup,
   (aT "STRETCH" 1000 100000 1 25000).rt.sup, (aIW "USEPART" 0 3 ["NONE"] "" (.w "NONE")).rt.sup, aR "STATE" "OFF,IDLE,BUSY" "word",
   aR "SDA" "HIGH,LOW" "word", aR "SCL" "HIGH,LOW" "word"]

/-- Table PIN-2: every function name with its kind (0 in, 1 out, 2 open-drain) and its allowed pins. -/
def pinFuncs : List (String × Nat × List Nat) :=
  ((List.range 8).map fun n => ("CNTA" ++ toString n, 0, List.range 32)) ++
  ((List.range 8).map fun n => ("CNTB" ++ toString n, 0, List.range 32)) ++
  ((List.range 8).map fun n => ("IDX" ++ toString n, 0, List.range 32)) ++
  ((List.range 8).map fun n => ("CMP" ++ toString n, 1, [n, 8 + n, 16 + n, 24 + n])) ++
  ((List.range 4).map fun n => ("CANTX" ++ toString n, 1, [32 + 2 * n, 48 + 2 * n])) ++
  ((List.range 4).map fun n => ("CANRX" ++ toString n, 0, [33 + 2 * n, 49 + 2 * n])) ++
  ((List.range 2).map fun p => ("SSPCLK" ++ toString p, 1, [40 + 2 * p, 56 + 2 * p])) ++
  ((List.range 2).map fun p => ("SSPDAT" ++ toString p, 0, [41 + 2 * p, 57 + 2 * p])) ++
  [("U0TX", 1, [44, 60]), ("U0RX", 0, [45, 61]), ("U2TX", 1, [46, 62]), ("U2RX", 0, [47, 63]), ("SPICSN", 0, [32, 48]), ("SPICK", 0, [33, 49]),
   ("SPIDI", 0, [34, 50]), ("SPIDO", 1, [35, 51]), ("ATTN", 1, [36, 52]), ("I2CSCL0", 2, [36, 52]), ("I2CSDA0", 2, [37, 53]),
   ("I2CSCL1", 2, [38, 54]), ("I2CSDA1", 2, [39, 55])]

/-- Table PIN-3: PIN. -/
def pinAttrs : List AttrSpec :=
  [aR "OWNER" "0..3,SECURE" "" "0", ({ name := "FUNC", form := .wordList (pinFuncs.map fun f => f.1) ["NONE"], unit := "word" } : AttrSpec).rt,
   (aW "DIR" ["IN", "OUT"] "IN").rt, (aW "LEVEL" ["LOW", "HIGH", "TOGGLE"] "LOW").rt, (aW "TYPE" ["PUSHPULL", "OPENDRAIN"] "PUSHPULL").rt,
   ({ name := "DRIVE", form := .oneOf [2, 8], unit := "mA", dflt := .n 2 } : AttrSpec).rt, (aW "PULL" ["NONE", "UP", "DOWN"] "NONE").rt,
   (aT "FILTER" 0 2000 1 0).rt, (aW "IRQ" ["NONE", "RISE", "FALL", "BOTH", "HIGH", "LOW"] "NONE").rt, (aT "EVMIN" 10000 10000000 1 10000).rt,
   (aW "RSTLVL" ["LOW", "HIGH", "KEEP"] "LOW").rt, (aW "WAKE" ["NONE", "HIGH", "LOW"] "NONE").rt.sup, aR "IN" "LOW,HIGH" "word",
   aR "EVT" "YES,NO" "word" "NO", aR "ECNT" "0..4294967295" "" "0", aR "BANK" "UP,DOWN" "word"]

/-- R729: REG. -/
def regAttrs : List AttrSpec := [(aI "VALUE" 0 4294967295 "" 0).rt.nd, (aI "MASK" 0 4294967295 "" 4294967295).rt]

/-- The rows of Table GNS-7, the position line, after epoch: key, range, unit. -/
def posRows : List (String × String × String) :=
  [("TOV", "0..18446744073709551615", "us"), ("WEEK", "0..65535", ""), ("TOW", "0..604799999", "ms"), ("FIX", "NONE,STD", "word"), ("DIM", "NONE,2D,3D", "word"),
   ("CHK", "YES,NO", "word"), ("LAT", "-90000000000..90000000000", "nanodegree"), ("LON", "-180000000000..180000000000", "nanodegree"),
   ("HGT", "-2147483648..2147483647", "mm"), ("VE", "-2147483648..2147483647", "mm/s"), ("VN", "-2147483648..2147483647", "mm/s"),
   ("VU", "-2147483648..2147483647", "mm/s"), ("COG", "0..359999", "millidegree"), ("NSV", "0..24", ""), ("PDOP", "0..9999", "0.01"),
   ("HDOP", "0..9999", "0.01"), ("VDOP", "0..9999", "0.01")]

/-- The keys of Table GNS-7 after epoch. -/
def posKeys : List String := posRows.map Prod.fst

/-- The attribute table of a noun, by index and sub. -/
def specs (n : Noun) (ix : Option Nat) (sub : String) : List AttrSpec :=
  let i := ix.getD 0
  match n with
  | .session => sessionAttrs
  | .device => deviceAttrs
  | .part => partAttrs i
  | .key => keyAttrs
  | .impl => if sub = "POS" then sampleAttrs true else if sub = "MOT" then sampleAttrs false else implAttrs
  | .sec => secAttrs
  | .prod => prodAttrs
  | .chan => driveAttrs false
  | .pair => pairAttrs
  | .prof => if sub = "" then profAttrs else phaseAttrs ((sub.toList.getD 2 '0').toNat - 48)
  | .gdr => driveAttrs true
  | .diag => diagAttrs
  | .grant => grantAttrs i
  | .odo => if sub = "IDX" then [aR "COUNT" "-2147483648..2147483647", aR "SLIP" "YES,NO" "word"] else odoAttrs
  | .cmp => [aR "HW" "0..64", aR "QUEUE" "0..4096", aR "HOST" "0..4160", aR "PLANNER" "0..512"]
  | .ssp => sspAttrs
  | .gnss => if sub = "POS" then posRows.map fun r => aR r.1 r.2.1 r.2.2 else if sub = "RAW" then [] else gnssAttrs ix.isSome
  | .sat => satAttrs
  | .aid => aidAttrs sub
  | .map => mapAttrs ix
  | .cellar => cellarAttrs
  | .larder => larderAttrs ix.isSome
  | .log => logAttrs
  | .profile => profileAttrs ix.isSome
  | .can => if sub = "TX" then canTxAttrs else if sub = "RX" then [] else canAttrs
  | .filter => filterAttrs
  | .peer => peerAttrs
  | .node => nodeAttrs
  | .uart => uartAttrs i
  | .spi => spiAttrs
  | .i2c => i2cAttrs
  | .pin => pinAttrs
  | .time => timeAttrs
  | .attic => atticAttrs ix.isSome
  | .trace => traceAttrs
  | .power => powerAttrs
  | .fault => faultAttrs ix.isSome
  | .reg => regAttrs

/-- The GET set of a noun, by index and sub (R58, and the chapter of each noun); where the chapter names none, everything that SHOW gives, in
its order. -/
def getSet (n : Noun) (ix : Option Nat) (sub : String) : List String :=
  let sp := (specs n ix sub).filter fun a => a.role ≠ .wo
  let all := ((sp.filter fun a => a.role ≠ .ro) ++ sp.filter fun a => a.role = .ro).map AttrSpec.name
  match n with
  | .session => ["ID", "PART", "ROLE", "ECHO", "PROMPT", "REQCHECK", "EVCHECK", "EVENTS", "QUEUED", "EVSEQ"]
  | .part => ["STATE", "RESETS", "LARDER"]
  | .impl => if sub = "" then ["STATE", "MOTION", "SPEED", "HDG", "EAST", "NORTH"] else all
  | .sec => ["STATE", "REASON", "SF", "COVER"]
  | .prod => ["STATE", "TARGET", "ACTUAL", "FLOW", "OUTPUT"]
  | .chan => ["STATE", "OUT", "ILS", "SCALE"]
  | .gdr => ["STATE", "OUT", "ISH", "SCALE"]
  | .prof => if sub = "" then ["NPH", "HOLD"] else all
  | .diag => ["LIFE", "ONRES", "OFFRES", "CAUSE"]
  | .grant => if ix.getD 0 < 3 then ["BUDGET", "USED", "REFUSED"] else ["OUTCOME", "WAIT", "IR"]
  | .odo => if sub = "" then ["STATE", "COUNT", "SPEED", "DIR"] else all
  | .ssp => ["VALUE", "RAW", "ERR", "LOST"]
  | .gnss => if ix.isNone then ["STATE", "FIX", "NSV", "JAMI", "ANT"] else all
  | .sat => ["PRN", "STATE", "CN0"]
  | .map => if ix.isSome then ["STATE", "TILES"] else all
  | .can => ["STATE", "ERRSTATE", "TEC", "REC", "RXQ", "TXQ"]
  | .peer => ["STATE", "SYNCED", "MASTER", "NODES"]
  | .node => ["PRESENT", "HOPS", "AGE"]
  | .uart => ["STATE", "RATE", "RXQ"]
  | .pin => ["FUNC", "DIR", "LEVEL", "IN"]
  | .time => ["SYSTIME", "GPS", "CAL", "UTC", "CALSRC"]
  | .attic => if ix.isSome then ["OLDEST", "NEWEST"] else all
  | .power => ["STATE", "VLOG", "VDRVA", "VDRVB", "IGN"]
  | .fault => if ix.isNone then ["COVER", "LATCHED", "LAST"] else all
  | .reg => ["VALUE"]
  | _ => all

/-- The row of an attribute, if the noun has it. -/
def specFind (name : String) : List AttrSpec → Option AttrSpec
  | [] => none
  | a :: t => if a.name = name then some a else specFind name t

end Sys2Proof.Machine
end

