-- ==== Sys2Proof/Machine/Ops.lean ====
section
/-!
DEFINITION. Sys2Proof/Machine/Ops.lean: the named operations over the state that every chapter uses: reading and writing an
instance, time, counters, stored configuration, ownership, event lines (R68, R73), trace lines (R594 to R596), attic records
handed over (R584), the larder (R222 to R224), partition and device states (R115, R116, R616).
-/
namespace Sys2Proof.Machine

/-! ### Instances -/

def State.sessAt (s : State) (i : Nat) : Session := Tab.get {} s.sess i
def State.setSess (s : State) (i : Nat) (x : Session) : State := { s with sess := Tab.set {} s.sess i x }
def State.partAt (s : State) (i : Nat) : Part := Tab.get {} s.parts i
def State.setPart (s : State) (i : Nat) (x : Part) : State := { s with parts := Tab.set {} s.parts i x }
def State.unitAt (s : State) (i : Nat) : Unit_ := Tab.get {} s.units i
def State.setUnit (s : State) (i : Nat) (x : Unit_) : State := { s with units := Tab.set {} s.units i x }
def State.implAt (s : State) (i : Nat) : Impl := Tab.get {} s.impls i
def State.setImpl (s : State) (i : Nat) (x : Impl) : State := { s with impls := Tab.set {} s.impls i x }
def State.secAt (s : State) (i : Nat) : Sec := Tab.get {} s.secs i
def State.setSec (s : State) (i : Nat) (x : Sec) : State := { s with secs := Tab.set {} s.secs i x }
def State.odoAt (s : State) (i : Nat) : Odo := Tab.get {} s.odos i
def State.setOdo (s : State) (i : Nat) (x : Odo) : State := { s with odos := Tab.set {} s.odos i x }
def State.sspAt (s : State) (i : Nat) : Ssp := Tab.get {} s.ssps i
def State.setSsp (s : State) (i : Nat) (x : Ssp) : State := { s with ssps := Tab.set {} s.ssps i x }
def State.prodAt (s : State) (i : Nat) : Prod_ := Tab.get {} s.prods i
def State.setProd (s : State) (i : Nat) (x : Prod_) : State := { s with prods := Tab.set {} s.prods i x }

/-- Apply a step for each of a list of instances, in order. -/
def overList {α : Type} (xs : List α) (f : α → State → State) (s : State) : State := xs.foldl (fun a x => f x a) s

/-- The sessions S0 to S10 (Table PHR-1). -/
def allSessions : List Nat := List.range 11

/-! ### Time -/

/-- One millisecond in nanoseconds. -/
abbrev nsMs : Nat := 1000000
/-- One second in nanoseconds. -/
abbrev nsS : Nat := 1000000000

/-- SYSTIME (R573). -/
def State.now (s : State) : Nat := s.times.sys

/-- Operating hours are counted in READY and RUN (R581). -/
def State.counting (s : State) : Bool := s.power.dstate = .ready || s.power.dstate = .run

/-- SYSTIME moves on to an instant `t`, never back (R573); calendar time and the operating hours move with it
(R576, R581). -/
def State.advanceTo (t : Nat) (s : State) : State :=
  let d := t - s.now
  { s with times := { s.times with
      sys := s.now + d
      cal := s.times.cal + d
      hoursNs := if s.counting then min (s.times.hoursNs + d) (4294967295 * nsS) else s.times.hoursNs } }

/-- The next instant at which a step of period `p` is due: the first multiple of `p` not before now at which it has
not run yet. -/
def State.nextTick (s : State) (name : String) (i p : Nat) : Nat :=
  let t := ceilDiv s.now p * p
  if (s.lastTick.find (name, i)) = some t then t + p else t

/-- A periodic step runs: time moves to its due instant, which is remembered. -/
def State.tick (s : State) (name : String) (i p : Nat) : State :=
  let t := s.nextTick name i p
  { s.advanceTo t with lastTick := AMap.put (name, i) t s.lastTick }

/-- CAL is valid while CALSRC is not NONE (R576). -/
def State.calValid (s : State) : Bool := s.times.calSrc ≠ .none_

/-- Operating hours in whole seconds (R581). -/
def State.hours (s : State) : Nat := s.times.hoursNs / nsS

/-! ### Counters and free values -/

/-- A counter (32-bit, wrapping). -/
def State.cnt (s : State) (name : String) (i : Nat := 0) : Nat := ((s.cnts.find (name, i)).getD 0).toNat
/-- Write a counter. -/
def State.setCnt (name : String) (i : Nat) (v : Nat) (s : State) : State :=
  { s with cnts := AMap.put (name, i) (BitVec.ofNat 32 v) s.cnts }
/-- Add to a counter. -/
def State.bumpBy (name : String) (i k : Nat) (s : State) : State := s.setCnt name i (s.cnt name i + k)
/-- Increment a counter. -/
def State.bump (name : String) (i : Nat := 0) (s : State) : State := s.bumpBy name i 1

/-- The next free value: a value the spec leaves open, and the state with the next one due. -/
def State.free (s : State) : BitVec 64 × State := (Config.freeBits s.freeIx, { s with freeIx := s.freeIx + 1 })

/-! ### Variant and islands (R1, R5, R36, R39) -/

/-- SYS_VARIANT (Table SCO-8). -/
def variantCode : Variant → Nat
  | .sdx9640 => 0x40083003
  | .sdx9624 => 0x24041801
  | .sdx9640n => 0x4E083002

/-- SYS_STEP (Table SCO-7). -/
def stepCode : Variant → Nat
  | .sdx9624 => 0x0000A1B0
  | _ => 0x00A1A1B0

def State.hasDieB (s : State) : Bool := s.power.variant ≠ .sdx9624
def State.hasGps (s : State) : Bool := s.power.variant ≠ .sdx9640n

/-- Unit u (0 to 47 DRVu, 48 to 55 GDR(u-48)) is present on the variant (Table SCO-1). -/
def State.unitPresent (s : State) (u : Nat) : Bool := s.hasDieB || u < 24 || (48 ≤ u && u < 52)

/-- The drive island of unit u (Table MAC-3). -/
def unitIsland (u : Nat) : Nat := if u < 48 then 48 + u / 3 else if u < 52 then u else u + 4

/-- The power die of unit u: false A, true B. -/
def unitDieB (u : Nat) : Bool := 56 ≤ unitIsland u

/-- The units an island carries. -/
def islandUnits (i : Nat) : List Nat := (List.range 56).filter fun u => unitIsland u = i

/-- The essential islands (R40). -/
def essential (i : Nat) : Bool := [0, 1, 8, 9, 40, 42, 43].contains i

/-- An island belongs to a unit the variant lacks (R5). -/
def State.islandAbsent (s : State) (i : Nat) : Bool :=
  (!s.hasDieB && 56 ≤ i && i < 64) || (!s.hasGps && 24 ≤ i && i < 32)

/-- An island is RETIRED. -/
def State.retired (s : State) (i : Nat) : Bool := Tab.get .active s.islands i = .retired

/-- The islands that run in SAFE (Table PWR-3). -/
def safeRuns (i : Nat) : Bool := [0, 1, 2, 3, 5, 8, 9, 39, 40, 42, 43].contains i

/-- The state of an island as Table MAC-5 shows it. -/
def State.island (s : State) (i : Nat) : IslState :=
  if s.islandAbsent i then .absent
  else if s.retired i then .retired
  else match s.power.dstate with
    | .boot | .standby | .off => .stopped
    | .safe => if safeRuns i then .active else .stopped
    | _ => Tab.get .active s.islands i

def islWord : IslState → String
  | .active => "ACTIVE" | .stopped => "STOPPED" | .retired => "RETIRED" | .absent => "ABSENT"

/-- Mark an island. -/
def State.setIsland (s : State) (i : Nat) (x : IslState) : State := { s with islands := Tab.set .active s.islands i x }

/-- The word of an island, as `I05`. -/
def islName (i : Nat) : String := "I" ++ two i

/-- A twin pair (I02–I03, I10–I11, I37–I38) with one lane retired shows SINGLE, with both NONE (R42). -/
def State.lanes (s : State) (a b : Nat) : String :=
  match s.retired a, s.retired b with
  | false, false => "TWIN"
  | true, true => "NONE"
  | _, _ => "SINGLE"

/-! ### Stored configuration (R119) -/

/-- The default of an attribute. -/
def dfltOf (n : Noun) (ix : Nat) (sub name : String) : Val :=
  match specFind name (specs n (some ix) sub) with
  | some a => a.dflt
  | none => match specFind name (specs n none sub) with
    | some a => a.dflt
    | none => .n 0

/-- A stored attribute, or its default. -/
def State.val (s : State) (n : Noun) (ix : Nat) (name : String) (sub : String := "") : Val :=
  (s.cfg.find ⟨n, ix, sub, name⟩).getD (dfltOf n ix sub name)

/-- Store an attribute. -/
def State.store (n : Noun) (ix : Nat) (sub name : String) (v : Val) (s : State) : State :=
  { s with cfg := AMap.put ⟨n, ix, sub, name⟩ v s.cfg }

def Val.int : Val → Int
  | .n i => i
  | _ => 0
def Val.word : Val → String
  | .w x => x
  | _ => ""
def Val.list : Val → List Nat
  | .l xs => xs
  | _ => []
def Val.isNum : Val → Bool
  | .n _ => true
  | _ => false

def State.int (s : State) (n : Noun) (ix : Nat) (name : String) (sub : String := "") : Int := (s.val n ix name sub).int
def State.nat (s : State) (n : Noun) (ix : Nat) (name : String) (sub : String := "") : Nat := (s.val n ix name sub).int.toNat
def State.word (s : State) (n : Noun) (ix : Nat) (name : String) (sub : String := "") : String := (s.val n ix name sub).word
def State.list (s : State) (n : Noun) (ix : Nat) (name : String) (sub : String := "") : List Nat := (s.val n ix name sub).list
/-- A time attribute in nanoseconds. -/
def State.ns (s : State) (n : Noun) (ix : Nat) (name : String) (sub : String := "") : Nat := 1000 * s.nat n ix name sub
/-- A number attribute that may be NONE. -/
def State.natOpt (s : State) (n : Noun) (ix : Nat) (name : String) (sub : String := "") : Option Nat :=
  match s.val n ix name sub with
  | .n i => some i.toNat
  | _ => none
def State.isOn (s : State) (n : Noun) (ix : Nat) (name : String) (sub : String := "") : Bool := s.word n ix name sub = "ON"

/-! ### Ownership (R97, R98) -/

/-- The code of SECURE in the ownership map. -/
abbrev secureOwner : Nat := 5

/-- The owner of an ownable unit: partition 0 to 3, or SECURE for a pin; PART0 by default (Table PRT-1). A pair follows its
even member; the parts of an implement, a compare list or a unit's diagnosis follow their unit. -/
def State.owner (s : State) (n : Noun) (i : Nat) : Nat :=
  match n with
  | .impl => i
  | .part | .fault | .gnss => i
  | .pair => (s.own.find (.chan, i)).getD 0
  | .cmp => (s.own.find (.odo, i)).getD 0
  | .diag => if i < 48 then (s.own.find (.chan, i)).getD 0 else (s.own.find (.gdr, i - 48)).getD 0
  | .grant => if i < 148 then (s.own.find (.chan, i - 100)).getD 0 else (s.own.find (.gdr, i - 148)).getD 0
  | .filter => (s.own.find (.can, i)).getD 0
  | _ => (s.own.find (n, i)).getD 0

/-- The owner of drive unit u. -/
def State.unitOwner (s : State) (u : Nat) : Nat := s.owner .diag u

/-- Give a unit to an owner. -/
def State.setOwner (n : Noun) (i o : Nat) (s : State) : State :=
  { s with own := if o = 0 then AMap.del (n, i) s.own else AMap.put (n, i) o s.own }

/-- The instances of a class that an owner holds, of `k` in all. -/
def State.owned (s : State) (n : Noun) (k o : Nat) : List Nat := (List.range k).filter fun i => s.owner n i = o

/-- The sections of implement n: those its partition owns (Table PRT-1). -/
def State.sectionsOf (s : State) (n : Nat) : List Nat := s.owned .sec 256 n

/-! ### Trace lines (R594 to R596) -/

/-- The place of a level in Table ATT-4. -/
def traceLevel (w : String) : Nat :=
  if w = "EVENT" then 1 else if w = "ACT" then 2 else if w = "DETAIL" then 3 else 0

/-- SOURCES names a chapter. -/
def inSources (srcs : String) (chapter : String) : Bool := srcs = "ALL" || (splitStr ',' srcs).contains chapter

/-- Characters waiting in the trace queue. -/
def traceChars (q : List TLine) : Nat := (q.map fun l => l.text.length).sum

/-- A trace line is made: queued, or dropped and counted when TRACEQ blocks are full (R596). -/
def State.traceLine (lvl : Nat) (chapter text : String) (s : State) : State :=
  if s.trace.running && s.word .trace 0 "DEST" ≠ "NONE" && s.trace.asleep.isNone && lvl ≤ traceLevel (s.word .trace 0 "LEVEL")
      && inSources (s.word .trace 0 "SOURCES") chapter then
    if ceilDiv (traceChars s.trace.queue + text.length) 256 ≤ s.nat .trace 0 "TRACEQ" then
      { s with trace := { s.trace with queue := s.trace.queue ++ [{ t := s.now, text := text }] } }
    else ({ s with trace := { s.trace with lost := s.trace.lost + 1 } }).bump "TRLOST_CNT"
  else s

/-! ### Lines to sessions (R65, R68, R73) -/

/-- A line with its check where one is asked for (R64). -/
def withCheck (checked : Bool) (line : String) : String :=
  if checked then line ++ " *" ++ String.ofList (hexDigits (crc8 line.toList) 2) else line

/-- The end of a line on the wire (R65). -/
def crlf : String := "\r\n"

/-- Characters waiting in an output queue. -/
def outChars (x : Session) : Nat := (x.out.map String.length).sum

/-- The output queue of a session holds 4,096 characters (R73). -/
abbrev outMax : Nat := 4096

/-- Room for `k` more characters. -/
def outRoom (x : Session) (k : Nat) : Bool := outChars x + k ≤ outMax

/-- An EV line to one session: numbered as it is placed, or dropped and counted when it does not fit, when lines of a reply are still
owed, or while a loss is still to be reported (R68, R73). -/
def State.evTo (i : Nat) (body : String) (s : State) : State :=
  let x := s.sessAt i
  if !x.opened then s
  else
    let line := withCheck x.evcheck ("EV " ++ toString x.evseq ++ " " ++ body) ++ crlf
    if x.lost = 0 && x.owed.isEmpty && outRoom x line.length then
      s.setSess i { x with out := x.out ++ [line], evseq := (x.evseq + 1) % 65536 }
    else (s.setSess i { x with lost := x.lost + 1 }).bump "EVDROP_CNT" i

/-- Which sessions an EV line reaches (R68): all whatever EVENTS says; those bound to one of the partitions, and those holding the
supervisor role where `super` is set; one session; or, for a port, supervisor sessions, those of partitions, and the session carried (R535). -/
inductive EvDest
  | all
  | to (parts : List Nat) (super : Bool)
  | one (i : Nat)
  | port (parts : List Nat) (carried : Option Nat)
  deriving DecidableEq, Repr

/-- A session receives an EV line of this destination. -/
def EvDest.reaches (d : EvDest) (i : Nat) (x : Session) : Bool :=
  match d with
  | .all => true
  | .to ps sup => !x.faultOnly && (ps.contains x.part || (sup && x.super))
  | .one j => i = j
  | .port ps c => !x.faultOnly && (x.super || ps.contains x.part || c = some i)

/-- An EV line is raised by a chapter: to the sessions it reaches, and to the trace. -/
def State.ev (chapter : String) (d : EvDest) (body : String) (s : State) : State :=
  (overList allSessions (fun i a => if d.reaches i (a.sessAt i) then a.evTo i body else a) s).traceLine 1 chapter body

/-- A device-level event, to the supervisor sessions (R68). -/
abbrev toSuper : EvDest := .to [] true
/-- An event of a unit that partition n owns (R68). -/
abbrev toPart (n : Nat) : EvDest := .to [n] false

/-! ### The attic takes a record (R584 to R587) -/

/-- Largest number of pending records. -/
abbrev atticMax : Nat := 64

/-- The owner's quota in the larder (R222): owners 0 to 3 the partitions, 4 the device. -/
def larderQuota (o : Nat) : Nat := if o = 4 then 256 else 128

/-- Compare entries reserved for the planner on a unit: two per bound section of the implements that it drives (R295). -/
def State.plannerRoom (s : State) (n : Nat) : Nat :=
  ((List.range 4).map fun k =>
    if (s.implAt k).running && s.natOpt .impl k "ODO" = some n then 2 * ((s.sectionsOf k).filter fun j => s.list .sec j "BIND" ≠ [0]).length else 0).sum

/-- Entries that a unit's refill queue holds or reserves (R295). -/
def State.queueRoom (s : State) (n : Nat) : Nat :=
  let q := (s.odoAt n).entries.filter fun e => !e.hw
  (q.filter Entry.host).length + max (s.plannerRoom n) (q.filter fun e => !e.host).length

/-- The compare refill queues of a partition's odometry units, in blocks (Table CEL-5). -/
def State.cmpBlocks (s : State) (o : Nat) : Nat :=
  ((List.range 8).map fun k => if s.owner .odo k = o then ceilDiv (8 * s.queueRoom k) 256 else 0).sum

/-- Bytes in the peer transmit and receive queues. -/
def State.peerBytes (s : State) : Nat :=
  ((s.peer.tx.map fun f => f.data.length).sum) + ((s.peer.asm.map fun a => ((a.frags.map fun f => f.2.length).sum)).sum)

/-- Blocks in use by an owner (Table CEL-5). -/
def State.larderUsed (s : State) (o : Nat) : Nat :=
  Tab.get 0 s.larder.used o +
  if o = 4 then
    29 * (allSessions.filter fun i => (s.sessAt i).opened).length + ceilDiv (64 * s.attic.pend.length) 256
      + ceilDiv (traceChars s.trace.queue) 256 + ceilDiv (64 * s.cellar.logPend.length) 256 + ceilDiv s.peerBytes 256 + ceilDiv (Tab.get {} s.uarts 2).tx.length 256
  else s.cmpBlocks o

/-- The owners of the larder. -/
def owners : List Nat := List.range 5

/-- Free blocks: 2,048 less those in use and those withdrawn (R221, R656). -/
def State.larderFree (s : State) : Nat := 2048 - s.larder.bad.length - (owners.map s.larderUsed).sum

/-- Unused part of an owner's guarantee. -/
def State.larderSpare (s : State) (o : Nat) : Nat := larderQuota o - s.larderUsed o

/-- `k` blocks are given to an owner: each under its guarantee, or while the free blocks exceed the unused guarantees of every other
owner (R223). -/
def State.larderGives (s : State) (o k : Nat) : Bool :=
  s.larderUsed o + k ≤ larderQuota o
    || ((owners.filter (· ≠ o)).map s.larderSpare).sum + k ≤ s.larderFree

/-- A refused request (R224): LAR_REFUSE_CNT, and EV LARDER FULL at most once per second per owner. -/
def State.larderRefused (o : Nat) (s : State) : State :=
  let s1 := s.bump "LAR_REFUSE_CNT" o
  let last := Tab.get none s1.larder.evAt o
  if last = none || last.getD 0 + nsS ≤ s1.now then
    ({ s1 with larder := { s1.larder with evAt := Tab.set none s1.larder.evAt o (some s1.now) } }).ev "CEL"
      (if o = 4 then toSuper else toPart o) ("LARDER." ++ toString o ++ " FULL")
  else s1

/-- EV ATTIC GAP, at most once per second per log (R601). -/
def State.atticGapEv (log lost : Nat) (s : State) : State :=
  let last := if log = 0 then s.attic.gapEv0 else s.attic.gapEv1
  if last = none || last.getD 0 + nsS ≤ s.now then
    let a := s.attic
    ({ s with attic := if log = 0 then { a with gapEv0 := some s.now } else { a with gapEv1 := some s.now } }).ev "ATT" toSuper
      ("ATTIC GAP log=" ++ toString log ++ " lost=" ++ toString lost)
  else s

/-- A record is lost: counted, and owed to the next GAP record of its log (R584). -/
def State.atticLose (log : Nat) (s : State) : State :=
  let a := s.attic
  let s1 := { s with attic := if log = 0 then { a with lost0 := a.lost0 + 1 } else { a with lost1 := a.lost1 + 1 } }
  (s1.bump "ATT_GAP_CNT").atticGapEv log (if log = 0 then s1.attic.lost0 else s1.attic.lost1)

/-- Hand a record to I39 (R584, R586): STAMP and SYSTIME are taken now. After the commit has begun, or with I39 retired, it is lost
uncounted (R592, R593). -/
def State.handoff (r : ARec) (s : State) : State :=
  if s.retired 39 || s.attic.committed then s
  else if atticMax ≤ s.attic.pend.length then s.atticLose r.log
  else
    let need := ceilDiv (64 * (s.attic.pend.length + 1)) 256 - ceilDiv (64 * s.attic.pend.length) 256
    if need ≠ 0 && !s.larderGives 4 need then (s.larderRefused 4).atticLose r.log
    else
      let tv := r.log = 0 && s.calValid
      let rec' := { r with
        flags := (if tv then 1 else 0) + (if tv && s.times.calSrc = .host then 2 else 0)
        stamp := if tv then s.times.cal else s.now
        systime := s.now }
      { s with attic := { s.attic with pend := s.attic.pend ++ [rec'] } }

/-- A service-log record of the device. -/
def State.service (code src inst sess part : Nat) (data : List Nat) (s : State) : State :=
  s.handoff { log := 1, code := code, src := src, inst := inst, sess := sess, part := part, data := data }

/-- A field-log record. -/
def State.fieldBy (code src inst sess part : Nat) (data : List Nat) (s : State) : State :=
  s.handoff { log := 0, code := code, src := src, inst := inst, sess := sess, part := part, data := data }

/-- A field-log record that no session's phrase causes. -/
def State.field (code src inst part : Nat) (data : List Nat) (s : State) : State := s.fieldBy code src inst 255 part data

/-- The pad of a record's unused bytes. -/
def padTo (k : Nat) (bs : List Nat) : List Nat := (bs ++ List.replicate k 0).take k

/-- The LOCKED-WRITE record and its count (R124). -/
def State.lockedWrite (sess addr : Nat) (token : String) (s : State) : State :=
  let x := s.sessAt sess
  (s.service 0x0208 2 255 sess x.part
    (leBytes addr 4 ++ padTo 16 ((token.toList.take 16).map Char.toNat) ++ [if x.super then 1 else 0])).bump "LOCKWR_CNT"

/-! ### Device and partition states (R115, R116, R616) -/

def dstateWord : DState → String
  | .off => "OFF" | .standby => "STANDBY" | .boot => "BOOT" | .ready => "READY" | .run => "RUN" | .safe => "SAFE"
  | .shutdown => "SHUTDOWN"

def dstateCode : DState → Nat
  | .off => 0 | .standby => 1 | .boot => 2 | .ready => 3 | .run => 4 | .safe => 5 | .shutdown => 6

def causeWord : Cause → String
  | .poweron => "POWERON" | .rstn => "RSTN" | .watchdog => "WATCHDOG" | .device => "DEVICE" | .return_ => "RETURN" | .wake => "WAKE"

def causeCode : Cause → Nat
  | .poweron => 0 | .rstn => 1 | .watchdog => 2 | .device => 3 | .return_ => 4 | .wake => 5

def pstateWord : PState → String
  | .stopped => "STOPPED" | .running => "RUNNING" | .faulted => "FAULTED" | .resetting => "RESETTING"

def pstateCode : PState → Nat
  | .stopped => 0 | .running => 1 | .faulted => 2 | .resetting => 3

/-- The device state changes, with its EV line to every session (R616). -/
def State.setDState (d : DState) (cause : String) (s : State) : State :=
  if s.power.dstate = d then s
  else ({ s with power := { s.power with dstate := d } }).ev "PWR" .all
    ("DEVICE STATE state=" ++ dstateWord d ++ " cause=" ++ cause)

/-- READY and RUN follow the partitions (R616, Table PWR-4): RUN while one is RUNNING. -/
def State.updateDState (n : Nat) (s : State) : State :=
  let anyRun := (List.range 4).any fun k => (s.partAt k).state = .running
  match s.power.dstate with
  | .ready => if anyRun then s.setDState .run ("PART." ++ toString n) else s
  | .run => if anyRun then s else s.setDState .ready ("PART." ++ toString n)
  | _ => s

/-- A partition changes state: EV PART.n STATE (R116); its heartbeat timer starts at its entry to RUNNING (R660); the device follows. -/
def State.setPState (n : Nat) (st : PState) (cause : String) (s : State) : State :=
  let p := s.partAt n
  if p.state = st then s
  else
    let p' := { p with
      state := st
      cause := if st = .faulted then cause else ""
      hbStart := if st = .running then s.now else p.hbStart }
    ((s.setPart n p').ev "PRT" (.to [n] true)
      ("PART." ++ toString n ++ " STATE state=" ++ pstateWord st ++ (if st = .faulted then " cause=" ++ cause else ""))).updateDState n

end Sys2Proof.Machine
end

