-- ==== Sys2Proof/Machine/Clock.lean ====
section
/-!
DEFINITION. Sys2Proof/Machine/Clock.lean: one edge of the 98.208 MHz clock, by which SYSTIME advances (R573).
-/
namespace Sys2Proof.Machine

/-- SYSTIME after one edge: 31,250 / 3,069 ns more, as whole nanoseconds and a remainder in units of 1/3,069 ns (R573). -/
def edgeTimes (sys rem : Nat) : Nat × Nat :=
  let r := rem + 560
  if 3069 ≤ r then (sys + 11, r - 3069) else (sys + 10, r)

/-- SYSTIME runs in every state but OFF and STANDBY (R572, R574), and not while the device is held in reset. -/
def State.clockRuns (s : State) : Bool := s.power.dstate ≠ .off && s.power.dstate ≠ .standby && !s.power.inReset

/-- With no command waiting, one clock edge passes (DESIGN CHOICE, notes/assumptions). -/
def idleEdge (s : State) : State :=
  if s.clockRuns then
    let e := edgeTimes s.times.sys s.times.rem
    let s1 := s.advanceTo e.1
    { s1 with times := { s1.times with rem := e.2 } }
  else s

end Sys2Proof.Machine
end

