-- ==== Sys2Proof/Machine/GnssCore.lean ====
section
/-!
DEFINITION. Sys2Proof/Machine/GnssCore.lean: the tracking channels and the events of the GPS receiver (09_gnss.md, R332 to R334, R342, R347, R350).
-/
namespace Sys2Proof.Machine

/-- The implement uses the internal receiver. -/
def State.usesGnss (s : State) (n : Nat) : Bool := s.word .impl n "POSSRC" = "GNSS" || s.word .impl n "SPDSRC" = "GNSS"

/-- Events of GNSS, SAT and AID (R347). -/
def State.gnssEv (t : String) (s : State) : State :=
  s.ev "GNS" (.to ((List.range 4).filter fun n => s.word .gnss n "OUT" ≠ "NONE" || s.usesGnss n) true) t

/-- Channel c. -/
def State.gch (s : State) (c : Nat) : Chan_ := Tab.get {} s.gnss.ch c
def State.setGch (c : Nat) (x : Chan_) (s : State) : State := { s with gnss := { s.gnss with ch := Tab.set {} s.gnss.ch c x } }

/-- The tracking channels, and the island of one. -/
def gnssChans : List Nat := List.range 24
def chanIsland (c : Nat) : Nat := 26 + c / 6

/-- Channels without a satellite, in clusters that are in service, lowest first (R334, R350). -/
def State.idleChans (s : State) : List Nat := gnssChans.filter fun c => (s.gch c).state = 0 && !s.retired (chanIsland c)

/-- The record of a copy's beginning or end (R333). -/
def State.copyRecord (c beg : Nat) (s : State) : State :=
  let x := s.gch c
  s.field 0x0104 (chanIsland c) c 4 ([c, x.prn, beg, 0] ++ leBytes (toTwos 16 x.copyOff) 2 ++ leBytes x.copyDb.toNat 2)

/-- The copy on channel c ends (R333): its copy channel becomes the channel of the PRN where it tracks and the original is gone, and is freed otherwise (R334, R350). -/
def State.satCopyEnd (c : Nat) (lost : Bool) (s : State) : State :=
  let x := s.gch c
  if !x.copy then s
  else
    let s1 := (s.copyRecord c 0).gnssEv ("SAT." ++ toString c ++ " COPYEND prn=" ++ toString x.prn)
    let s2 := s1.setGch c { x with copy := false, hits := 0, miss := 0, copyCh := none }
    match x.copyCh with
    | none => s2
    | some k => if lost && 3 ≤ (s2.gch k).state then s2.setGch k { s2.gch k with isCopy := false } else s2.setGch k {}

/-- Channel c goes back to IDLE (R332, R334). -/
def State.dropChan (c : Nat) (s : State) : State :=
  let s1 := s.satCopyEnd c true
  let s2 := if (s1.gch c).isCopy then overList gnssChans (fun k a => if (a.gch k).copyCh = some c then a.setGch k { a.gch k with copyCh := none } else a) s1 else s1
  s2.setGch c {}

/-- Channels end at once (R323, R350): a copy channel that ends with them takes nothing over. -/
def State.dropChans (cs : List Nat) (s : State) : State :=
  overList cs State.dropChan (overList (cs.filter fun c => (s.gch c).isCopy) State.dropChan s)

/-- FIX becomes NONE or STD, with its event at a change (R347). -/
def State.setFix (fix : Bool) (nsv : Nat) (s : State) : State :=
  let s1 : State := { s with gnss := { s.gnss with fix := fix, nsv := nsv, fixSince := if fix then some (s.gnss.fixSince.getD s.now) else none } }
  if s.gnss.fix = fix then s1 else s1.gnssEv ("GNSS FIX fix=" ++ (if fix then "STD" else "NONE") ++ " nsv=" ++ toString nsv)

/-- The UTC parameters that page 18 of subframe 4 holds, words 3 to 10 as 24 bytes: the leap second, the full week near `wk` and the day at whose end the next one takes
effect, and that one (Table GNS-1, IS-GPS-200). -/
def utcParams (iono : List Nat) (wk : Nat) : Nat × Nat × Nat × Nat :=
  let b (i : Nat) : Nat := iono.getD i 0
  let w : Int := wk - 128 + ((b 19 : Int) - wk + 128) % 256
  ((ofTwos 8 (b 18)).toNat, w.toNat, b 20, (ofTwos 8 (b 21)).toNat)

/-- The end of a UTC day on the GPS scale in seconds, with the leap second applied (R580). -/
def leapInstant (week day new : Nat) : Nat := week * 604800 + day * 86400 + new

/-- Validity of GPS time and UTC changes: the event, and the hand-over to the time base (R342, R575, R580). -/
def State.setGpsTime (off : Option Int) (s : State) : State :=
  let gps := off.isSome
  let utc := gps && s.gnss.aid.utc && s.gnss.aid.iono.isSome
  let g := match off with
    | some o => ((s.now : Int) + o).toNat
    | none => 0
  let p := utcParams (s.gnss.aid.iono.getD []) (g / (604800 * nsS))
  let t := leapInstant p.2.1 p.2.2.1 p.2.2.2
  let tm := { s.times with gpsOff := off, gpsFirst := if gps then s.times.gpsFirst || !s.gnss.gpsV else false }
  let tm' := if utc then { tm with leap := p.1, leapv := true, leapSched := if p.1 ≠ p.2.2.2 && g < t * nsS then some (t, p.2.2.2) else none } else tm
  let s1 : State := { s with times := tm', gnss := { s.gnss with gpsV := gps, utcV := utc } }
  if gps = s.gnss.gpsV && utc = s.gnss.utcV then s1
  else s1.gnssEv ("GNSS TIME gps=" ++ yesNo gps ++ " utc=" ++ yesNo utc ++ " leap=" ++ toString s1.times.leap)

/-- Every tracking channel ends; the position and GPS time end with them (R323, R575). -/
def State.gnssDown (s : State) : State :=
  let s1 := s.dropChans gnssChans
  let s2 : State := { s1 with gnss := { s1.gnss with running := false, acqWait := none, acqEnd := none, dim := 0, chk := false, nav := none } }
  (s2.setFix false 0).setGpsTime none

end Sys2Proof.Machine
end

