-- ==== Sys2Proof/Machine/Reply.lean ====
section
/-!
DEFINITION. Sys2Proof/Machine/Reply.lean: running a phrase (R53, R69 to R71): which row of the opcode table a phrase is, the order of checks
(R70), the reply lines (R64 to R67), all-or-nothing and per-instance ranges (R56, R66), and the accounts of Table PHR-11.
-/
namespace Sys2Proof

/-- The instances a phrase names: one, those of a range that the noun has (Table PHR-9), or the unindexed noun as instance 0. -/
def Phrase.insts (p : Phrase) : List Nat :=
  match p.noun with
  | none => [0]
  | some r => match r.idx with
    | .none => [0]
    | .one n => [n]
    | .range a b => (Machine.natsFrom a (b + 1 - a)).filter (Machine.nounIndex r.noun).2

/-- The phrase names a range. -/
def Phrase.ranged (p : Phrase) : Bool :=
  match p.noun with
  | some r => match r.idx with
    | .range _ _ => true
    | _ => false
  | none => false

/-- The index of the noun, if it has one. -/
def Phrase.ix (p : Phrase) : Option Nat :=
  match p.noun with
  | some r => match r.idx with
    | .one n => some n
    | .range a _ => some a
    | .none => none
  | none => none

/-- The index of a phrase's instance. -/
def Phrase.inst (p : Phrase) (k : Nat) : Option Nat := if p.ix.isSome then some k else none

def Phrase.sub (p : Phrase) : String := (p.noun.map NounRef.sub).getD ""
def Phrase.nn (p : Phrase) : Option Noun := p.noun.map NounRef.noun
def Phrase.has (p : Phrase) (name : String) : Bool := p.attrs.any fun a => a.name = name
def Phrase.attr (p : Phrase) (name : String) : Option AttrTok := p.attrs.find? fun a => a.name = name
def Phrase.value (p : Phrase) (name : String) : Option String := (p.attr name).bind AttrTok.value
def Phrase.adv (p : Phrase) (a : Adverb) : Bool := p.advs.any fun d => d.adv = a
/-- The token of an attribute, for at=. -/
def Phrase.tok (p : Phrase) (name : String) : Option String := some (((p.attr name).map AttrTok.tok).getD name)

end Sys2Proof

namespace Sys2Proof.Machine

/-- Keys and values of one DA or EV line. -/
abbrev KVs := List (String × String)

/-! ### Errors (R69, R70) -/

/-- The code as sent. -/
def ecodeWord : ECode → String
  | .queue => "E-QUEUE" | .char => "E-CHAR" | .syntax_ => "E-SYNTAX" | .check => "E-CHECK" | .node => "E-NODE" | .verb => "E-VERB"
  | .noun => "E-NOUN" | .absent => "E-ABSENT" | .retired => "E-RETIRED" | .auth => "E-AUTH" | .owner => "E-OWNER" | .attr => "E-ATTR"
  | .range => "E-RANGE" | .locked => "E-LOCKED" | .state => "E-STATE" | .busy => "E-BUSY" | .full => "E-FULL"
  | .notready => "E-NOTREADY" | .i2cstuck => "E-I2C-STUCK"

/-- The text of Table PHR-7. -/
def ecodeText : ECode → String
  | .queue => "queue full" | .char => "bad character" | .syntax_ => "bad form" | .check => "check failed" | .node => "node unreachable"
  | .verb => "unknown verb" | .noun => "unknown noun" | .absent => "absent on this variant" | .retired => "unit retired"
  | .auth => "not authorised" | .owner => "not owner" | .attr => "bad attribute" | .range => "value out of range" | .locked => "locked"
  | .state => "wrong state" | .busy => "busy" | .full => "no room" | .notready => "not ready" | .i2cstuck => "i2c data stuck"

/-- The row of a code in Table PHR-7, counted from 1 (BOOTFAIL record, R229). -/
def ecodeRow : ECode → Nat
  | .syntax_ => 1 | .verb => 2 | .noun => 3 | .attr => 4 | .range => 5 | .state => 6 | .owner => 7 | .auth => 8 | .locked => 9 | .busy => 10
  | .queue => 11 | .char => 12 | .check => 13 | .notready => 14 | .absent => 15 | .node => 16 | .full => 17 | .i2cstuck => 18 | .retired => 19

/-- The place of a code in the order of checks of R70, from E-NODE on. -/
def errRank : ECode → Nat
  | .queue => 1 | .char => 2 | .syntax_ => 5 | .check => 4 | .node => 6 | .verb => 7 | .noun => 8 | .absent => 9 | .retired => 10 | .auth => 11
  | .owner => 12 | .attr => 13 | .range => 14 | .locked => 15 | .state => 16 | .busy => 17 | .full => 18 | .notready => 19 | .i2cstuck => 20

/-- The first error found in the order of R70; among errors of one check, the first given. -/
def pickErr : List Err → Option Err
  | [] => none
  | e :: es => match pickErr es with
    | none => some e
    | some f => if errRank f.code < errRank e.code then some f else some e

/-- An error where a condition holds. -/
def errIf (c : Bool) (code : ECode) (at_ : Option String := none) : List Err := if c then [⟨code, at_⟩] else []

/-! ### Answers -/

/-- What a phrase, or one instance of it, comes to: the errors found, the effect with its DA lines, what follows the reply, an effect of
its own on an error (in place of that of R124), and whether the reply is still to come. -/
structure Ans where
  errs     : List Err := []
  act      : State → State × List KVs := fun s => (s, [])
  post     : State → State := id
  onErr    : Option (ECode → State → State) := none
  addr     : Nat := 0xFFFFFFFF
  await    : Bool := false

/-- An answer that only changes the state. -/
def Ans.eff (errs : List Err) (f : State → State) : Ans := { errs := errs, act := fun s => (f s, []) }
/-- An answer that only reads. -/
def Ans.read (errs : List Err) (f : State → List KVs) : Ans := { errs := errs, act := fun s => (s, f s) }

/-- The effects of an E-LOCKED answer (R124). -/
def lockedEffects (i : Nat) (a : Ans) (e : Err) (s : State) : State :=
  match a.onErr with
  | some f => f e.code s
  | none => if e.code = .locked then s.lockedWrite i a.addr (e.at_.getD "") else s

/-- One instance of a ranged phrase other than SET: its own success or failure, with the line that says so (R56, R66). -/
def rangeStep (i : Nat) (f : Nat → State → Ans) (n : Nat) (acc : State × List KVs × Bool) : State × List KVs × Bool :=
  let a := f n acc.1
  match pickErr a.errs with
  | some e => (lockedEffects i a e acc.1, acc.2.1 ++ [[("inst", toString n), ("err", ecodeWord e.code)]], acc.2.2)
  | none =>
    let r := a.act acc.1
    let lines := match r.2 with
      | [] => [[("inst", toString n)]]
      | ls => ls.map fun l => ("inst", toString n) :: l
    (a.post r.1, acc.2.1 ++ lines, true)

/-- A phrase over its instances (R56): one instance, a ranged SET whole or not at all with the error of the lowest failing instance, or each
instance on its own. A ranged GET NEW with nothing new at all is E-NOTREADY (R81). -/
def perInst (i : Nat) (p : Phrase) (f : Nat → State → Ans) (s : State) : Ans :=
  if !p.ranged then f (p.insts.headD 0) s
  else if p.verb = .set then
    { errs := ((p.insts.map fun n => (f n s).errs).find? fun es => !es.isEmpty).getD []
      act := fun s0 => (overList p.insts (fun n a => ((f n a).act a).1) s0, [])
      post := fun s0 => overList p.insts (fun n a => (f n a).post a) s0
      addr := (f (p.insts.headD 0) s).addr }
  else
    let all := fun s0 : State => p.insts.foldl (fun acc n => rangeStep i f n acc) ((s0, [], false) : State × List KVs × Bool)
    { errs := errIf (p.adv .new && !(all s).2.2) .notready
      act := fun s0 => ((all s0).1, (all s0).2.1) }

/-! ### Lines of a reply (R64 to R67) -/

/-- The tag element of a reply line (R62). -/
def tagText (tag : Option String) : String :=
  match tag with
  | some t => " #" ++ t
  | none => ""

/-- `key=value` elements. -/
def kvText (l : KVs) : List String := l.map fun p => p.1 ++ "=" ++ p.2

/-- Fill lines greedily with elements, up to `room` characters each (R66): `acc` is the line being filled. -/
def fillLines (room : Nat) (first : String) : List String → String → List String
  | [], acc => if acc = "" then [] else [acc]
  | e :: es, acc =>
    if acc = "" then fillLines room first es (if first = "" then e else first ++ " " ++ e)
    else if acc.length + 1 + e.length ≤ room then fillLines room first es (acc ++ " " ++ e)
    else acc :: fillLines room first es (if first = "" then e else first ++ " " ++ e)

/-- The DA lines of one line of data, split at key boundaries above 200 characters, each part beginning with the repeated first key where the
reply has several lines (R66). -/
def daLines (tag : Option String) (checked several : Bool) (l : KVs) : List String :=
  let pre := "DA" ++ tagText tag ++ " "
  let room := 200 - pre.length - (if checked then 4 else 0)
  let es := kvText l
  let parts := match es with
    | [] => [""]
    | e :: rest =>
      if several then (match rest with
        | [] => [e]
        | _ => fillLines room e rest "")
      else fillLines room "" es ""
  parts.map fun t => withCheck checked (pre ++ t) ++ crlf

/-- The OK line. -/
def okLine (tag : Option String) (checked : Bool) : String := withCheck checked ("OK" ++ tagText tag) ++ crlf

/-- The ER line (R67): at= truncated to 32 characters. -/
def erLine (e : Err) (tag : Option String) (checked : Bool) : String :=
  let base := "ER" ++ tagText tag ++ " " ++ ecodeWord e.code ++ " " ++ ecodeText e.code
  let t := match e.at_ with
    | some t => base ++ " at=" ++ String.ofList (t.toList.take 32)
    | none => base
  withCheck checked t ++ crlf

/-- Place reply lines, in order: those that find no room are owed, and later ones behind them (R73). -/
def placeLines : List String → Session → Session
  | [], x => x
  | l :: ls, x =>
    if x.owed.isEmpty && outRoom x l.length then placeLines ls { x with out := x.out ++ [l] }
    else placeLines ls { x with owed := x.owed ++ [l] }

/-- Reply lines of a session. -/
def State.putLines (i : Nat) (ls : List String) (s : State) : State := s.setSess i (placeLines ls (s.sessAt i))

/-- EV lines go behind a reply, or are dropped with their numbers where they no longer fit (R68, R73); with the number dropped. -/
def placeEvs : List String → Session → Session × Nat
  | [], x => (x, 0)
  | l :: ls, x =>
    if x.owed.isEmpty && outRoom x l.length then placeEvs ls { x with out := x.out ++ [l] }
    else
      let d := ls.length + 1
      ({ x with lost := x.lost + d, evseq := (x.evseq + 65536 - d % 65536) % 65536 }, d)

/-- Reply lines of a phrase that raised EV lines: the reply comes first, as in the transcripts of 23_worked_system.md. `n` pieces stood in the
output queue before the phrase had its effect. -/
def State.putReply (n i : Nat) (ls : List String) (s : State) : State :=
  let x := s.sessAt i
  let r := placeEvs (x.out.drop n) (placeLines ls { x with out := x.out.take n })
  let s1 := s.setSess i r.1
  if r.2 = 0 then s1 else s1.bumpBy "EVDROP_CNT" i r.2

/-- A routed phrase of the session still awaits its node: it has not left the queue (R71). -/
def State.awaitsNode (s : State) (i : Nat) : Bool := s.routed.any fun r => r.sess = i

/-- The session reset its own partition, and its later phrases wait for the end (R94). -/
def State.resetHolds (s : State) (i : Nat) : Bool := (List.range 4).any fun n => (s.partAt n).wasLast.contains i

/-- The prompt of R75, when the queue is empty and the last reply line has been sent. -/
def State.prompt (i : Nat) (s : State) : State :=
  let x := s.sessAt i
  if x.opened && x.prompt && x.queue.isEmpty && x.owed.isEmpty && x.await.isNone && !s.awaitsNode i && !s.resetHolds i && outRoom x 2 then s.setSess i { x with out := x.out ++ ["> "] }
  else s

/-- An ER line with the accounts of Table PHR-11. -/
def State.sendErr (i : Nat) (e : Err) (tag : Option String) (checked : Bool) (s : State) : State :=
  let s1 := (s.putLines i [erLine e tag checked]).bump "ERR_CNT" i
  match e.code with
  | .check => s1.bump "CHK_CNT" i
  | .queue => s1.bump "QFULL_CNT" i
  | .char => s1.bump "CHAR_CNT" i
  | _ => s1

/-- A phrase has passed checks 1 to 5 and its turn has come (Table PHR-11, PHR_CNT). -/
def State.counted (i : Nat) (s : State) : State := s.bump "PHR_CNT" i

/-- The error of a faulty line once its turn has come: E-CHECK where the session then demands a check that the line lacks (R64, R87), which R70
places before every form error but those of the line's length and of its check field. -/
def lateCheck (need checked : Bool) (e : Err) : Err :=
  let third := e.code = .syntax_ && (match e.at_ with
    | none => true
    | some t => t.toList.contains '*')
  if need && !checked && e.code ≠ .char && !third then ⟨.check, none⟩ else e

/-- Lines already found faulty are answered as they reach the front (R53). -/
def flushRejects (i : Nat) : List QEntry → State → State
  | .reject e tag c :: rest, s =>
    if (s.sessAt i).owed.isEmpty && !s.awaitsNode i && !s.resetHolds i then
      let e' := lateCheck (s.sessAt i).reqcheck c e
      let s1 := s.setSess i { s.sessAt i with queue := rest }
      let s2 := if e'.code = .verb || e'.code = .noun then s1.counted i else s1
      flushRejects i rest (s2.sendErr i e' tag c)
    else s
  | _, s => s

/-- After a phrase: faulty lines behind it, then the prompt. -/
def State.settle (i : Nat) (s : State) : State :=
  let s1 := flushRejects i (s.sessAt i).queue s
  let s2 := if 3 ≤ i then s1.setSess i { s1.sessAt i with lastUse := s1.now } else s1
  if (s2.sessAt i).await.isNone then s2.prompt i else s2

/-! ### Receiving and taking a phrase -/

/-- A phrase is received: it restarts the idle limits, and if checked is a heartbeat of its partition (R110, R660). -/
def State.received (i : Nat) (checked : Bool) (s : State) : State :=
  let x := s.sessAt i
  let s1 := s.setSess i { x with lastPhrase := s.now }
  if checked then
    let p := s1.partAt x.part
    if p.state = .running then s1.setPart x.part { p with hbStart := s.now } else s1
  else s1

/-- The partition whose group a register belongs to; none for the device's and SECURE's (R726). -/
def State.regOwner (s : State) (a : Nat) : Option Nat :=
  let b := a / 0x10000
  let off := a % 0x10000
  let own (n : Noun) (i : Nat) : Option Nat := let o := s.owner n i
    if o < 4 then some o else none
  if b = 1 then (if 0x100 ≤ off && off < 0x500 then some (off / 0x100 - 1) else none)
  else if b = 2 then
    (if off < 0x400 then some (off / 0x100) else if 0x1000 ≤ off && off < 0x1400 then own .sec ((off - 0x1000) / 4)
     else if 0x2000 ≤ off && off < 0x2800 then own .sec ((off - 0x2000) / 8) else none)
  else if b = 3 then (if off < 0x2000 then own .odo (off / 0x400) else none)
  else if b = 4 then (if off < 0x200 then own .ssp (off / 0x100) else none)
  else if b = 6 then (if off < 0x3000 then own .chan (off / 0x100) else none)
  else if b = 7 then (if off < 0x800 then own .gdr (off / 0x100) else none)
  else if b = 8 then (if off < 0xE00 then own .diag (off / 0x40) else none)
  else if b = 9 then (if 0x1000 ≤ off && off < 0x1700 then own .diag ((off - 0x1000) / 0x20) else none)
  else if b = 11 then (if 0x10 ≤ off && off < 0x20 then some ((off - 0x10) / 4) else if 0x30 ≤ off && off < 0x40 then some ((off - 0x30) / 4) else none)
  else if b = 12 then (if off < 0x4000 && !(Tab.get {} s.cans (off / 0x1000)).peer then own .can (off / 0x1000) else none)
  else if b = 15 then
    (if off < 0x100 then own .pin (off / 4) else if off < 0x200 then own .pin ((off - 0x100) / 4) else if 0x400 ≤ off && off < 0x500 then some ((off - 0x400) / 0x40) else none)
  else if b = 19 then (if 0x60 ≤ off && off < 0x70 then some ((off - 0x60) / 4) else none)
  else if b = 20 then (if off < 0x200 then own .prod (off / 0x40) else if off < 0x300 then own .prod ((off - 0x200) / 0x20) else none)
  else none

/-- The addresses that a REG phrase names (R730), up to the first that exceeds 16 words. -/
def regWords (p : Phrase) : List Nat :=
  match p.noun with
  | some r => match r.idx with
    | .one a => [a]
    | .range a b => (List.range (min 17 ((b - a) / 4 + 1))).map fun k => a + 4 * k
    | .none => []
  | none => []

/-- The partitions whose units a phrase names; a phrase that names RESET PART itself is answered otherwise (R130). -/
def State.namedParts (s : State) (p : Phrase) : List Nat :=
  match p.noun with
  | some r =>
    match r.noun with
    | .impl | .sec | .prod | .chan | .pair | .prof | .gdr | .diag | .odo | .cmp | .ssp | .can | .filter | .pin => p.insts.map (s.owner r.noun)
    | .part => if p.verb = .reset then [] else p.insts
    | .reg => (regWords p).filterMap fun a => if [1, 11, 19].contains (a / 0x10000) then none else s.regOwner a
    | _ => []
  | none => []

/-- A phrase waits in its queue: for a partition reset of the units it names (R130), or for the check of the phrase lanes (R652). -/
def State.mustWait (s : State) (p : Phrase) : Bool :=
  s.faults.laneChk.isSome || (s.namedParts p).any fun n => (s.partAt n).state = .resetting

/-- What the device state refuses (R621, R622): in SHUTDOWN all but GET, SHOW and HELP; in SAFE all but those, LOGIN, LOGOUT, RESET DEVICE and
the session's own settings. -/
def State.deviceErr (s : State) (p : Phrase) : List Err :=
  let read := p.verb = .get || p.verb = .showV || p.verb = .help
  match s.power.dstate with
  | .shutdown => errIf (!read) .state
  | .safe => errIf (!(read || p.verb = .login || p.verb = .logout || p.nn = some .session || (p.verb = .reset && p.nn = some .device))) .state
  | _ => []

/-- A verb that only reads (R43, R669). -/
def readVerb (v : Verb) : Bool := v = .get || v = .showV || v = .help || v = .watch

/-- The session may run this phrase now: it is at the front of the queue, or the queue is empty and it arrives with this step. The state
with it taken from the queue, or none. -/
def State.takePhrase (i : Nat) (p : Phrase) (s : State) : Option State :=
  let x := s.sessAt i
  if !x.opened || !x.owed.isEmpty || x.await.isSome || s.awaitsNode i || s.power.noPhrases || s.resetHolds i then none
  else match x.queue with
    | [] => if s.mustWait p then none else some (s.received i p.checked)
    | .phrase q :: rest => if q = p && !s.mustWait p then some (s.setSess i { x with queue := rest }) else none
    | _ => none

/-- Codes whose ER line names a cause (R67): where no narrower one was found, the noun token. -/
def namedErr (p : Phrase) (e : Err) : Err :=
  if e.at_.isNone && [ECode.noun, .attr, .range, .locked, .absent].contains e.code then { e with at_ := some p.nounTok } else e

/-- A phrase without errors has its effect, then its lines and OK (R69, R73); a reply still to come leaves the phrase waiting. -/
def State.succeed (i : Nat) (p : Phrase) (a : Ans) (s : State) : State :=
  let r := a.act s
  let s1 := if readVerb p.verb || p.checked then r.1
    else r.1.setSess i { r.1.sessAt i with unchecked := some r.1.now }
  if a.await then s1.setSess i { s1.sessAt i with await := some p }
  else
    let several := p.ranged || 1 < r.2.length
    let lines := (r.2.map (daLines p.tag p.checked several)).flatten ++ (if p.adv .quiet then [] else [okLine p.tag p.checked])
    (a.post (s1.putReply (s.sessAt i).out.length i lines)).settle i

/-- Answer a phrase with its judgement: its first error, or its effect (R69). -/
def State.answer (i : Nat) (p : Phrase) (a : Ans) (s : State) : State :=
  match pickErr (errIf ((s.sessAt i).reqcheck && !p.checked) .check ++ s.deviceErr p ++ a.errs) with
  | some e => ((lockedEffects i a e s).sendErr i (namedErr p e) p.tag p.checked).settle i
  | none => s.succeed i p a

/-- Give the reply that a phrase still owes (R130, R458), in front of the pieces behind the first `n`. -/
def State.answerFrom (n i : Nat) (e : Option Err) (s : State) : State :=
  let x := s.sessAt i
  match x.await with
  | none => s
  | some p =>
    let s1 := s.setSess i { x with await := none }
    match e with
    | some e => (s1.sendErr i (namedErr p e) p.tag p.checked).settle i
    | none => ((s1.putReply n i (if p.adv .quiet then [] else [okLine p.tag p.checked]))).settle i

/-- Give the reply that a phrase still owes, behind all that waits. -/
def State.answerLater (i : Nat) (e : Option Err) (s : State) : State := s.answerFrom (s.sessAt i).out.length i e

/-! ### Which row of the opcode table a phrase is -/

/-- The register that a row of its own names, by address (chapters 03, 16, 17, 19). -/
def regRow (a : Nat) : String :=
  if a = 0x00010004 then "DEV_LOCK_WRITE"
  else if a = 0x00130004 then "FLT_LATCH_WRITE"
  else if a = 0x00110044 then "ATT_SEL_HI_WRITE"
  else if 0x000F0400 ≤ a ∧ a < 0x000F0540 then
    let o := (a - 0x000F0400) % 0x40
    if o < 8 then "OUT_SET_WRITE" else if o < 16 then "OUT_CLR_WRITE" else if o < 24 then "OUT_TGL_WRITE"
    else if o < 32 then "EVT_CLEAR_WRITE" else "SET_REG"
  else "SET_REG"

/-- The quantities that the latch of an odometry unit or of a serial port holds (R287, R301). -/
def latchNames (n : Noun) : List String := match n with
  | .odo => ["COUNT", "RATE", "SPEED", "DIR"]
  | .ssp => ["VALUE", "RAW", "ERR"]
  | _ => []
/-- A GET reads a latched result: the GET set, or a quantity that the latch holds (R309, R311). -/
def readsLatch (p : Phrase) (r : NounRef) : Bool :=
  (r.noun = .odo || r.noun = .ssp) && r.sub = "" && (p.attrs.isEmpty || p.attrs.any fun a => (latchNames r.noun).contains a.name)

/-- A sub whose SET has attributes of its own (Table PHR-9). -/
def setsSub (n : Noun) : Bool := n = .impl || n = .aid || n = .prof || n = .filter || n = .i2c
/-- A verb that a sub accepts besides GET and SET. -/
def actsSub (v : Verb) (n : Noun) (sub : String) : Bool :=
  match n with
  | .odo => v = .arm || v = .disarm
  | .can => (sub = "TX" && (v = .arm || v = .disarm)) || (sub = "RX" && v = .reset)
  | .uart => (sub = "TX" && v = .arm) || (sub = "RX" && v = .reset)
  | _ => false

/-- The row of a SET. -/
def setRow (p : Phrase) (r : NounRef) : String :=
  if r.sub ≠ "" && !setsSub r.noun then "SET_ATTRIBUTES"
  else match r.noun with
  | .session => "SET_SESSION"
  | .part => "SET_PART_OWNERSHIP"
  | .device => if p.has "SECPIN" then "SET_DEVICE_SECPIN" else if p.has "PINLOCK" then "SET_DEVICE_PINLOCK"
    else if p.has "OWNLOCK" then "SET_DEVICE_OWNLOCK" else "SET_ATTRIBUTES"
  | .key => "SET_KEY"
  | .impl => if r.sub = "POS" then "SET_IMPL_POS" else if r.sub = "MOT" then "SET_IMPL_MOT" else "SET_ATTRIBUTES"
  | .sec => if p.has "MANUAL" then "SET_SEC_MANUAL" else if p.has "ONPCT" || p.has "OFFPCT" then "SET_SEC_OVERLAP" else "SET_ATTRIBUTES"
  | .cellar => "SET_CELLAR"
  | .map => if p.has "STAGE" then "SET_MAP_STAGE" else "SET_ATTRIBUTES"
  | .profile => "SET_PROFILE_BOOT"
  | .prod => if p.has "TARGET" then "SET_PROD_TARGET" else "SET_ATTRIBUTES"
  | .odo => if (p.value "MPC").map upper = some "PROPOSED" then "SET_ODO_MPC_PROPOSED" else "SET_ATTRIBUTES"
  | .gnss => if r.idx = .none then "SET_ATTRIBUTES" else "SET_GNSS_SUBSCRIPTION"
  | .aid => if r.sub = "" then "SET_ATTRIBUTES" else "SET_AID_" ++ r.sub
  | .chan | .gdr => if p.has "STATE" then "SET_CHAN_STATE" else if p.has "DUTY" then "SET_CHAN_DUTY"
    else if p.has "TARGET" then "SET_CHAN_TARGET" else "SET_ATTRIBUTES"
  | .pair => "SET_PAIR_LINK"
  | .grant => "SET_GRANT"
  | .uart | .spi => if p.has "ENABLE" then "SET_UART_ENABLE" else "SET_ATTRIBUTES"
  | .i2c => if r.sub = "XFER" then "I2C_XFER_WRITE" else if p.has "ENABLE" then "SET_UART_ENABLE" else "SET_ATTRIBUTES"
  | .pin => if p.has "FUNC" then "SET_PIN_FUNC" else "SET_ATTRIBUTES"
  | .time => if p.has "ALARMIN" then "SET_TIME_ALARMIN" else "SET_TIME"
  | .reg => regRow (p.ix.getD 0)
  | _ => "SET_ATTRIBUTES"

/-- The row of a GET. -/
def getRow (p : Phrase) (r : NounRef) : String :=
  match r.noun with
  | .session => "GET_SESSION"
  | .key => "GET_KEY"
  | .impl => if r.sub = "" then "GET_ATTRIBUTES" else "GET_IMPL_SAMPLE"
  | .map => if p.has "TE" || p.has "TN" || p.has "OFF" || p.has "LEN" then "GET_MAP_TILE"
    else if p.has "E" || p.has "N" then "GET_MAP_CELL" else "GET_ATTRIBUTES"
  | .log => if p.has "FIRST" || p.has "COUNT" then "GET_LOG" else "GET_ATTRIBUTES"
  | .odo => if r.sub = "IDX" then "GET_ODO_IDX" else if p.adv .new then "GET_LATCHED_NEW"
    else if readsLatch p r then "GET_LATCHED_RESULT" else "GET_ATTRIBUTES"
  | .ssp => if p.adv .new then "GET_LATCHED_NEW" else if readsLatch p r then "GET_LATCHED_RESULT" else "GET_ATTRIBUTES"
  | .cmp => if p.has "LIST" then "GET_CMP_LIST" else "GET_CMP"
  | .gnss => if r.sub = "" then "GET_ATTRIBUTES" else if p.adv .new then "GET_LATCHED_NEW" else "GET_GNSS_" ++ r.sub
  | .aid => "GET_AID"
  | .can => if r.sub = "RX" then "GET_CAN_RX" else "GET_ATTRIBUTES"
  | .uart => if r.sub = "RX" then "GET_UART2_RX" else "GET_ATTRIBUTES"
  | .i2c => if r.sub = "XFER" then "I2C_XFER_READ" else "GET_ATTRIBUTES"
  | .attic => if r.idx ≠ .none && (p.attrs.isEmpty || p.has "FIRST" || p.has "COUNT" || p.has "FORM") then "GET_ATTIC" else "GET_ATTRIBUTES"
  | .trace => if p.attrs.isEmpty || p.has "COUNT" then "GET_TRACE" else "GET_ATTRIBUTES"
  | .reg => "GET_REG"
  | _ => "GET_ATTRIBUTES"

/-- The row of START, STOP, ARM, DISARM, RESET, LOAD, SAVE or TEST; a noun that does not accept the verb is SET_ATTRIBUTES, the row that makes
the order of checks (95, PHRASE_CHECK_ORDER). -/
def actRow (p : Phrase) (r : NounRef) : String :=
  let w := verbWord p.verb ++ "_"
  if r.sub ≠ "" && !actsSub p.verb r.noun r.sub then "SET_ATTRIBUTES"
  else match p.verb, r.noun with
  | .start, .impl | .start, .prod | .start, .odo | .start, .ssp | .start, .can | .start, .peer | .start, .trace
  | .stop, .part | .stop, .impl | .stop, .prod | .stop, .odo | .stop, .ssp | .stop, .can | .stop, .peer | .stop, .trace => w ++ nounWord r.noun
  | .start, .gnss | .stop, .gnss => if r.idx = .none then w ++ "GNSS" else "SET_ATTRIBUTES"
  | .start, .chan | .start, .gdr | .stop, .chan | .stop, .gdr => w ++ "CHAN"
  | .arm, .odo | .disarm, .odo => if r.sub = "IDX" then w ++ "ODO_IDX" else "SET_ATTRIBUTES"
  | .arm, .cmp | .disarm, .cmp => w ++ "CMP"
  | .arm, .can | .disarm, .can => if r.sub = "TX" then w ++ "CAN_TX" else "SET_ATTRIBUTES"
  | .arm, .uart => if r.sub = "TX" then "ARM_UART2_TX" else "SET_ATTRIBUTES"
  | .reset, .session | .reset, .part | .reset, .device | .reset, .log | .reset, .profile | .reset, .aid | .reset, .diag | .reset, .pin
  | .reset, .attic | .reset, .trace | .reset, .fault | .reset, .cellar => w ++ nounWord r.noun
  | .reset, .map => if r.idx = .none then "RESET_MAP_ALL" else "RESET_MAP_LAYER"
  | .reset, .can => if r.sub = "RX" then "RESET_CAN_RX" else "SET_ATTRIBUTES"
  | .reset, .uart => if r.sub = "RX" then "RESET_UART2_RX" else "SET_ATTRIBUTES"
  | .load, .map => if r.idx = .none then "LOAD_MAP_NOR" else "LOAD_MAP_TILE"
  | .load, .profile | .load, .aid | .save, .map | .save, .profile | .save, .aid | .save, .attic | .test, .can | .test, .diag | .test, .fault =>
    w ++ nounWord r.noun
  | _, _ => "SET_ATTRIBUTES"

/-- The row of spec/opcode_table.json that a phrase is. -/
def rowOf (p : Phrase) : String :=
  match p.verb with
  | .help => "HELP"
  | .watch => "WATCH"
  | .login => if p.has "RESP" then "LOGIN_SUPER_RESP" else "LOGIN_SUPER"
  | .logout => "LOGOUT"
  | .showV => if p.nn = some .reg then "SHOW_REG" else "SHOW"
  | .set => match p.noun with
    | some r => setRow p r
    | none => "SET_ATTRIBUTES"
  | .get => match p.noun with
    | some r => getRow p r
    | none => "GET_ATTRIBUTES"
  | _ => match p.noun with
    | some r => actRow p r
    | none => "SET_ATTRIBUTES"

/-- Run a phrase as the command of one row: where it is that row's phrase and the session may run it now, it is answered; a phrase whose decoding
the lanes dispute is answered E-BUSY (R92). Otherwise nothing happens. -/
def runRow (row : String) (i : Nat) (p : Phrase) (f : State → Ans) (s : State) : State :=
  if rowOf p ≠ row then s
  else match s.takePhrase i p with
    | none => s
    | some s0 =>
      let s1 := if (s0.sessAt i).reqcheck && !p.checked then s0 else s0.counted i
      if s1.faults.disputed.contains i then
        ((({ s1 with faults := { s1.faults with disputed := s1.faults.disputed.filter (· ≠ i) } }).sendErr i ⟨.busy, none⟩ p.tag p.checked)).settle i
      else s1.answer i p (f s1)

/-- A phrase would run now, without an error: for the rows whose phrase waits for a HEAVY grant. -/
def State.wouldRun (row : String) (i : Nat) (p : Phrase) (f : State → Ans) (s : State) : Bool :=
  rowOf p = row && match s.takePhrase i p with
    | none => false
    | some s0 => !s0.faults.disputed.contains i &&
      (pickErr (errIf ((s0.sessAt i).reqcheck && !p.checked) .check ++ s0.deviceErr p ++ (f s0).errs)).isNone

/-! ### Checks that many phrases share (R43, R59, R106) -/

/-- The islands a noun's instance depends on (Table MAC-3, R43). -/
def nounIslands (n : Noun) (i : Nat) : List Nat :=
  match n with
  | .chan => [unitIsland i]
  | .gdr => [unitIsland (48 + i)]
  | .pair => [unitIsland i, unitIsland (i + 1)]
  | .diag => [unitIsland i]
  | .odo | .cmp => [14 + i]
  | .ssp => [22 + i]
  | .prod => [44 + i / 2]
  | .can | .filter => [32 + i]
  | .peer => [36]
  | .uart => [4 + i]
  | .spi => [7]
  | .i2c => [41]
  | .attic => [39]
  | _ => []

/-- A noun's unit is out of service (R43, Table MAC-6). -/
def State.nounRetired (s : State) (n : Noun) (i : Nat) : Bool :=
  (nounIslands n i).any s.retired ||
  match n with
  | .gnss | .sat | .aid => [24, 25, 30, 31].any s.retired
  | .impl => s.retired 10 && s.retired 11
  | .map | .cellar | .log => s.retired 12 || s.retired 13
  | .chan => (s.unitAt i).retired
  | .gdr => (s.unitAt (48 + i)).retired
  | .pair => (s.unitAt i).retired || (s.unitAt (i + 1)).retired
  | _ => false

/-- A noun's unit is absent on the variant (R4). -/
def State.nounAbsent (s : State) (n : Noun) (i : Nat) : Bool :=
  match n with
  | .chan | .pair => !s.unitPresent i
  | .gdr => !s.unitPresent (48 + i)
  | .diag => !s.unitPresent i
  | .grant => if 100 ≤ i then !s.unitPresent (i - 100) else i = 1 && !s.hasDieB
  | .gnss | .sat | .aid => !s.hasGps
  | _ => false

/-- The noun is a unit that a partition owns, in the sense of Table PRT-2. -/
def ownable (n : Noun) (ix : Option Nat) : Bool :=
  match n with
  | .impl | .sec | .prod | .chan | .pair | .prof | .gdr | .diag | .odo | .cmp | .ssp | .can | .filter | .pin | .part => true
  | .grant => 100 ≤ ix.getD 0
  | .gnss | .fault => ix.isSome
  | .map => ix.isSome
  | _ => false

/-- The partition a map layer belongs to: that of its implement, or of its product's owner (R205). -/
def State.layerOwner (s : State) (i : Nat) : Nat := if i < 10 then i else s.owner .prod (i - 10)

/-- The controller is a device unit while it carries the peer link (Table PRT-1). -/
def State.canPeer (s : State) (n : Noun) (i : Nat) : Bool := (n = .can || n = .filter) && (Tab.get {} s.cans i).peer

/-- E-AUTH and E-OWNER of a phrase on a noun's instance by the session's role (R106, Table PRT-2). `own` are the verbs that the noun's chapter grants
to the partition role on a device unit. -/
def State.accessErr (s : State) (i : Nat) (v : Verb) (n : Noun) (ix : Option Nat) (own : Bool := false) : List Err :=
  let x := s.sessAt i
  let k := ix.getD 0
  let o := if n = .map then s.layerOwner k else s.owner n k
  if x.super then []
  else if !ownable n ix || s.canPeer n k then errIf (!readVerb v && !own) .auth
  else if n = .pin && o = secureOwner then errIf (!readVerb v) .auth
  else errIf (o ≠ x.part) .owner

/-- The checks 9 to 12 of R70 on one instance: absent, retired, role and owner. -/
def State.unitErrs (s : State) (i : Nat) (p : Phrase) (n : Noun) (ix : Option Nat) (own : Bool := false) : List Err :=
  let k := ix.getD 0
  errIf (s.nounAbsent n k) .absent (some p.nounTok)
    ++ errIf (s.nounRetired n k && p.verb ≠ .get && p.verb ≠ .showV) .retired
    ++ s.accessErr i p.verb n ix own

/-- Attributes that the phrase may not name here: unknown, or without the value it needs (E-ATTR). -/
def extraAttrs (p : Phrase) (ok : List String) : List Err :=
  p.attrs.filterMap fun a => if ok.contains a.name then none else some ⟨.attr, some a.tok⟩

/-- Keys that GET may not name here, or names with a value (E-ATTR). -/
def keyErrs (p : Phrase) (ok : List String) : List Err :=
  p.attrs.filterMap fun a => if ok.contains a.name && a.value.isNone then none else some ⟨.attr, some a.tok⟩

/-- Keep the epoch and the named attributes of a line. -/
def pickKeys (p : Phrase) (l : KVs) : KVs := if p.attrs.isEmpty then l else l.filter fun x => x.1 = "epoch" || p.has (upper x.1)

/-- A required attribute (E-ATTR when missing), with a form for its value (E-RANGE). -/
def needAttr (p : Phrase) (name : String) (f : AForm) : List Err :=
  match p.attr name with
  | none => [⟨.attr, some name⟩]
  | some a => match a.value.bind (parseVal f) with
    | none => [⟨.range, some a.tok⟩]
    | some _ => []

/-- An optional attribute with a form for its value. -/
def optAttr (p : Phrase) (name : String) (f : AForm) : List Err := if p.has name then needAttr p name f else []

/-- The value of an attribute of a phrase. -/
def attrVal (p : Phrase) (name : String) (f : AForm) : Option Val := (p.value name).bind (parseVal f)
def attrInt (p : Phrase) (name : String) (lo hi : Int) : Option Int := (attrVal p name (.int lo hi)).map Val.int

/-- The errors of a SET's attributes against a table: unknown or read-only (E-ATTR), a value out of form or range (E-RANGE), none named (E-ATTR),
a supervisor attribute without the role (E-AUTH). -/
def setAttrErrs (sp : List AttrSpec) (super : Bool) (p : Phrase) : List Err :=
  errIf p.attrs.isEmpty .attr (some p.nounTok) ++
  (p.attrs.map fun a =>
    match specFind a.name sp with
    | none => [⟨.attr, some a.tok⟩]
    | some x =>
      if x.role = .ro then [⟨.attr, some a.tok⟩]
      else errIf (x.role = .super && !super) .auth ++
        (match a.value.bind (parseVal x.form) with
          | none => [⟨.range, some a.tok⟩]
          | some _ => [])).flatten

/-- Store the attributes of a SET. -/
def storeAttrs (sp : List AttrSpec) (n : Noun) (ix : Nat) (sub : String) (p : Phrase) (s : State) : State :=
  overList p.attrs (fun a s0 =>
    match (specFind a.name sp).bind (fun x => a.value.bind (parseVal x.form)) with
    | some v => s0.store n ix sub a.name v
    | none => s0) s

/-- The value a SET gives an attribute, or the stored one (for checks across attributes). -/
def State.newVal (s : State) (p : Phrase) (sp : List AttrSpec) (n : Noun) (ix : Nat) (name : String) (sub : String := "") : Val :=
  match (specFind name sp).bind (fun x => (p.value name).bind (parseVal x.form)) with
  | some v => v
  | none => s.val n ix name sub

/-! ### Latched results (R79 to R81) -/

/-- A latched result that was never latched, or with NEW has nothing new for the session (E-NOTREADY). -/
def State.latchErrs (s : State) (i : Nat) (p : Phrase) (n : Noun) (ix : Nat) (sub : String) (has : Bool) (epoch : Nat) : List Err :=
  errIf (!has || (p.adv .new && (s.sessAt i).epochs.find (n, ix, sub) = some epoch)) .notready

/-- The session has read this epoch. -/
def State.noteEpoch (i : Nat) (n : Noun) (ix : Nat) (sub : String) (epoch : Nat) (s : State) : State :=
  s.setSess i { s.sessAt i with epochs := AMap.put (n, ix, sub) epoch (s.sessAt i).epochs }

/-- A unit STARTs: the numbers that the sessions keep of it are cleared (R81). -/
def State.clearEpochs (n : Noun) (ix : Nat) (s : State) : State :=
  overList allSessions (fun i a =>
    let x := a.sessAt i
    if x.epochs.any fun e => e.1.1 = n && e.1.2.1 = ix then a.setSess i { x with epochs := x.epochs.filter fun e => !(e.1.1 = n && e.1.2.1 = ix) } else a) s

/-- The next epoch number (R79). -/
def nextEpoch (e : Nat) : Nat := if 4294967295 ≤ e then 1 else e + 1

/-- The text of a noun with its index and sub, as EV lines give it (R68). -/
def nounText (r : NounRef) : String :=
  nounWord r.noun ++ (match r.idx with
    | .none => ""
    | .one n => "." ++ toString n
    | .range a b => "." ++ toString a ++ "-" ++ toString b) ++ (if r.sub = "" then "" else "." ++ r.sub)

end Sys2Proof.Machine
end

