-- ==== Sys2Proof/Machine/Grants.lean ====
section
/-!
DEFINITION. Sys2Proof/Machine/Grants.lean: drive units as their configuration names them, profiles (R362 to R365), and the grant decision
(12_grants.md).
-/
namespace Sys2Proof.Machine

/-! ### A drive unit and its profile -/

/-- The noun of unit u: CHAN u for 0 to 47, GDR u - 48 above. -/
def unitNoun (u : Nat) : Noun := if u < 48 then .chan else .gdr
/-- Its index in that noun. -/
def unitIx (u : Nat) : Nat := if u < 48 then u else u - 48
/-- The unit as `CHAN.25` or `GDR.3`. -/
def unitText (u : Nat) : String := nounWord (unitNoun u) ++ "." ++ toString (unitIx u)

def State.uWord (s : State) (u : Nat) (name : String) : String := s.word (unitNoun u) (unitIx u) name
def State.uNat (s : State) (u : Nat) (name : String) : Nat := s.nat (unitNoun u) (unitIx u) name
def State.uNs (s : State) (u : Nat) (name : String) : Nat := s.ns (unitNoun u) (unitIx u) name

/-- Unit u is the even member of a linked pair (R374). -/
def State.pairEven (s : State) (u : Nat) : Bool := u < 48 && u % 2 == 0 && s.isOn .pair u "LINK"
/-- Unit u is the odd member of a linked pair. -/
def State.pairOdd (s : State) (u : Nat) : Bool := u < 48 && u % 2 == 1 && s.isOn .pair (u - 1) "LINK"

/-- One phase of a profile (R363, R366); times in ns, `fin` 0 TIME, 1 REACHED, 2 HOLD; `off` 0 SLOW, 1 FAST, 2 FASTSLOW. -/
structure Phase where
  target : Nat
  fin    : Nat
  t      : Nat
  tlim   : Nat
  fast   : Bool
  off    : Nat
  tfast  : Nat
  deriving DecidableEq, Repr

/-- The place of a word in a list. -/
def wordIx (w : String) : List String → Nat
  | [] => 0
  | x :: xs => if x = w then 0 else 1 + wordIx w xs

/-- Phase k of profile p. -/
def State.phaseOf (s : State) (p k : Nat) : Phase :=
  let sub := "PH" ++ toString k
  { target := s.nat .prof p "TARGET" sub
    fin := wordIx (s.word .prof p "END" sub) ["TIME", "REACHED", "HOLD"]
    t := s.ns .prof p "T" sub
    tlim := s.ns .prof p "TLIM" sub
    fast := s.word .prof p "DECAY" sub = "FAST"
    off := wordIx (s.word .prof p "OFF" sub) ["SLOW", "FAST", "FASTSLOW"]
    tfast := s.ns .prof p "TFAST" sub }

/-- The phases of profile p (R362). -/
def State.profPhases (s : State) (p : Nat) : List Phase := (List.range (s.nat .prof p "NPH")).map (s.phaseOf p)

/-- The phases of unit u. -/
def State.phases (s : State) (u : Nat) : List Phase := s.profPhases (s.uNat u "PROF")

def peakOf (ps : List Phase) : Nat := (ps.head?.map Phase.target).getD 0
def holdOf (ps : List Phase) : Nat := (ps.getLast?.map Phase.target).getD 0

/-- The time a phase is booked for: T, or TLIM for REACHED (Table GRT-2). -/
def Phase.booked (p : Phase) : Nat := if p.fin = 1 then p.tlim else p.t

/-- The non-hold phases. -/
def nonHold (ps : List Phase) : List Phase := ps.dropLast

/-- A gate driver in PWM above 100 Hz (R381). -/
def State.hfPwm (s : State) (u : Nat) : Bool := 48 ≤ u && s.uWord u "MODE" = "PWM" && 100 < s.uNat u "FREQ"

/-- The drive budget of unit u (Table GRT-1). -/
def budgetOf (u : Nat) : Nat := if unitDieB u then 1 else 0

/-- A switch-on of unit u makes a request (R365, R431). -/
def State.needsGrant (s : State) (u : Nat) : Bool :=
  let ps := s.phases u
  holdOf ps < peakOf ps && !s.hfPwm u && (u < 48 || s.isOn .grant (budgetOf u) "GDRCHARGE")

/-- A time stretched by peak / ir, rounded up to 10 µs (R365). -/
def stretch (t peak ir : Nat) : Nat := if ir = 0 then t else ceilDiv (t * peak) (ir * 10000) * 10000

/-- The booked duration of a switch-on, with PH0 stretched where it runs at `ir` (Table GRT-2). -/
def bookedDur (ps : List Phase) (ir : Option Nat) : Nat :=
  match nonHold ps with
  | [] => 0
  | p :: rest =>
    (match ir with
      | some i => stretch p.booked p.target i
      | none => p.booked) + (rest.map Phase.booked).sum

/-- The current above which a phase is limited to 50 ms, and the largest hold current (R364). -/
def State.holdLimit (s : State) (u : Nat) : Nat := if s.pairEven u then 3000 else 1500

/-- The 50 ms limit of R364 holds with PH0 stretched for `ir` (R445). -/
def State.stretchOk (s : State) (u ir : Nat) : Bool :=
  48 ≤ u || match nonHold (s.phases u) with
  | [] => true
  | p :: rest =>
    let lim := s.holdLimit u
    (if lim < ir then stretch p.booked p.target ir else 0) + ((rest.filter fun q => lim < q.target).map Phase.booked).sum ≤ 50 * nsMs

/-! ### The decision (R429 to R434) -/

/-- The charge on a budget at an instant. -/
def chargeAt (l : List Grant) (r t : Nat) : Nat :=
  ((l.filter fun g => g.budget = r && g.start ≤ t && t < g.start + g.dur).map Grant.charge).sum

/-- A charge fits on budget r over [t, t + d) within a share (R431): at its start and at every start within it. -/
def fits (l : List Grant) (r share c t d : Nat) : Bool :=
  (t :: ((l.filter fun g => g.budget = r && t < g.start && g.start < t + d).map Grant.start)).all fun x => chargeAt l r x + c ≤ share

/-- The instants, in steps of 1 µs from the requested one, at which a charge can first come to fit: the requested instant and the end of each grant. -/
def startSteps (l : List Grant) (r tq w : Nat) : List Nat :=
  (0 :: ((l.filter fun g => g.budget = r && tq < g.start + g.dur).map fun g => ceilDiv (g.start + g.dur - tq) 1000)).filter (· ≤ w)

/-- The smallest of a list. -/
def minNat : List Nat → Option Nat
  | [] => none
  | x :: xs => match minNat xs with
    | none => some x
    | some y => some (min x y)

/-- The first step at which a charge fits, within a wait of `w` µs (R432). -/
def firstFit (l : List Grant) (r share c tq w d : Nat) : Option Nat :=
  minNat ((startSteps l r tq w).filter fun k => fits l r share c (tq + 1000 * k) d)

/-- The reduced values from `hi` down to `lo` in steps of 10 mA. -/
def reducedVals (lo hi : Nat) : List Nat := ((List.range (hi / 10 + 1)).map (10 * ·)).reverse.filter fun v => lo ≤ v && 0 < v

/-- The earliest step at which some reduced value fits, with the largest value there (R432). -/
def firstReduced (l : List Grant) (r share tq w : Nat) (vals : List Nat) (charge dur : Nat → Nat) : Option (Nat × Nat) :=
  vals.foldl (fun best v =>
    match firstFit l r share (charge v) tq w (dur v) with
    | none => best
    | some k => match best with
      | none => some (k, v)
      | some b => if k < b.1 then some (k, v) else best) none

/-- What a request comes to (R432): its start and duration, its charge and its reduced value; none when REFUSED. -/
structure Decision where
  start  : Nat
  dur    : Nat
  charge : Nat
  ir     : Option Nat := none
  deriving DecidableEq, Repr

/-- Largest waits of the classes in µs (Table GRT-4): SECTION, PULSE, METER, HEAVY. -/
def maxWait (cls : Nat) : Nat := match cls with
  | 0 => 2000
  | 1 => 1000
  | 2 => 20000
  | _ => 500000

/-- The share of a class of a budget (Table GRT-4). -/
def State.share (s : State) (r cls : Nat) : Nat :=
  let b := s.nat .grant r "BUDGET"
  if cls = 1 || cls = 2 then b * (1000 - s.nat .grant r "SECRES") / 1000 else b

/-- Every request is REFUSED while the lanes are checked or with both retired (R438). -/
def State.grantsClosed (s : State) : Bool := s.grants.chkEnd.isSome || (s.retired 37 && s.retired 38)

/-- Decide a request: full charge first, then reduced where allowed (R432). -/
def State.grantDecide (s : State) (r cls tq c d : Nat) (vals : List Nat) (charge dur : Nat → Nat) (ok : Nat → Bool) : Option Decision :=
  if s.grantsClosed then none
  else
    let l := s.grants.list
    let sh := s.share r cls
    let w := maxWait cls
    match firstFit l r sh c tq w d with
    | some k => some { start := tq + 1000 * k, dur := d, charge := c }
    | none => match firstReduced l r sh tq w vals charge dur with
      | some (k, v) => if ok v then some { start := tq + 1000 * k, dur := dur v, charge := charge v, ir := some v } else none
      | none => none

/-- The outcome word. -/
def outcomeWord (o : Nat) : String := ["NONE", "GRANTED", "DELAYED", "REDUCED", "REFUSED"].getD o "NONE"
def classWord (c : Nat) : String := ["SECTION", "PULSE", "METER", "NONE"].getD c "NONE"
/-- The counter of an outcome, for a unit or a budget. -/
def outcomeCnt (pre : String) (o : Nat) : String := pre ++ outcomeWord o ++ "_CNT"

/-- The EV GRANT line of a unit (R437). -/
def State.grantLine (u : Nat) (g : GrantEv) (s : State) : State :=
  s.ev "GRT" (toPart (s.unitOwner u)) ("GRANT." ++ toString (100 + u) ++ " " ++ outcomeWord g.outcome ++ " class=" ++ classWord g.cls ++ " cnt=" ++
    toString g.cnt ++ " wait=" ++ toString g.wait ++ " ir=" ++ toString g.ir)

/-- An outcome other than GRANTED is reported: at once after a quiet second, else at the end of the second (R437). -/
def State.grantNote (u o cls wait ir : Nat) (s : State) : State :=
  let x := s.unitAt u
  match x.gev.find? fun g => g.outcome = o with
  | none =>
    let g : GrantEv := { outcome := o, at_ := s.now, cls := cls, wait := wait, ir := ir }
    (s.setUnit u { x with gev := x.gev ++ [g] }).grantLine u { g with cnt := 1 }
  | some _ => s.setUnit u { x with gev := x.gev.map fun g =>
      if g.outcome = o then { g with cnt := g.cnt + 1, cls := cls, wait := wait, ir := ir } else g }

/-- The outcome of a unit's request is kept and counted (R437, R441). -/
def State.grantAccount (u cls tq : Nat) (d : Option Decision) (s : State) : State :=
  let o := match d with
    | none => 4
    | some x => if x.ir.isSome then 3 else if tq < x.start then 2 else 1
  let wait := match d with
    | none => 0
    | some x => (x.start - tq) / 1000
  let ir := ((d.bind Decision.ir).getD 0)
  let x := s.unitAt u
  let s1 := s.setUnit u { x with gclass := cls, gout := o, gwait := wait, gir := ir, gmax := max x.gmax wait }
  let s2 := (s1.bump (outcomeCnt "GU_" o) u).bump (outcomeCnt "GR_" o) (budgetOf u)
  if o = 1 then s2
  else (s2.traceLine 2 "GRT" ("GRANT." ++ toString (100 + u) ++ " " ++ outcomeWord o)).grantNote u o cls wait ir

/-- A grant is issued or booked; a unit holds at most one drive grant, and grants whose time is over hold no charge (R429). -/
def State.addGrant (g : Grant) (s : State) : State :=
  { s with grants := { s.grants with list := (s.grants.list.filter fun x => x.who ≠ g.who && s.now < x.start + x.dur) ++ [g] } }

/-- A unit's grants are released (R429, R434). -/
def State.dropGrants (who : Nat) (s : State) : State :=
  { s with grants := { s.grants with list := s.grants.list.filter fun x => x.who ≠ who } }

/-- A unit's issued grant is released; one booked for a later switch-on stays. -/
def State.releaseGrant (who : Nat) (s : State) : State :=
  { s with grants := { s.grants with list := s.grants.list.filter fun x => x.who ≠ who || x.booked } }

/-- A unit's grant, if it has one. -/
def State.grantOf (s : State) (who : Nat) : Option Grant := s.grants.list.find? fun g => g.who = who

/-- A switch-on of unit u asks for its grant (Table GRT-2, R365, R432, R445). -/
def State.askSwitchOn (u cls tq : Nat) (booked : Bool) (s : State) : State × Option Decision :=
  let ps := s.phases u
  let p := s.uNat u "PROF"
  let peak := peakOf ps
  let hold := holdOf ps
  let vals := if s.isOn .prof p "REDUCE" then reducedVals (s.nat .prof p "REDMIN") peak else []
  let d := s.grantDecide (budgetOf u) cls tq (peak - hold) (bookedDur ps none) vals (fun v => v - hold) (fun v => bookedDur ps (some v)) (s.stretchOk u)
  let s1 := s.grantAccount u cls tq d
  match d with
  | none => (s1, none)
  | some x =>
    (s1.addGrant { budget := budgetOf u, who := u, cls := cls, start := x.start, dur := x.dur, charge := x.charge, booked := booked, ir := x.ir }, d)

/-- An increase of a target asks for a METER grant (R260, Table GRT-2). -/
def State.askMeter (u inc : Nat) (s : State) : State × Option Decision :=
  let p := s.uNat u "PROF"
  let vals := if s.isOn .prof p "REDUCE" then reducedVals (s.nat .prof p "REDMIN") inc else []
  let d := s.grantDecide (budgetOf u) 2 s.now inc (20 * nsMs) vals id (fun v => stretch (20 * nsMs) inc v) (fun _ => true)
  let s1 := s.grantAccount u 2 s.now d
  match d with
  | none => (s1, none)
  | some x =>
    (s1.addGrant { budget := budgetOf u, who := u, cls := 2, start := x.start, dur := x.dur, charge := x.charge, ir := x.ir }, d)

/-! ### HEAVY work (R430) -/

/-- The users of HEAVY work: 0 GNSS, 1 SCRUB, 2 MAP, 3 SWEEP, with their charges (Table GRT-3). -/
def heavyWord (k : Nat) : String := ["GNSS", "SCRUB", "MAP", "SWEEP"].getD k ""
def heavyCharge (k : Nat) : Nat := [45, 25, 30, 20].getD k 0
def heavyDur (k : Nat) : Nat := [50, 1, 100, 100].getD k 0 * nsMs
/-- Its holder in the list of grants: 100 and the island (DESIGN CHOICE for the islands of scrub, copy and sweep). -/
def heavyWho (k : Nat) : Nat := 100 + [25, 12, 13, 43].getD k 0

/-- EV GRANT.2 REFUSED (R437). -/
def State.heavyLine (k n : Nat) (s : State) : State :=
  s.ev "GRT" toSuper ("GRANT.2 REFUSED user=" ++ heavyWord k ++ " cnt=" ++ toString n)

/-- HEAVY work asks for its grant (R430, R432): its start, or none. -/
def State.askHeavy (k : Nat) (s : State) : State × Option Nat :=
  let d := s.grantDecide 2 3 s.now (heavyCharge k) (heavyDur k) [] id id (fun _ => false)
  match d with
  | some x =>
    let s1 := s.bump (outcomeCnt "GR_" (if s.now < x.start then 2 else 1)) 2
    (s1.addGrant { budget := 2, who := heavyWho k, cls := 3, start := x.start, dur := x.dur, charge := x.charge }, some x.start)
  | none =>
    let s1 := s.bump (outcomeCnt "GR_" 4) 2
    match (s1.grants.heavyEv.find? fun e => e.1 = k) with
    | some e => ({ s1 with grants := { s1.grants with heavyEv := Tab.ins k (e.2.1, e.2.2 + 1) s1.grants.heavyEv } }, none)
    | none => (({ s1 with grants := { s1.grants with heavyEv := Tab.ins k (s1.now, 0) s1.grants.heavyEv } }).heavyLine k 1, none)

/-! ### What the GRANT noun and its registers show (R439 to R441) -/

/-- USED: the charge now. -/
def State.grantUsed (s : State) (r : Nat) : Nat := chargeAt s.grants.list r s.now

/-- BOOKED: the largest charge over the next 10 ms. -/
def State.grantBooked (s : State) (r : Nat) : Nat :=
  let starts := (s.grants.list.filter fun g => g.budget = r && s.now ≤ g.start && g.start ≤ s.now + 10 * nsMs).map Grant.start
  ((s.now :: starts).map (chargeAt s.grants.list r)).foldl max 0

/-- HELD: a grant is held or booked. -/
def State.grantHeld (s : State) (u : Nat) : Bool := s.grants.list.any fun g => g.who = u && s.now < g.start + g.dur

/-- A read-only attribute of GRANT.i. -/
def State.grantRead (s : State) (i : Nat) (name : String) : String :=
  if i < 3 then
    if name = "USED" then toString (s.grantUsed i)
    else if name = "BOOKED" then toString (s.grantBooked i)
    else if name = "LANES" then s.lanes 37 38
    else toString (s.cnt ("GR_" ++ name ++ "_CNT") i)
  else
    let u := i - 100
    let x := s.unitAt u
    if name = "CLASS" then classWord x.gclass
    else if name = "OUTCOME" then outcomeWord x.gout
    else if name = "WAIT" then toString x.gwait
    else if name = "IR" then toString x.gir
    else if name = "HELD" then yesNo (s.grantHeld u)
    else if name = "MAXWAIT" then toString x.gmax
    else toString (s.cnt ("GU_" ++ name ++ "_CNT") u)

/-! ### Rows -/

/-- The end of the second of a unit's outcome, or of a HEAVY user's refusals (`u` = 100 + user): one line where more occurred, else a quiet second (R437). -/
def execGrantEventSecond (u : Nat) (s : State) : Host.Outcome State Fault Refusal :=
  if u < 100 then
    match (s.unitAt u).gev with
    | [] => .next s
    | g :: rest =>
      let s1 := s.advanceTo (g.at_ + nsS)
      let x := s1.unitAt u
      if g.cnt = 0 then .next (s1.setUnit u { x with gev := rest })
      else .next ((s1.setUnit u { x with gev := rest ++ [{ g with at_ := g.at_ + nsS, cnt := 0 }] }).grantLine u g)
  else
    match s.grants.heavyEv.find? fun e => e.1 = u - 100 with
    | none => .next s
    | some e =>
      let s1 := s.advanceTo (e.2.1 + nsS)
      if e.2.2 = 0 then .next { s1 with grants := { s1.grants with heavyEv := Tab.del e.1 s1.grants.heavyEv } }
      else .next (({ s1 with grants := { s1.grants with heavyEv := Tab.ins e.1 (e.2.1 + nsS, 0) s1.grants.heavyEv } }).heavyLine e.1 e.2.2)

/-- The lanes disagree: counted; two within 5 ms start the 1 ms check of both lanes (R438, R653). -/
def State.grantDisagree (s : State) : State :=
  let again := match s.grants.disagree with
    | some t => decide (s.now ≤ t + 5 * nsMs)
    | none => false
  let s1 := (List.range 3).foldl (fun a r => a.bump "GR_LANE_CNT" r) s
  { s1 with grants := { s1.grants with
      disagree := some s.now
      chkEnd := if again then some (s.now + nsMs) else s1.grants.chkEnd } }

/-- GRANT_LEDGER_COMPARE (R653), every 1 ms; `differ` when the ledgers differ. One lane alone compares nothing (R42). -/
def execGrantLedgerCompare (differ : Bool) (s : State) : Host.Outcome State Fault Refusal :=
  let s1 := s.tick "LEDGER" 0 nsMs
  if differ && !s1.retired 37 && !s1.retired 38 && s1.grants.chkEnd.isNone then .next s1.grantDisagree else .next s1

/-- SET_GRANT (R439): of GRANT.0 to GRANT.2, while every partition is STOPPED or FAULTED. -/
def execSetGrant (sess : Nat) (ph : Phrase) (s : State) : Host.Outcome State Fault Refusal :=
  .next (runRow "SET_GRANT" sess ph (fun s => perInst sess ph (fun i s =>
    let sp := grantAttrs i
    let free := (List.range 4).all fun n => (s.partAt n).state = .stopped || (s.partAt n).state = .faulted
    Ans.eff (s.unitErrs sess ph .grant (some i) ++ setAttrErrs sp (s.sessAt sess).super ph ++ errIf (!free) .state)
      (storeAttrs sp .grant i "" ph)) s) s)

end Sys2Proof.Machine
end

