-- ==== Sys2Proof/Machine/Drive.lean ====
section
/-!
DEFINITION. Sys2Proof/Machine/Drive.lean: what a drive unit does at a command and at each step of its sequencer (10_drive_stage.md; R429, R434, R436).
-/
namespace Sys2Proof.Machine

/-! ### Use of a unit (R372) -/

/-- The local unit that a BIND, SPARE or OUTUNIT value names; a pair by its even member. -/
def unitOfBind (b : List Nat) : Option Nat :=
  match b with
  | [2, n] | [3, n] => some n
  | [4, n] => some (48 + n)
  | _ => none

/-- The local unit of a node binding: UTYPE 0 CHAN, 1 PAIR, 2 GDR (Table PEER-3). -/
def unitOfType (ty n : Nat) : Nat := if ty = 2 then 48 + n else n

/-- A section names a unit, as its binding or as its spare. -/
def State.secNames (s : State) (k u : Nat) (spare : Bool) : Bool := unitOfBind (s.list .sec k (if spare then "SPARE" else "BIND")) = some u

/-- The use of unit u: 0 NONE, 1 SECTION, 2 SPARE, 3 PRODUCT, 4 DIRECT, 5 PAIRED (Table DRV-9, R372); a spare in service is SECTION. -/
def State.unitUse (s : State) (u : Nat) : Nat :=
  if s.pairOdd u then 5
  else if (s.unitAt u).direct then 4
  else if ((List.range 256).any fun k => s.secNames k u false || (s.secNames k u true && (s.secAt k).spareOn)) ||
      (s.peer.nodeBinds.any fun b => unitOfType b.utype b.unit = u && !b.spare) then 1
  else if ((List.range 256).any fun k => s.secNames k u true) || (s.peer.nodeBinds.any fun b => unitOfType b.utype b.unit = u) then 2
  else if (List.range 8).any fun p => unitOfBind (s.list .prod p "OUTUNIT") = some u then 3
  else 0

def useWord (k : Nat) : String := ["NONE", "SECTION", "SPARE", "PRODUCT", "DIRECT", "PAIRED"].getD k "NONE"

/-- Unit u is in use: directly, by a RUNNING implement or product that names it, or by a lead's binding (R372, R459). -/
def State.unitInUse (s : State) (u : Nat) : Bool :=
  (s.unitAt u).direct
    || ((List.range 256).any fun k => (s.implAt (s.owner .sec k)).running && (s.secNames k u false || s.secNames k u true))
    || ((List.range 8).any fun p => (s.prodAt p).state = 1 && unitOfBind (s.list .prod p "OUTUNIT") = some u)
    || (s.peer.nodeBinds.any fun b => unitOfType b.utype b.unit = u)

/-- A section or a product names the unit (R373). -/
def State.unitNamed (s : State) (u : Nat) : Bool :=
  ((List.range 256).any fun k => s.secNames k u false || s.secNames k u true)
    || ((List.range 8).any fun p => unitOfBind (s.list .prod p "OUTUNIT") = some u)
    || (s.peer.nodeBinds.any fun b => unitOfType b.utype b.unit = u)

/-! ### A partition's functions (R115) -/

/-- A function of partition n runs. -/
def State.partRuns (s : State) (n : Nat) : Bool :=
  (s.implAt n).running
    || ((List.range 8).any fun p => s.owner .prod p = n && (s.prodAt p).state = 1)
    || ((List.range 8).any fun k => s.owner .odo k = n && (s.odoAt k).state = 1)
    || ((List.range 2).any fun k => s.owner .ssp k = n && (s.sspAt k).running)
    || ((List.range 4).any fun k => s.owner .can k = n && (Tab.get {} s.cans k).running && !(Tab.get {} s.cans k).peer)
    || ((List.range 56).any fun u => s.unitOwner u = n && (s.unitAt u).direct)
    || (s.peer.nodeBinds.any fun b => s.unitOwner (unitOfType b.utype b.unit) = n)

/-- STOPPED and RUNNING follow the functions (Table PRT-3). -/
def State.updatePart (n : Nat) (s : State) : State :=
  match (s.partAt n).state with
  | .stopped => if s.partRuns n then s.setPState n .running "" else s
  | .running => if s.partRuns n then s else s.setPState n .stopped ""
  | _ => s

/-- A START while the partition is FAULTED (R116). -/
def State.faultedErr (s : State) (n : Nat) : List Err := errIf ((s.partAt n).state = .faulted) .state

/-! ### Switching (R366 to R371) -/

/-- The rail of unit u. -/
def State.rail (s : State) (u : Nat) : RailState := if unitDieB u then s.power.railB else s.power.railA

/-- The scaled target of the hold phase (R377). -/
def State.holdTarget (s : State) (u : Nat) : Nat :=
  let x := s.unitAt u
  (if s.uWord u "MODE" = "PROPORTIONAL" then x.target else holdOf (s.phases u)) * x.scale / 1000

/-- A test or a calibration under way gives way to a switch-on (R382, R406). -/
def State.abortTests (u : Nat) (s : State) : State :=
  let x := s.unitAt u
  let s1 := match x.calStart with
    | some t => if s.now < t + 50000 then (s.setUnit u { x with calStart := none }).bump "CALABORT_CNT" u
      else s.setUnit u { x with calStart := none, calAt := some (t + 50000) }
    | none => s
  match x.testing with
  | some _ => (s1.setUnit u { s1.unitAt u with testing := none }).bump "ABORT_CNT" u
  | none => s1

/-- A switch-on, or a PWM pulse, is released: PH0 begins (ON_CNT counts a switch-on, not its further pulses), at `ir` where the grant is reduced; its scheduled end where it is a pulse. A gate driver above
100 Hz is fully on at once (R381); a profile of one phase begins in its hold phase. -/
def State.beginOn (u : Nat) (ir pend : Option Nat) (s : State) : State :=
  let s1 := s.abortTests u
  let n := (s1.phases u).length
  let s2 := s1.setUnit u { s1.unitAt u with
    on := true, sw := .drive, phase := if s1.hfPwm u then n - 1 else 0, phStart := s1.now, onAt := s1.now, reached := none, ir := ir, decaySince := none
    fastSlow := false, pulseEnd := pend, waiting := none, onDue := false, safe := false, safenHold := false, railHold := false }
  let s3 := if n ≤ 1 || s1.hfPwm u then s2.releaseGrant u
    else { s2 with grants := { s2.grants with list := s2.grants.list.map fun g => if g.who = u then { g with booked := false } else g } }
  if (s1.unitAt u).onDue then s3.bump "ON_CNT" u else s3

/-- A switch-off is released with the OFF mode of the running phase; a waiting switch-on is withdrawn (R366, R391). -/
def State.offSwitch (u : Nat) (s : State) : State :=
  let x := s.unitAt u
  let off := (((s.phases u)[x.phase]?).map Phase.off).getD 1
  let s1 := s.setUnit u (if x.on then { x with
      on := false, sw := if off = 0 then .slow else .fast, decaySince := some s.now, fastSlow := off = 2, pulseEnd := none, waiting := none
      ramp := none, reached := none }
    else { x with waiting := none, pulseEnd := none, ramp := none })
  s1.releaseGrant u

/-- Every switch opens by a hardware path (R384, R401, R648): the current decays through the clamp. -/
def State.hardOff (u : Nat) (s : State) : State :=
  let x := s.unitAt u
  let s1 := s.setUnit u { x with
    on := false, sw := .off, fastSlow := false, pulseEnd := none, waiting := none, ramp := none, reached := none, enabled := false
    decaySince := if x.on then some s.now else x.decaySince }
  s1.dropGrants u

/-- A switch-on released whose first pulse is still to come is counted too (Table DRV-8). -/
def State.countOn (u : Nat) (s : State) : State :=
  if (s.unitAt u).onDue then (s.setUnit u { s.unitAt u with onDue := false }).bump "ON_CNT" u else s

/-- What became of a switch-on command. -/
inductive OnRes
  | begun
  | waiting (start : Nat)
  | refused
  | recorded
  | ignored
  deriving DecidableEq, Repr

/-- Release a switch-on now, or let it wait for its grant's start. -/
def State.onAt (u : Nat) (d : Option Decision) (pend : Option Nat) (s : State) : State × OnRes :=
  match d with
  | none => (s, .refused)
  | some x =>
    if x.start ≤ s.now then (s.beginOn u x.ir pend, .begun)
    else (s.setUnit u { s.unitAt u with waiting := some x.start, pulseEnd := pend }, .waiting x.start)

/-- Ask for a switch-on's grant where it needs one, or use the one booked. -/
def State.askOn (u cls : Nat) (booked : Option Decision) (s : State) : State × Option Decision :=
  if !s.needsGrant u then (s, some { start := s.now, dur := 0, charge := 0 })
  else match booked with
    | some d => (s, some d)
    | none => s.askSwitchOn u cls s.now false

/-! PWM periods (R369) -/

def State.pwmOfs (s : State) (u : Nat) : Nat := s.uNat u "PWMOFS" * 1000000 / s.uNat u "FREQ"
/-- t_k. -/
def State.pwmStart (s : State) (u k : Nat) : Nat := k * nsS / s.uNat u "FREQ" + s.pwmOfs u
/-- The on-time of a duty. -/
def State.pwmOn (s : State) (u duty : Nat) : Nat := duty * 1000000 / s.uNat u "FREQ"
/-- The period that an instant lies in. -/
def State.pwmIx (s : State) (u t : Nat) : Option Nat :=
  if t < s.pwmOfs u then none else some (((t - s.pwmOfs u + 1) * s.uNat u "FREQ" - 1) / nsS)
/-- The shortest pulse (R368, R381). -/
def State.minPulse (s : State) (u : Nat) : Nat := if s.hfPwm u then 1000 else 20000

/-- A switch-on in PWM within a period (R368): a pulse at once up to the period's scheduled end, where enough of it is left; else the next period begins the
first. -/
def State.pwmSwitchOn (u cls : Nat) (booked : Option Decision) (s : State) : State × OnRes :=
  let d := (s.unitAt u).duty
  if s.pwmOn u d < s.minPulse u then (s, .begun)
  else if 1000 ≤ d then
    let r := s.askOn u cls booked
    r.1.onAt u r.2 none
  else match s.pwmIx u s.now with
    | none => (s, .begun)
    | some k =>
      let pend := s.pwmStart u k + s.pwmOn u d
      if s.now + s.minPulse u ≤ pend then
        let r := s.askOn u cls booked
        r.1.onAt u r.2 (some pend)
      else (s, .begun)

/-- A switch-on reaches unit u, from its use (R366 to R371), with a grant of a class or the one booked. It is ignored by a retired unit, while SAFEN is low and
in HOLDLAST; recorded during a cut and a suspicion (R378, R409); refused outside rail state OK (R614). -/
def State.unitOn (u cls : Nat) (booked : Option Decision) (s : State) : State × OnRes :=
  let x := s.unitAt u
  if !s.unitPresent u || x.retired || s.safenLow || x.held || (x.otwait && !x.blocked) then (s, .ignored)
  else if x.cut || x.blocked then (s.setUnit u { x with recorded := some true }, .recorded)
  else if s.rail u ≠ .ok then ((s.setUnit u { x with enabled := s.uWord u "MODE" = "PWM" }).dropGrants u, .refused)
  else
    let s1 := s.setUnit u { x with enabled := true, safe := false, safenHold := false, railHold := false }
    if x.on || (x.enabled && (s.uWord u "MODE" = "PWM" || x.waiting.isSome)) then (s1, match x.waiting with | some t => .waiting t | none => .begun)
    else
      let s2 := s1.setUnit u { s1.unitAt u with onDue := true }
      let q := if s.uWord u "MODE" = "PWM" then s2.pwmSwitchOn u cls booked
        else
          let r := s2.askOn u cls booked
          r.1.onAt u r.2 none
      match q.2 with
      | .refused => (q.1.setUnit u { q.1.unitAt u with enabled := false, onDue := false }, .refused)
      | .begun => (q.1.countOn u, .begun)
      | o => (q.1, o)

/-- A switch-off reaches unit u: it never waits (R431). -/
def State.unitOff (u : Nat) (s : State) : State :=
  let x := s.unitAt u
  if x.held then s
  else if x.cut || x.blocked then s.setUnit u { x with recorded := some false, enabled := false }
  else (s.setUnit u { x with enabled := false, retryAt := none }).offSwitch u

/-- The safe state (R383): OFF, or HOLDLAST where the cause allows it; grants are released (R429), and a cut's recorded command is discarded (R393). -/
def State.unitSafe (u : Nat) (forceOff : Bool) (s : State) : State :=
  let x := s.unitAt u
  if s.uWord u "SAFE" = "HOLDLAST" && !forceOff && !x.cut then (s.setUnit u { x with safe := true, held := true, waiting := none }).dropGrants u
  else
    let s1 := (s.setUnit u { x with safe := true, held := false, enabled := false, recorded := if x.cut then some false else x.recorded }).offSwitch u
    s1.dropGrants u

/-- Leaving HOLDLAST at the end of a reset: switched off (R122, R667). -/
def State.unitUnhold (u : Nat) (s : State) : State :=
  let x := s.unitAt u
  if x.held then (s.setUnit u { x with held := false, safe := false, enabled := false }).offSwitch u
  else s.setUnit u { x with safe := false }

/-! ### Duty and target (R370, R371) -/

/-- A change of DUTY: at the next period, or at once in the running one (R370, R395). -/
def State.unitDuty (u d : Nat) (nowAdv : Bool) (s : State) : State :=
  let x := s.unitAt u
  if x.held then s
  else if !nowAdv then s.setUnit u { x with dutyNew := some d }
  else
    let s1 := s.setUnit u { x with duty := d, dutyNew := none }
    match x.on && x.pulseEnd.isSome, s.pwmIx u s.now with
    | true, some k =>
      let pend := s.pwmStart u k + s.pwmOn u d
      if s.pwmOn u d < s.minPulse u || pend ≤ s.now then s1.offSwitch u
      else s1.setUnit u { s1.unitAt u with pulseEnd := if 1000 ≤ d then none else some pend }
    | _, _ => s1

/-- A change of a PROPORTIONAL target (R260, R371, R391): a decrease applies at once and withdraws a waiting increase; an increase in the hold phase asks for a
METER grant, and is held back outside rail state OK (R614); before the hold phase it needs none. -/
def State.unitTarget (u t : Nat) (s : State) : State :=
  let x := s.unitAt u
  let inHold := x.on && x.phase + 1 = (s.phases u).length
  if x.held then s
  else if t ≤ x.target || !inHold then
    let s1 := s.setUnit u { x with target := t, ramp := none }
    if x.ramp.isSome then s1.releaseGrant u else s1
  else if s.rail u ≠ .ok then s
  else if 48 ≤ u && !s.isOn .grant (budgetOf u) "GDRCHARGE" then s.setUnit u { x with target := t }
  else
    let r := s.askMeter u (t - x.target)
    match r.2 with
    | none => r.1
    | some d =>
      if d.start ≤ s.now && d.ir.isNone then r.1.setUnit u { r.1.unitAt u with target := t, ramp := none }
      else r.1.setUnit u { r.1.unitAt u with ramp := some (t, d.start) }

/-! ### Sequencer steps -/

/-- The unit enters phase k; the hold phase releases its grant (R429). Below the present target it begins in that phase's decay state (R361). -/
def State.enterPhase (u k : Nat) (s : State) : State :=
  let x := s.unitAt u
  let ps := s.phases u
  let lower := match ps[k]?, ps[k - 1]? with
    | some p, some q => decide (p.target < q.target)
    | _, _ => false
  let fast := ((ps[k]?).map Phase.fast).getD false
  let s1 := s.setUnit u { x with phase := k, phStart := s.now, reached := none, sw := if lower then (if fast then .fast else .slow) else .drive }
  if k + 1 = ps.length then s1.releaseGrant u else s1

/-- The length of a phase of unit u, PH0 stretched where it is reduced (R365). -/
def State.phaseTime (s : State) (u : Nat) (p : Phase) (t : Nat) : Nat :=
  let x := s.unitAt u
  match x.ir with
  | some i => if x.phase = 0 then stretch t p.target i else t
  | none => t

/-- PHASE_END_TIME (R363): T after its beginning, or for REACHED after its target was first reached. -/
def execPhaseEndTime (u : Nat) (s : State) : Host.Outcome State Fault Refusal :=
  let x := s.unitAt u
  match x.on, (s.phases u)[x.phase]? with
  | true, some p =>
    if p.fin = 0 then .next ((s.advanceTo (x.phStart + s.phaseTime u p p.t)).enterPhase u (x.phase + 1))
    else match p.fin, x.reached with
      | 1, some r => .next ((s.advanceTo (r + s.phaseTime u p p.t)).enterPhase u (x.phase + 1))
      | _, _ => .next s
  | _, _ => .next s

/-- PHASE_TARGET_REACHED (R363). -/
def execPhaseTargetReached (u ts : Nat) (s : State) : Host.Outcome State Fault Refusal :=
  let x := s.unitAt u
  match x.on, (s.phases u)[x.phase]? with
  | true, some p =>
    if p.fin = 1 && x.reached.isNone then
      let s1 := s.advanceTo ts
      .next (s1.setUnit u { x with reached := some s1.now })
    else .next s
  | _, _ => .next s

/-- PHASE_TLIM (R363, R392): REACHFAIL where the target was not reached. -/
def execPhaseTlim (u : Nat) (s : State) : Host.Outcome State Fault Refusal :=
  let x := s.unitAt u
  match x.on, (s.phases u)[x.phase]? with
  | true, some p =>
    if p.fin = 1 then
      let s1 := s.advanceTo (x.phStart + s.phaseTime u p p.tlim)
      let s2 := if x.reached.isSome then s1
        else (s1.bump "REACHFAIL_CNT" u).ev "DRV" (toPart (s1.unitOwner u)) (unitText u ++ " REACHFAIL phase=" ++ toString x.phase)
      .next (s2.enterPhase u (x.phase + 1))
    else .next s
  | _, _ => .next s

/-- The phase whose OFF mode a decay follows. -/
def State.offPhase (s : State) (u : Nat) : Option Phase := (s.phases u)[(s.unitAt u).phase]?

/-- DECAY_TFAST_END (R366). -/
def execDecayTfastEnd (u : Nat) (s : State) : Host.Outcome State Fault Refusal :=
  let x := s.unitAt u
  match x.fastSlow, x.decaySince, s.offPhase u with
  | true, some t, some p =>
    let s1 := s.advanceTo (t + p.tfast)
    .next (s1.setUnit u { x with sw := .slow, fastSlow := false, decaySince := some (t + p.tfast) })
  | _, _, _ => .next s

/-- SLOW_DECAY_TIMEOUT (R366): 200 ms of SLOW. -/
def execSlowDecayTimeout (u : Nat) (s : State) : Host.Outcome State Fault Refusal :=
  let x := s.unitAt u
  match x.sw, x.on, x.decaySince with
  | .slow, false, some t => .next ((s.advanceTo (t + 200 * nsMs)).setUnit u { x with sw := .fast })
  | _, _, _ => .next s

/-- DECAY_COMPLETE (R366): below 20 mA. -/
def execDecayComplete (u ts : Nat) (s : State) : Host.Outcome State Fault Refusal :=
  let x := s.unitAt u
  match x.decaySince with
  | some _ =>
    let s1 := s.advanceTo ts
    .next (s1.setUnit u { x with sw := .off, decaySince := none, fastSlow := false, offDone := s1.now })
  | none => .next s

/-- A pulse is due (R368, R370): it asks for its grant, or uses the one its section switch-on booked; outside rail state OK it is skipped (R614). -/
def State.pulseDue (u : Nat) (pend : Option Nat) (s : State) : State :=
  let skip (a : State) : State := (a.bump "PULSESKIP_CNT" u).offSwitch u
  if s.rail u ≠ .ok then skip s
  else
    let held := match s.grantOf u with
      | some g => if g.cls = 0 && s.now < g.start + g.dur then some { start := g.start, dur := g.dur, charge := g.charge, ir := g.ir : Decision } else none
      | none => none
    let r := s.askOn u 1 held
    let q := r.1.onAt u r.2 pend
    if q.2 = .refused then skip q.1 else q.1

/-- PWM_PERIOD_START (R369, R370). -/
def execPwmPeriodStart (u : Nat) (s : State) : Host.Outcome State Fault Refusal :=
  if s.uWord u "MODE" ≠ "PWM" || !s.unitPresent u then .next s
  else
    let k0 := match s.pwmIx u s.now with
      | none => 0
      | some k => if s.pwmStart u k = s.now && s.lastTick.find ("PWM", u) ≠ some s.now then k else k + 1
    let t := s.pwmStart u k0
    let s0 := s.advanceTo t
    let s1 := { s0 with lastTick := AMap.put ("PWM", u) t s0.lastTick }
    let x := s1.unitAt u
    let d := x.dutyNew.getD x.duty
    let s2 := s1.setUnit u { x with duty := d, dutyNew := none }
    if !x.enabled || x.cut || x.blocked || x.retired || s1.safenLow then .next s2
    else if s1.pwmOn u d < s1.minPulse u then .next (s2.offSwitch u)
    else if 1000 ≤ d then .next (if x.on && x.pulseEnd.isNone then s2 else s2.pulseDue u none)
    else .next (s2.pulseDue u (some (t + s1.pwmOn u d)))

/-- PWM_PULSE_END (R368): a pulse still waiting for its grant is withdrawn. -/
def execPwmPulseEnd (u : Nat) (s : State) : Host.Outcome State Fault Refusal :=
  match (s.unitAt u).pulseEnd with
  | some t => .next ((s.advanceTo t).offSwitch u)
  | none => .next s

/-- DITHER_HALF (R369, R371): the next half-period of the dither begins, the high one where its number is even. -/
def execDitherHalf (u : Nat) (s : State) : Host.Outcome State Fault Refusal :=
  let x := s.unitAt u
  let f := s.uNat u "DFREQ"
  if s.uWord u "MODE" ≠ "PROPORTIONAL" || !x.on then .next s
  else
    let h0 := ((s.now + 1) * 2 * f - 1) / nsS
    let h := if h0 * nsS / (2 * f) = s.now && s.lastTick.find ("DITHER", u) ≠ some s.now then h0 else h0 + 1
    let t := h * nsS / (2 * f)
    let s1 := s.advanceTo t
    .next ({ s1 with lastTick := AMap.put ("DITHER", u) t s1.lastTick }.setUnit u { x with dithHigh := h % 2 = 0 })

/-! ### The duty limit (R376 to R378) -/

/-- DUTY_SAMPLE (R376), every 1 ms: the load current in mA, a pair's total. -/
def execDutySample (u ma : Nat) (s : State) : Host.Outcome State Fault Refusal :=
  let s1 := s.tick "DUTYS" u nsMs
  let x := s1.unitAt u
  let y := if u < 48 then { x with ils := ma } else { x with ish := ma }
  match s.natOpt (unitNoun u) (unitIx u) "DLIMIT" with
  | none => .next (s1.setUnit u { y with sums := [] })
  | some _ => .next (s1.setUnit u { y with sums := (ma * ma :: x.sums).take (s.uNat u "DWIN" / 1000) })

/-- EV … DUTY. -/
def State.dutyEv (u : Nat) (t : String) (s : State) : State := s.ev "DRV" (toPart (s.unitOwner u)) (unitText u ++ " DUTY state=" ++ t)

/-- THROTTLE (R377). -/
def State.throttle (u sum lim : Nat) (s : State) : State :=
  let x := s.unitAt u
  let low := s.uNat u "THRFLOOR"
  if lim * 10000000 < sum && x.lastSum ≤ sum && low < x.scale then
    let sc := max low (x.scale - 50)
    let s1 := (s.setUnit u { x with scale := sc }).bump "THROTTLE_CNT" u
    if x.scale = 1000 then s1.dutyEv u ("THROTTLE scale=" ++ toString sc) else s1
  else if sum * 10 < lim * 10000000 * 8 && x.scale < 1000 then
    let sc := min 1000 (x.scale + 50)
    let s1 := s.setUnit u { x with scale := sc }
    if sc = 1000 then s1.dutyEv u "OK" else s1
  else s

/-- CUT, and the return from it with a grant of class SECTION (R378, Table GRT-4). -/
def State.cutEval (u sum lim : Nat) (s : State) : State :=
  let x := s.unitAt u
  if x.cut then
    if sum * 10 < lim * 10000000 * 8 then
      let s1 := (s.setUnit u { x with cut := false, recorded := none }).dutyEv u "OK"
      if x.recorded = some true then (s1.unitOn u 0 none).1 else s1
    else s
  else if lim * 10000000 < sum then
    (((s.setUnit u { x with cut := true, recorded := some x.enabled, enabled := false }).offSwitch u).bump "CUT_CNT" u).dutyEv u "CUT"
  else s

/-- DUTY_EVAL (R376), once per second. -/
def execDutyEval (u : Nat) (s : State) : Host.Outcome State Fault Refusal :=
  let s1 := s.tick "DUTYE" u nsS
  match s.natOpt (unitNoun u) (unitIx u) "DLIMIT" with
  | none => .next s1
  | some lim =>
    let sum := (s1.unitAt u).sums.sum
    let s2 := if s.uWord u "DACT" = "THROTTLE" then s1.throttle u sum lim else s1.cutEval u sum lim
    .next (s2.setUnit u { s2.unitAt u with lastSum := sum, dsum := min 4294967295 (sum / 10000000) })

/-! ### Sense calibration, SAFEN (R382, R384) -/

/-- The instant of the last completed calibration. -/
def State.calDone (s : State) (u : Nat) : Option Nat :=
  let x := s.unitAt u
  match x.calStart with
  | some t => if t + 50000 ≤ s.now then some (t + 50000) else x.calAt
  | none => x.calAt

/-- CALAGE in seconds, held at 65,535; CALSTALE above 60 s. -/
def State.calAge (s : State) (u : Nat) : Nat := match s.calDone u with
  | some t => min 65535 ((s.now - t) / nsS)
  | none => 65535
def State.calStale (s : State) (u : Nat) : Bool := match s.calDone u with
  | some t => decide (t + 60 * nsS < s.now)
  | none => true

/-- A switch-on of the unit is booked or due within a time (R382, R405). -/
def State.onDueWithin (s : State) (u d : Nat) : Bool :=
  (s.grants.list.any fun g => g.who = u && s.now ≤ g.start && g.start < s.now + d) || (s.unitAt u).waiting.isSome ||
  (s.uWord u "MODE" = "PWM" && (s.unitAt u).enabled && match s.pwmIx u s.now with
    | some k => decide (s.pwmStart u (k + 1) < s.now + d)
    | none => decide (s.pwmOfs u < s.now + d))

/-- SENSE_CAL (R382, R397): begun in an off interval known to last, when the last is older than 1 s; a switch-on within its 50 µs aborts it. -/
def execSenseCal (u ts : Nat) (s : State) : Host.Outcome State Fault Refusal :=
  let s1 := s.advanceTo ts
  let x := s1.unitAt u
  let old := match s1.calDone u with
    | some t => decide (t + nsS < s1.now)
    | none => true
  let off := !x.on && x.sw = .off && x.decaySince.isNone && (s.uWord u "MODE" = "PWM" && x.enabled || x.offDone + 200000 ≤ s1.now)
  if s1.unitPresent u && !s.pairOdd u && old && off && x.testing.isNone && !s1.onDueWithin u 250000 then
    .next (s1.setUnit u { x with calAt := s1.calDone u, calStart := some s1.now })
  else .next s1

/-- A directly operated unit that is switched off by a hardware path reads STATE=OFF (R384, R614). -/
def State.directOffState (u : Nat) (s : State) : State :=
  if (s.unitAt u).direct then s.store (unitNoun u) (unitIx u) "" "STATE" (.w "OFF") else s

/-- EV DEVICE SAFEN, and its field record (R384, Table ATT-3); the record carries I43 as its source (DESIGN CHOICE). -/
def State.safenNote (high : Bool) (s : State) : State :=
  (s.ev "DRV" (.to [0, 1, 2, 3] true) ("DEVICE SAFEN level=" ++ (if high then "HIGH" else "LOW"))).field 0x0105 43 255 4 [if high then 1 else 0]

/-- SAFEN acts on one unit: all switches open, and a directly operated one reads STATE=OFF (R384, R423). -/
def safenUnit (u : Nat) (s : State) : State :=
  let x := s.unitAt u
  let s1 := (s.setUnit u { x with testing := none, held := false, retryAt := none
                                  recorded := if x.cut || x.blocked then some false else none }).hardOff u
  let s2 := s1.setUnit u { s1.unitAt u with safenHold := true }
  if x.direct then s2.store (unitNoun u) (unitIx u) "" "STATE" (.w "OFF") else s2

/-! ### Grants of units -/

/-- GRANT_START (R434): a waiting switch-on or pulse begins, or a waiting target applies; a reduced step rises until its end. A pulse whose scheduled end has come
(R370) is withdrawn, and outside rail state OK it is skipped (R614). -/
def execGrantStart (u : Nat) (s : State) : Host.Outcome State Fault Refusal :=
  let x := s.unitAt u
  let ir := (s.grantOf u).bind Grant.ir
  match x.waiting, x.ramp with
  | some t, _ =>
    let s1 := s.advanceTo t
    if s.rail u ≠ .ok then
      let s2 := (s1.setUnit u { x with waiting := none, pulseEnd := none }).dropGrants u
      .next (if x.pulseEnd.isSome then s2.bump "PULSESKIP_CNT" u else s2)
    else if x.pulseEnd.any (· ≤ s1.now) then .next (s1.offSwitch u)
    else .next (s1.beginOn u ir x.pulseEnd)
  | none, some (v, t) => if ir.isNone then .next ((s.advanceTo t).setUnit u { x with target := v, ramp := none }) else .next (s.advanceTo t)
  | none, none => .next s

/-- GRANT_RELEASE (R429): the end of D of the holder's grant; a reduced METER step has then reached its target. -/
def execGrantRelease (who : Nat) (s : State) : Host.Outcome State Fault Refusal :=
  match s.grantOf who with
  | some g =>
    let s1 := (s.advanceTo (g.start + g.dur)).dropGrants who
    let x := s1.unitAt who
    match g.cls, x.ramp with
    | 2, some (v, _) => if who < 56 then .next (s1.setUnit who { x with target := v, ramp := none }) else .next s1
    | _, _ => .next s1
  | none => .next s

/-- A directly operated unit is switched on; a refusal is asked again 5 ms later (R373, R436). -/
def State.directOn (u : Nat) (s : State) : State :=
  let r := s.unitOn u 0 none
  if r.2 = .refused && s.rail u = .ok then r.1.setUnit u { r.1.unitAt u with retryAt := some (s.now + 5 * nsMs) } else r.1

/-- A directly operated unit's STATE is set by a phrase or a compare action (R297, R373); while SAFEN is low it reads OFF (R384, R393). -/
def State.directSet (u : Nat) (on : Bool) (s : State) : State :=
  let keep := on && !s.safenLow
  let s1 := s.store (unitNoun u) (unitIx u) "" "STATE" (.w (onOff keep))
  if !(s.unitAt u).direct then s1 else if on then s1.directOn u else (s1.setUnit u { s1.unitAt u with retryAt := none }).unitOff u

/-- DIRECT_GRANT_RETRY (R436). -/
def execDirectGrantRetry (u : Nat) (s : State) : Host.Outcome State Fault Refusal :=
  let x := s.unitAt u
  match x.retryAt with
  | some t =>
    let s1 := (s.advanceTo t).setUnit u { x with retryAt := none }
    if x.direct && s.uWord u "STATE" = "ON" then .next (s1.directOn u) else .next s1
  | none => .next s

/-! ### START, STOP, SET of CHAN and GDR; PAIR (R372 to R381) -/

/-- The largest current of a unit: R364 for channels and pairs, R379 for gate drivers. -/
def State.maxTarget (s : State) (u : Nat) : Nat :=
  if u < 48 then (if s.pairEven u then 8000 else 4000) else min 20000 (45000000 / s.uNat u "SHUNT")

/-- A PROPORTIONAL TARGET within the limits of R364, R371 and R379. -/
def State.targetOk (s : State) (u t : Nat) : Bool :=
  if u < 48 then decide (t ≤ s.holdLimit u) && decide (t * (1000 + s.uNat u "DAMP") ≤ 1000 * s.maxTarget u) else decide (t ≤ s.maxTarget u)

/-- What START of a user finds against a unit's mode, profile and limits (R362, R364, R371, R372, R379, R380). -/
def State.driveErrs (s : State) (u : Nat) (modes : List String) : List Err :=
  let p := s.uNat u "PROF"
  let ps := s.phases u
  let prof := "PROF." ++ toString p
  let lowside := 48 ≤ u || s.uWord u "WIRING" = "LOWSIDE"
  let diode := s.uWord u "FWD" = "DIODE"
  let badEnd := (((nonHold ps).any fun q => q.fin = 2) || (ps.getLast?.map Phase.fin) ≠ some 2 || ps.any fun q => peakOf ps < q.target)
  let lim := s.holdLimit u
  let badLimit :=
    if u < 48 then (ps.any fun q => s.maxTarget u < q.target) || lim < holdOf ps ||
      50 * nsMs < (((nonHold ps).filter fun q => lim < q.target).map Phase.booked).sum
    else ps.any fun q => s.maxTarget u < q.target
  errIf (s.owner .prof p ≠ s.unitOwner u) .owner
    ++ errIf (!modes.contains (s.uWord u "MODE")) .attr (some (unitText u))
    ++ errIf (lowside && ps.any fun q => if diode then q.fast || q.off ≠ 0 else !q.fast || q.off ≠ 1) .attr (some prof)
    ++ errIf (badEnd || badLimit) .range (some prof)
    ++ errIf (s.uWord u "MODE" = "PROPORTIONAL" && !s.targetOk u (s.uNat u "TARGET")) .range (some (unitText u))

/-- What START of a section or product finds against the local unit that a value names (R372, R374): it exists, the partition owns it, PAIR names a linked pair and CHAN
an unlinked channel, and R362 to R380 hold. -/
def State.bindErrs (s : State) (b : List Nat) (own : Nat) (modes : List String) : List Err :=
  match unitOfBind b with
  | none => []
  | some u =>
    let pair := b.head? = some 3
    errIf (!s.unitPresent u) .absent (some (unitText u))
      ++ errIf (s.unitOwner u ≠ own) .owner
      ++ errIf (u < 48 && pair ≠ (s.pairEven u || s.pairOdd u)) .attr (some (unitText u))
      ++ s.driveErrs u modes

/-- A user takes a unit (R119): its stored duty and target, the scale at 100.0 %, no cut, no safe state left over. -/
def State.engage (u : Nat) (s : State) : State :=
  s.setUnit u { s.unitAt u with
    duty := s.uNat u "DUTY", dutyNew := none, target := s.uNat u "TARGET", ramp := none, scale := 1000, cut := false
    recorded := if (s.unitAt u).blocked then some false else none, sums := [], lastSum := 0, dsum := 0, safe := false, held := false }

/-- The unit of CHAN.i or GDR.i. -/
def unitOfNoun (n : Noun) (i : Nat) : Nat := if n = .gdr then 48 + i else i

/-- START_CHAN (R373). -/
def execStartChan (sess : Nat) (ph : Phrase) (s : State) : Host.Outcome State Fault Refusal :=
  .next (runRow "START_CHAN" sess ph (fun s => perInst sess ph (fun i s =>
    let n := ph.nn.getD .chan
    let u := unitOfNoun n i
    Ans.eff (s.unitErrs sess ph n (some i) ++ extraAttrs ph [] ++ s.driveErrs u ["ONOFF", "PWM", "PROPORTIONAL"]
        ++ errIf ((s.unitAt u).direct || s.pairOdd u || s.unitNamed u) .state ++ s.faultedErr (s.unitOwner u))
      fun s =>
        let s0 := s.engage u
        let s1 := s0.setUnit u { s0.unitAt u with direct := true }
        let s2 := if s.uWord u "STATE" = "ON" then s1.directSet u true else s1
        s2.updatePart (s.unitOwner u)) s) s)

/-- A directly operated unit stops: off, and STATE=OFF (R373). -/
def State.stopDirect (u : Nat) (s : State) : State :=
  if !(s.unitAt u).direct then s
  else
    let s1 := s.unitOff u
    (s1.setUnit u { s1.unitAt u with direct := false, retryAt := none }).store (unitNoun u) (unitIx u) "" "STATE" (.w "OFF")

/-- STOP_CHAN (R373, R117). -/
def execStopChan (sess : Nat) (ph : Phrase) (s : State) : Host.Outcome State Fault Refusal :=
  .next (runRow "STOP_CHAN" sess ph (fun s => perInst sess ph (fun i s =>
    let n := ph.nn.getD .chan
    let u := unitOfNoun n i
    Ans.eff (s.unitErrs sess ph n (some i) ++ extraAttrs ph [] ++ errIf (s.pairOdd u) .state)
      fun s => (s.stopDirect u).updatePart (s.unitOwner u)) s) s)

/-- One attribute of a SET of a directly operated unit takes effect. -/
def chanAttrAct (u : Nat) (nowAdv : Bool) (a : AttrTok) (s : State) : State :=
  if !(s.unitAt u).direct then s
  else if a.name = "STATE" then s.directSet u ((a.value.map upper) = some "ON")
  else if a.name = "DUTY" then s.unitDuty u (s.uNat u "DUTY") nowAdv
  else if a.name = "TARGET" then s.unitTarget u (s.uNat u "TARGET")
  else s

/-- SET of CHAN or GDR (R372, R373, R375): of a unit in use only what Table PRT-4 allows under direct operation. -/
def chanSet (sess : Nat) (ph : Phrase) (s : State) : Ans :=
  perInst sess ph (fun i s =>
    let n := ph.nn.getD .chan
    let u := unitOfNoun n i
    let sp := driveAttrs (n = .gdr)
    let direct := (s.unitAt u).direct
    let rd := ph.attrs.all fun a => match specFind a.name sp with
      | some x => x.run = .direct
      | none => true
    let badTarget := direct && s.uWord u "MODE" = "PROPORTIONAL" && match attrInt ph "TARGET" 50 20000 with
      | some t => !s.targetOk u t.toNat
      | none => false
    Ans.eff (s.unitErrs sess ph n (some i) ++ setAttrErrs sp (s.sessAt sess).super ph
        ++ errIf badTarget .range (ph.tok "TARGET")
        ++ errIf (s.pairOdd u || (s.unitInUse u && !(direct && rd))) .state)
      fun s => overList ph.attrs (chanAttrAct u (ph.adv .now)) (storeAttrs sp n i "" ph s)) s

/-- SET_CHAN_STATE (R373). -/
def execSetChanState (sess : Nat) (ph : Phrase) (s : State) : Host.Outcome State Fault Refusal :=
  .next (runRow "SET_CHAN_STATE" sess ph (chanSet sess ph) s)
/-- SET_CHAN_DUTY (R370). -/
def execSetChanDuty (sess : Nat) (ph : Phrase) (s : State) : Host.Outcome State Fault Refusal :=
  .next (runRow "SET_CHAN_DUTY" sess ph (chanSet sess ph) s)
/-- SET_CHAN_TARGET (R371, R260). -/
def execSetChanTarget (sess : Nat) (ph : Phrase) (s : State) : Host.Outcome State Fault Refusal :=
  .next (runRow "SET_CHAN_TARGET" sess ph (chanSet sess ph) s)

/-- SET_PAIR_LINK (R374). -/
def execSetPairLink (sess : Nat) (ph : Phrase) (s : State) : Host.Outcome State Fault Refusal :=
  .next (runRow "SET_PAIR_LINK" sess ph (fun s => perInst sess ph (fun i s =>
    Ans.eff (s.unitErrs sess ph .pair (some i) ++ errIf (s.owner .chan i ≠ s.owner .chan (i + 1)) .owner ++ setAttrErrs pairAttrs (s.sessAt sess).super ph
        ++ errIf (s.unitInUse i || s.unitInUse (i + 1)) .state)
      (storeAttrs pairAttrs .pair i "" ph)) s) s)

/-! ### What CHAN, GDR, PAIR and PROF show -/

/-- OUT (Table DRV-3). -/
def State.unitOut (s : State) (u : Nat) : String :=
  let x := s.unitAt u
  if s.safenLow || x.safenHold then "SAFEN"
  else if x.safe then "SAFE"
  else if x.cut then "CUT"
  else if x.on then "PH" ++ toString x.phase
  else if x.decaySince.isSome then "DECAY"
  else "OFF"

/-- A read-only attribute of CHAN or GDR. -/
def State.driveRead (s : State) (u : Nat) (name : String) : String :=
  let x := s.unitAt u
  if name = "RUN" then (if s.unitInUse u then "RUNNING" else "STOPPED")
  else if name = "USE" then useWord (s.unitUse u)
  else if name = "OUT" then s.unitOut u
  else if name = "IHS" then toString x.ihs
  else if name = "ILS" then toString x.ils
  else if name = "SCALE" then toString x.scale
  else if name = "DSUM" then toString x.dsum
  else if name = "CALAGE" then toString (s.calAge u)
  else if name = "ISH" then toString x.ish
  else toString x.vds

end Sys2Proof.Machine
end

