-- ==== Sys2Proof/Machine/OdoCore.lean ====
section
/-!
DEFINITION. Sys2Proof/Machine/OdoCore.lean: counting, rate and speed, index and compare list of an odometry unit (08_odometry.md), as functions of the unit's own
state; what its fired entries do is the trigger path's and the rows'.
-/
namespace Sys2Proof.Machine

/-! ### Count, rate and speed (R281 to R286) -/

/-- A signed 32-bit count, wrapping. -/
def wrap32 (i : Int) : Int := ofTwos 32 (toTwos 32 i)

/-- The rate of a period in ns, in 0.001 count/s. -/
def rateOf (ns : Nat) : Nat := if ns = 0 then 0 else 1000000000000 / ns

/-- The rate reported at an instant (R283, R285): in a hold the held value, in period mode the last one, each at most one count in the time since the last edge;
0 when no edge came for ZEROTIME. -/
def Odo.report (o : Odo) (t zt : Nat) : Nat :=
  match o.lastEdge with
  | none => 0
  | some e =>
    let dt := t - e
    if zt ≤ dt then 0
    else
      let cap := rateOf dt
      match o.heldV with
      | some h => if dt = 0 then h else min h cap
      | none => if o.window || dt = 0 then o.rate else min o.rate cap

def State.odoRate (s : State) (n : Nat) : Nat := (s.odoAt n).report s.now (s.ns .odo n "ZEROTIME")

/-- Distance per count in nm of unit n: 1 mm for INTERNAL (R282). -/
def State.odoNm (s : State) (n : Nat) : Nat := if s.word .odo n "SRC" = "INTERNAL" then 1000000 else (s.odoAt n).mpcNm

/-- Speed in mm/s from a rate and a direction (R286). -/
def speedOf (r nm : Nat) (down : Bool) : Int :=
  let v := divRound ((r * nm : Nat) : Int) 1000000000
  if down then -v else v

def State.odoSpeed (s : State) (n : Nat) : Int := speedOf (s.odoRate n) (s.odoNm n) (s.odoAt n).down

/-- A counted edge up or down, at its timestamp (R281, R283 to R285): the unit after it, and whether it is a direction change. -/
def Odo.edge (o : Odo) (ts zt chgup : Nat) (up : Bool) : Odo × Bool :=
  let count := wrap32 (if up then o.count + 1 else o.count - 1)
  match o.lastEdge with
  | none => ({ o with count := count, lastEdge := some ts, down := !up, gateN := o.gateN + 1, gateT1 := if o.gateN = 0 then ts else o.gateT1, gateTn := ts }, false)
  | some e =>
    if o.down = up then
      ({ o with count := count, lastEdge := some ts, down := !up, heldV := some (o.report ts zt), window := false, winNext := false, gateN := 0 }, true)
    else
      let r := rateOf (ts - e)
      let gate := { o with
        count := count, lastEdge := some ts, heldV := none
        gateN := o.gateN + 1, gateT1 := if o.gateN = 0 then ts else o.gateT1, gateTn := ts }
      if o.window && o.winNext then (gate, false)
      else ({ gate with window := false, winNext := (!o.window && o.winNext) || chgup * 1000 < r, rate := r }, false)

/-- A gate ends (R283, R284): in window mode its rate is taken, and back to period mode from the next edge where it is below CHGDN or saw fewer than two edges,
which give no rate; a change to window mode that waited takes effect. -/
def Odo.gate (o : Odo) (chgdn : Nat) : Odo :=
  if o.window then
    if 2 ≤ o.gateN && o.gateT1 < o.gateTn then
      let r := (o.gateN - 1) * 1000000000000 / (o.gateTn - o.gateT1)
      { o with rate := r, winNext := decide (chgdn * 1000 ≤ r), gateN := 0 }
    else { o with winNext := false, gateN := 0 }
  else if o.winNext then { o with window := true, gateN := 0 }
  else { o with gateN := 0 }

/-! ### Index (R288 to R290) -/

/-- The value an index edge is checked against (R289). -/
def idxExpect (mode : String) (exp val : Int) (down : Bool) : Int := if mode = "ALWAYS" && down then 2 * val - exp else exp

/-- An index edge slips (R289): outside the tolerance where there is one; in ALWAYS the first edge after START is not checked. -/
def idxSlips (o : Odo) (mode : String) (exp val : Int) (tol : Option Nat) : Bool :=
  match tol with
  | none => false
  | some t => !(mode = "ALWAYS" && !o.idxSeen) && decide ((t : Int) < (o.count - idxExpect mode exp val o.down).natAbs)

/-! ### Compare list (R292 to R294) -/

/-- Distance ahead modulo 2^32 (R293). -/
def ahead (count : Int) (e : Entry) : Nat :=
  let up := toTwos 32 (e.value - count)
  let dn := toTwos 32 (count - e.value)
  if e.dir = 1 then up else if e.dir = 2 then dn else min up dn

/-- List order: distance, then write order. -/
def nearer (count : Int) (a b : Entry) : Bool := ahead count a < ahead count b || (ahead count a = ahead count b && a.order < b.order)

/-- Insert in list order. -/
def insEntry (count : Int) (e : Entry) : List Entry → List Entry
  | [] => [e]
  | x :: xs => if nearer count e x then e :: x :: xs else x :: insEntry count e xs

/-- Entries in the order of R293. -/
def sortEntries (count : Int) (l : List Entry) : List Entry := l.foldr (insEntry count) []

/-- The edge from `c` to `c'` fires an entry (R292): not across the wrap. -/
def firesAt (c c' : Int) (e : Entry) : Bool :=
  e.value = c' && ((e.dir ≠ 2 && c' = c + 1) || (e.dir ≠ 1 && c' = c - 1))

/-- A write (R293): the entry joins the queue. -/
def Odo.write (o : Odo) (e : Entry) : Odo := { o with entries := o.entries ++ [{ e with order := o.order, hw := false, passed := false }], order := o.order + 1 }

/-- Which entries fire at an edge, in list order, and the unit without them; those in the queue that the edge passes are marked (R292, R294). -/
def Odo.fire (o : Odo) (c : Int) : Odo × List Entry :=
  let f := sortEntries c (o.entries.filter fun e => e.hw && firesAt c o.count e)
  ({ o with entries := (o.entries.filter fun e => !(e.hw && firesAt c o.count e)).map fun e => if firesAt c o.count e then { e with passed := true } else e }, f)

/-- The 64 nearest entries belong in the hardware list: the one that is missing from it first. -/
def Odo.missing (o : Odo) : Option Entry := ((sortEntries o.count o.entries).take 64).find? fun e => !e.hw

/-- One refill (R293): the nearest entry outside the hardware list that belongs in it is promoted, the farthest giving way where the list is full. A passed entry
fires at its promotion (R294). -/
def Odo.refill (o : Odo) : Odo × Option Entry :=
  match o.missing with
  | none => (o, none)
  | some e =>
    let near := (sortEntries o.count o.entries).take 64
    if e.passed then ({ o with entries := o.entries.filter fun x => x.order ≠ e.order }, some e)
    else ({ o with entries := o.entries.map fun x =>
        if x.order = e.order then { x with hw := true } else if near.any fun y => y.order = x.order then x else { x with hw := false } }, none)

/-! ### The internal source (R279) -/

/-- The implement that an INTERNAL unit counts for (R279). -/
def State.countsFor (s : State) (n : Nat) : Option Nat := (List.range 4).find? fun k => (s.implAt k).running && s.natOpt .impl k "ODO" = some n

/-- The integral of an INTERNAL unit is taken up to now, before its implement's speed changes (R279). -/
def State.integrateInternal (n : Nat) (s : State) : State :=
  match s.countsFor n with
  | none => s.setOdo n { s.odoAt n with accAt := s.now }
  | some k =>
    let o := s.odoAt n
    s.setOdo n { o with acc := o.acc + (s.implAt k).speed * ((s.now - o.accAt : Nat) : Int), accAt := s.now }

/-- The driving odometer of an implement that ends its work, where it is INTERNAL, holds its count, and its rate is 0 (R279). -/
def State.internalHold (k : Nat) (s : State) : State :=
  match s.natOpt .impl k "ODO" with
  | some n =>
    if s.word .odo n "SRC" = "INTERNAL" then
      let s1 := s.integrateInternal n
      s1.setOdo n { s1.odoAt n with rate := 0 }
    else s
  | none => s

/-! ### What ODO, CMP and SSP show -/

def odoStateWord (k : Nat) : String := ["STOPPED", "RUNNING", "FAULTED"].getD k "STOPPED"

/-- A read-only attribute of ODO.n. STATE, COUNT, SPEED, DIR and RATE are those of the snapshot where there is one (R287, R309). -/
def State.odoRead (s : State) (n : Nat) (name : String) : String :=
  let o := s.odoAt n
  let snap := o.snap.getD (o.count, 0, 0, o.down, 0)
  if name = "STATE" then odoStateWord o.state
  else if name = "COUNT" then toString snap.1
  else if name = "RATE" then toString snap.2.1
  else if name = "SPEED" then toString snap.2.2.1
  else if name = "DIR" then (if snap.2.2.2.1 then "DOWN" else "UP")
  else if name = "SPDMODE" then (if o.window then "WINDOW" else "PERIOD")
  else if name = "PROPOSED" then (match o.prop with
    | some p => toString p
    | none => "NONE")
  else ["OFF", "OK", "SUSPENDED", "IMPLAUS"].getD o.plst "OFF"

/-- A read-only attribute of SSP.p. -/
def State.sspRead (s : State) (p : Nat) (name : String) : String :=
  let x := s.sspAt p
  if name = "STATE" then (if x.running then "RUNNING" else "STOPPED")
  else if name = "VALUE" then toString x.value
  else if name = "RAW" then showHex 12 x.raw
  else if name = "ERR" then yesNo x.err
  else yesNo x.lost

/-- Counts of the compare list (R310). -/
def State.cmpRead (s : State) (n : Nat) (name : String) : String :=
  let es := (s.odoAt n).entries
  toString (if name = "HW" then (es.filter Entry.hw).length
    else if name = "QUEUE" then (es.filter fun e => !e.hw).length
    else if name = "HOST" then (es.filter Entry.host).length
    else (es.filter fun e => !e.host).length)

end Sys2Proof.Machine
end

