-- ==== Sys2Proof/Machine/PeerTx.lean ====
section
/-!
DEFINITION. Sys2Proof/Machine/PeerTx.lean: what other chapters send over the peer link (13_peer_link.md): frames into its transmit queue, answered frames, sync
time, and the commands of a lead.
-/
namespace Sys2Proof.Machine

/-- What is known of device a. -/
def State.node (s : State) (a : Nat) : Node_ := Tab.get {} s.peer.nodes a
def State.setNode (s : State) (a : Nat) (x : Node_) : State := { s with peer := { s.peer with nodes := Tab.set {} s.peer.nodes a x } }

/-- Sync time of an instant of SYSTIME (R453). -/
def State.syncOf (s : State) (t : Nat) : Int := (t : Int) + s.peer.offset
/-- SYSTIME of a sync time. -/
def State.sysOf (s : State) (t : Int) : Int := t - s.peer.offset

/-- A frame enters the transmit queue while the link is RUNNING; where the larder refuses a block it is not sent (R222, R451). -/
def State.peerPut (f : PeerTx) (s : State) : State :=
  if s.peer.state ≠ 1 then s
  else
    let need := ceilDiv (s.peerBytes + f.data.length) 256 - ceilDiv s.peerBytes 256
    if need ≠ 0 && !s.larderGives 4 need then s.larderRefused 4 else { s with peer := { s.peer with tx := s.peer.tx ++ [f] } }

/-- A frame of the device's own to address a, on the segment that its last heartbeat came from. -/
def State.peerTo (typ a : Nat) (data : List Nat) (s : State) : State :=
  s.peerPut { typ := typ, dst := a, src := s.nat .peer 0 "ADDR", data := data, onBridge := (s.node a).onBridge }

/-- An answered frame (R451): sent, and kept until its answer. -/
def State.peerAsk (typ a key : Nat) (data : List Nat) (s : State) : State :=
  let s1 := s.peerTo typ a data
  { s1 with peer := { s1.peer with waits := s1.peer.waits ++ [{ typ := typ, dst := a, key := key, data := data, sentAt := s1.now }] } }

/-- A sequence number after another, from 1, 65,535 followed by 1 (Table PEER-3). -/
def nextSeq (n : Nat) : Nat := if 65535 ≤ n then 1 else n + 1

/-- A binding that the lead holds: neither being given up nor of a START that failed. -/
def LeadBind.held (b : LeadBind) : Bool := b.unbindEnd.isNone && !b.failed

/-- UNBIND for a unit of node a (R458), under a REF of its own. -/
def State.askUnbind (a impl utype unit : Nat) (s : State) : State :=
  let x := s.node a
  (s.setNode a { x with ref := nextSeq x.ref }).peerAsk 0x05 a x.ref ([impl, utype, unit, 0, 0, 0] ++ leBytes x.ref 2)

/-- The remote unit of a BIND or SPARE value: node, UTYPE and unit (R458). -/
def remoteOf (b : List Nat) : Option (Nat × Nat × Nat) :=
  match b with
  | [5, a, n] => some (a, 0, n)
  | [6, a, n] => some (a, 2, n)
  | _ => none

/-- The remote unit that serves section k: its binding, or its spare once in service. -/
def State.secRemote (s : State) (k : Nat) : Option (Nat × Nat × Nat) :=
  remoteOf (s.list .sec k (if (s.secAt k).spareOn then "SPARE" else "BIND"))

/-- The local unit that serves section k. -/
def State.secUnit (s : State) (k : Nat) : Option Nat :=
  match s.list .sec k (if (s.secAt k).spareOn then "SPARE" else "BIND") with
  | [2, n] | [3, n] => some n
  | [4, n] => some (48 + n)
  | _ => none

/-- The section has no channel (R157, VIRTUAL). -/
def State.secVirtual (s : State) (k : Nat) : Bool := s.list .sec k "BIND" = [1]

/-- A FIRE of the lead for section k (R460): `act` 0 OFF, 1 ON, 2 OFF-NOW; its fire time in SYSTIME; the command reference. -/
def State.sendFire (k act ftime : Nat) (s : State) : State × Nat :=
  match s.secRemote k with
  | none => (s, 0)
  | some (a, ty, n) =>
    let x := s.node a
    let c := x.cseq
    let sec := s.secAt k
    let duty := if act = 1 && sec.duty ≠ 0 then sec.duty else 0xFFFF
    let s1 := (s.setNode a { x with cseq := nextSeq c }).traceLine 2 "PEER" "PEER FIRE"
    let s2 := s1.peerAsk 0x08 a c (leBytes c 2 ++ [s.owner .sec k, ty, n, act] ++ leBytes duty 2 ++ leBytes (toTwos 64 (s.syncOf ftime)) 8)
    ({ s2 with peer := { s2.peer with sent := s2.peer.sent ++ [{ node := a, cseq := c, sec := k, on := act = 1, now := act = 2, ftime := ftime }] } }, c)

/-- A CANCEL of a sent command (R463). -/
def State.sendCancel (k cseq : Nat) (s : State) : State :=
  match s.secRemote k with
  | none => s
  | some (a, ty, n) => s.peerAsk 0x09 a cseq (leBytes cseq 2 ++ [s.owner .sec k, ty, n])

/-- A DUTY frame for section k (R463). -/
def State.sendDuty (k duty : Nat) (s : State) : State :=
  match s.secRemote k with
  | none => s
  | some (a, ty, n) => s.peerTo 0x0B a ([s.owner .sec k, ty, n, 0] ++ leBytes duty 2)

end Sys2Proof.Machine
end

