-- ==== Sys2Proof/Machine/MetCore.lean ====
section
/-!
DEFINITION. Sys2Proof/Machine/MetCore.lean: the metering loop of a product (R245 to R265), in integers: flows in 10^-9 quantity unit per second, the output and the
integrator in 0.001 output unit while they are computed.
-/
namespace Sys2Proof.Machine

/-- The sections that carry product p (R247). -/
def State.carriers (s : State) (p : Nat) : List Nat := (s.sectionsOf (s.owner .prod p)).filter fun k => s.natOpt .sec k "PROD" = some p

/-- The carrying sections that are open for metering (R247): for VIRTUAL by the effective state. -/
def State.openCarriers (s : State) (p : Nat) : List Nat :=
  (s.carriers p).filter fun k => (if s.secVirtual k then (s.secAt k).eff else (s.secAt k).metOpen) && (s.secAt k).unserved.isNone

/-- |v| in mm/s of the product's implement; 0 while its motion is STOP, and for a free-running product (R252). -/
def State.prodSpeed (s : State) (p : Nat) : Nat :=
  let x := s.implAt (s.owner .prod p)
  if x.motion = 0 then 0 else x.speed.natAbs

/-- r_i in 0.01 rate unit (R250, R252): the target, or the section's prescription sample in force. -/
def State.secRate (s : State) (p k : Nat) : Nat :=
  let sec := s.secAt k
  if s.word .prod p "TARGETSRC" = "RX" && s.word .prod p "BASIS" = "AREA" && sec.hasRate then sec.rate else (s.prodAt p).target

/-- A rate or flow per minute in 0.01 unit, per second in 10^-9 unit. -/
def perSec (x : Nat) : Nat := x * nsS / 6000
/-- A flow in 10^-9 unit per second, in 0.01 unit per minute. -/
def perMin (x : Int) : Nat := min 100000000 (divRound (x * 6000) nsS).toNat

/-- Qt, the required flow (R252). -/
def State.required (s : State) (p : Nat) : Nat :=
  let os := s.openCarriers p
  let w (k : Nat) : Nat := s.nat .sec k "WIDTH"
  if s.word .prod p "BASIS" = "AREA" then
    ((os.map fun k => s.secRate p k * w k * (s.secAt k).sf * s.prodSpeed p).sum) / 1000000
  else
    let t := perSec (s.prodAt p).target
    if (s.carriers p).isEmpty then t
    else
      let all := (((s.carriers p).filter fun k => s.list .sec k "BIND" ≠ [0]).map w).sum
      if all = 0 then 0 else t * ((os.map fun k => w k * (s.secAt k).sf).sum) / (all * 1000)

/-- A pulse feeds the product (R253, R264): closed loop. -/
def State.closedLoop (s : State) (p : Nat) : Bool :=
  s.word .prod p "FB" = "ODO" && !((s.prodAt p).lost && s.word .prod p "FBLOSS" = "OPEN")

/-- q, the flow of the feedback (R246): the rate at the cycle start over CAL. -/
def State.feedback (s : State) (p : Nat) : Int :=
  match s.natOpt .prod p "FBODO" with
  | some m => ((s.odoRate m * nsS / s.nat .prod p "CAL" : Nat) : Int)
  | none => 0

/-- The filter of R254. -/
def filterFlow (qf : Option Int) (q : Int) (tauUs : Nat) : Int :=
  match qf with
  | none => q
  | some f => f + divRound ((q - f) * 20000) (tauUs + 20000)

/-- Feed-forward in 0.001 output unit (R256). -/
def State.feedForward (s : State) (p qt : Nat) : Int :=
  if s.word .prod p "OUT" = "NOZZLE" then 1000 * s.int .prod p "DNOM"
  else
    let full := perSec (s.nat .prod p "QFULL")
    1000 * s.int .prod p "UZERO" + (s.int .prod p "UFULL" - s.int .prod p "UZERO") * 1000 * qt / (if full = 0 then 1 else full)

/-- e in millionths (R255): 1000 per mille is a million. -/
def loopErr (qt : Nat) (qf : Int) : Int :=
  if qt = 0 then 0 else max (-1000000) (min 1000000 ((((qt : Int) - qf) * 1000000) / qt))

/-- u held to UMIN and UMAX and rounded, halves up (R255). -/
def holdOut (umin umax : Int) (x : Int) : Int := max umin (min umax ((x + 500) / 1000))

/-- The carrying sections' target, weighted by flow (R263, R265), in 0.01 rate unit. -/
def State.meanRate (s : State) (p : Nat) : Nat :=
  let ws := (s.openCarriers p).map fun k => (s.secRate p k * s.nat .sec k "WIDTH" * (s.secAt k).sf, s.secRate p k)
  let tot := (ws.map Prod.fst).sum
  if tot = 0 || s.word .prod p "BASIS" = "TIME" then (s.prodAt p).target else ((ws.map fun w => w.1 * w.2).sum) / tot

/-- A flow as a rate (R263), in 0.01 rate unit. -/
def State.rateOfFlow (s : State) (p : Nat) (q : Int) : Nat :=
  if s.word .prod p "BASIS" = "AREA" then
    let d := ((s.openCarriers p).map fun k => s.nat .sec k "WIDTH" * (s.secAt k).sf * s.prodSpeed p).sum
    if d = 0 then 0 else min 100000000 (divRound (q * 1000000) d).toNat
  else perMin q

/-! ### Output (R258 to R261) -/

/-- The loop's output reaches its unit: a target for VALVE, a duty for MOTOR; the unit is on while the output is above 0 (DESIGN CHOICE), its switch-on of class METER
for VALVE and PULSE for MOTOR. A refused increase counts in GRREF_CNT (R260). -/
def State.driveOut (p : Nat) (u : Nat) (s : State) : State :=
  match unitOfBind (s.list .prod p "OUTUNIT") with
  | none => s
  | some n =>
    if u = 0 then s.unitOff n
    else if s.word .prod p "OUT" = "VALVE" then
      let s1 := s.unitTarget n u
      let x := s1.unitAt n
      let s2 := if x.target ≠ u && x.ramp.isNone && !x.held then s1.bump "GRREF_CNT" p else s1
      if x.on || x.waiting.isSome then s2 else (s2.unitOn n 2 none).1
    else
      let s1 := if (s.unitAt n).duty = u && (s.unitAt n).dutyNew.isNone then s else s.unitDuty n u false
      if (s1.unitAt n).enabled then s1 else (s1.unitOn n 1 none).1

/-- The duty of section k (R261), held to DUTYMIN and DUTYMAX. -/
def State.nozzleDuty (s : State) (p k d : Nat) : Nat × Bool :=
  let num := d * s.secRate p k * (s.secAt k).sf * s.prodSpeed p
  let den := s.nat .prod p "NOMRATE" * s.nat .prod p "NOMSPD" * 1000
  let x := (2 * num + den) / (2 * den)
  let y := max (s.nat .prod p "DUTYMIN") (min (s.nat .prod p "DUTYMAX") x)
  (y, x ≠ y)

/-- Every open carrying section receives its duty, on its local unit at the next period or by a DUTY frame (R261, R463). -/
def State.nozzles (p d : Nat) (s : State) : State :=
  overList (s.openCarriers p) (fun k a =>
    let r := s.nozzleDuty p k d
    let sec := a.secAt k
    let a1 := if r.2 && !sec.clip then a.bump "CLIP_CNT" p else a
    let a2 := a1.setSec k { sec with duty := r.1, clip := r.2 }
    if sec.duty = r.1 then a2
    else match a2.secUnit k with
      | some u => a2.unitDuty u r.1 false
      | none => a2.sendDuty k r.1) s

/-- The product's output takes effect. -/
def State.applyOut (p : Nat) (u : Int) (s : State) : State :=
  let s1 := s.setProd p { s.prodAt p with out := u }
  if s.word .prod p "OUT" = "NOZZLE" then s1.nozzles p u.toNat else s1.driveOut p u.toNat

/-! ### One computation of the loop -/

/-- The integrator after a cycle (R255): held against windup at UMAX and UMIN, advanced by KI per second, held to ILIM. -/
def State.integrate (s : State) (p : Nat) (e : Int) : Int :=
  let x := s.prodAt p
  let lim := 1000 * s.int .prod p "ILIM"
  let wound := (s.int .prod p "UMAX" ≤ x.out && 0 < e) || (x.out ≤ s.int .prod p "UMIN" && e < 0)
  let i := if wound then x.integ else x.integ + divRound (s.int .prod p "KI" * e) 50000
  max (-lim) (min lim i)

/-- u from feed-forward, error and integrator (R255, R262). -/
def State.loopOut (s : State) (p qt : Nat) (e i : Int) : Int :=
  let umin := s.int .prod p "UMIN"
  let umax := s.int .prod p "UMAX"
  if s.closedLoop p then holdOut umin umax (s.feedForward p qt + divRound (s.int .prod p "KP" * e) 1000 + i)
  else if s.word .prod p "OUT" = "NOZZLE" then s.int .prod p "DNOM" else holdOut umin umax (s.feedForward p qt)

/-- Output while feedback is lost with FBLOSS=HOLD is held (R264). -/
def State.outHeld (s : State) (p : Nat) : Bool := (s.prodAt p).lost && s.word .prod p "FBLOSS" = "HOLD"

/-- Prescription samples whose instant has come apply (R250). -/
def State.applySamples (p : Nat) (s : State) : State :=
  overList (s.carriers p) (fun k a =>
    let sec := a.secAt k
    match (sec.samples.filter fun x => x.1 ≤ a.now).getLast? with
    | none => a
    | some x => a.setSec k { sec with samples := sec.samples.filter (fun y => !(y.1 ≤ a.now)), rate := x.2, hasRate := true }) s

/-- ACTUAL, measured or estimated (R262, R263); the estimate where UFULL equals UZERO is a free value of its operands. -/
def State.actualOf (s : State) (p qt : Nat) (qf u : Int) : Nat :=
  if qt = 0 then 0
  else if s.closedLoop p then s.rateOfFlow p qf
  else if s.word .prod p "OUT" = "NOZZLE" then s.meanRate p
  else
    let den := s.int .prod p "UFULL" - s.int .prod p "UZERO"
    if den ≤ 0 then min 100000000 (Config.openLoopEstimate (s.nat .prod p "QFULL") u (s.int .prod p "UZERO"))
    else s.rateOfFlow p (((perSec (s.nat .prod p "QFULL") : Int) * (u - s.int .prod p "UZERO")) / den)

/-- A change in the set of sections open for metering (R257, R261): for VALVE and MOTOR, Qt, feed-forward and output at once, the integrator scaled by the flows and
not advanced; for NOZZLE the duties, from DNOM in open loop (R262). -/
def State.openSetChanged (p : Nat) (s0 : State) : State :=
  let s := s0.applySamples p
  let x := s.prodAt p
  if x.state ≠ 1 then s
  else
    let qt := s.required p
    if s.word .prod p "OUT" = "NOZZLE" then
      let d := if qt = 0 || s.closedLoop p then x.out else s.int .prod p "DNOM"
      (s.setProd p { x with qt := qt, idle := qt = 0, out := d }).nozzles p d.toNat
    else
      let i := if 0 < qt && 0 < x.qt then divRound (x.integ * qt) x.qt.toNat else x.integ
      let s1 := s.setProd p { x with qt := qt, integ := i, idle := qt = 0 }
      if qt = 0 then s1.applyOut p (if s.word .prod p "IDLEOUT" = "ZERO" then s.int .prod p "UMIN" else x.out)
      else if s.outHeld p then s1
      else s1.applyOut p (s1.loopOut p qt (loopErr qt (x.qf.getD 0)) i)

/-- Section k enters or leaves the open set (R247); its product takes the change. -/
def State.setMetOpen (k : Nat) (b : Bool) (s : State) : State :=
  let sec := s.secAt k
  if sec.metOpen = b then s
  else
    let s1 := s.setSec k { sec with metOpen := b }
    match s.natOpt .sec k "PROD" with
    | some p => s1.openSetChanged p
    | none => s1

/-! ### Stopping, and what PROD shows -/

/-- The product stops metering: its output unit takes its safe state, and its nozzle sections close with the planner (R249, R266). -/
def State.stopProd (p : Nat) (state : Nat) (s : State) : State :=
  let x := s.prodAt p
  let s1 := s.setProd p { x with state := state, stopDue := false, lost := false, est := false, idle := false, sat := false, alarm := 0, qf := none, integ := 0, qt := 0
                                 lowAt := none, highAt := none, okAt := none, satAt := none }
  match unitOfBind (s.list .prod p "OUTUNIT") with
  | some u => s1.unitSafe u false
  | none => s1

/-- Stop a RUNNING product. -/
def State.stopProdRun (p : Nat) (s : State) : State := if (s.prodAt p).state = 1 then s.stopProd p 0 else s

/-- PROD.p OUTLOST: the output unit or the metering island is gone (R267, Table MAC-6). -/
def State.prodUnmetered (p : Nat) (unit : String) (s : State) : State :=
  if (s.prodAt p).state ≠ 1 then s
  else (s.stopProd p 2).ev "MET" (toPart (s.owner .prod p)) ("PROD." ++ toString p ++ " OUTLOST unit=" ++ unit)

def prodStateWord (k : Nat) : String := ["STOPPED", "RUNNING", "UNMETERED"].getD k "STOPPED"

/-- A read-only attribute of PROD.p. -/
def State.prodRead (s : State) (p : Nat) (name : String) : String :=
  let x := s.prodAt p
  if name = "STATE" then prodStateWord x.state
  else if name = "ACTUAL" then toString x.actual
  else if name = "FLOW" then toString (perMin (x.qf.getD 0))
  else if name = "REQ" then toString (perMin x.qt)
  else if name = "OUTPUT" then toString x.out
  else ["NONE", "LOW", "HIGH"].getD x.alarm "NONE"

end Sys2Proof.Machine
end

