-- ==== Sys2Proof/Machine/Metering.lean ====
section
/-!
DEFINITION. Sys2Proof/Machine/Metering.lean: the commands of the products (07_metering.md).
-/
namespace Sys2Proof.Machine

/-! ### The cycle (R252 to R265) -/

/-- EV PROD.p …, to the owner's sessions. -/
def State.prodEv (p : Nat) (t : String) (s : State) : State := s.ev "MET" (toPart (s.owner .prod p)) ("PROD." ++ toString p ++ " " ++ t)

/-- The number of the feedback unit as events give it. -/
def State.fbText (s : State) (p : Nat) : String := match s.natOpt .prod p "FBODO" with
  | some m => toString m
  | none => "NONE"

/-- A pulse has come since feedback was lost: closed loop again, but not after a retirement (R264). -/
def State.fbReturn (p : Nat) (s : State) : State :=
  let x := s.prodAt p
  let pulse := match (s.natOpt .prod p "FBODO").bind fun m => (s.odoAt m).lastEdge with
    | some e => decide (x.lossAt < e)
    | none => false
  if x.lost && !x.lostRet && pulse then (s.setProd p { x with lost := false }).prodEv p ("FBOK odo=" ++ s.fbText p) else s

/-- Since when a condition has held. -/
def since (c : Bool) (old : Option Nat) (now : Nat) : Option Nat := if c then some (old.getD now) else none

/-- A condition has held for a time. -/
def heldFor (start : Option Nat) (now d : Nat) : Bool := match start with
  | some t => decide (t + d ≤ now)
  | none => false

/-- Rate alarms (R265), in a cycle that is closed loop and not idle. -/
def State.rateAlarms (p : Nat) (s : State) : State :=
  let x := s.prodAt p
  let a := x.actual
  let t := s.meanRate p
  let pct := s.nat .prod p "ALARMPCT"
  let d := s.ns .prod p "ALARMTIME"
  let low := since (a * 1000 < t * (1000 - pct)) x.lowAt s.now
  let high := since (t * (1000 + pct) < a * 1000) x.highAt s.now
  let ok := since (2000 * ((a : Int) - t).natAbs < pct * t) x.okAt s.now
  let s1 := s.setProd p { x with lowAt := low, highAt := high, okAt := ok }
  let raise (k : Nat) (w : String) (b : State) : State :=
    ((b.setProd p { b.prodAt p with alarm := k }).prodEv p (w ++ " actual=" ++ toString a ++ " target=" ++ toString t)).bump "ALARM_CNT" p
  if x.alarm ≠ 1 && heldFor low s.now d then raise 1 "RATELOW" s1
  else if x.alarm ≠ 2 && heldFor high s.now d then raise 2 "RATEHIGH" s1
  else if x.alarm ≠ 0 && heldFor ok s.now d then (s1.setProd p { s1.prodAt p with alarm := 0 }).prodEv p ("RATEOK actual=" ++ toString a)
  else s1

/-- Saturation (R265): once for each entry. -/
def State.satAlarm (p : Nat) (s : State) : State :=
  let x := s.prodAt p
  let at_ := x.out = s.int .prod p "UMAX" || x.out = s.int .prod p "UMIN"
  let start := since at_ x.satAt s.now
  let s1 := s.setProd p { x with sat := at_, satAt := start, satDone := x.satDone && at_ }
  if !x.satDone && heldFor start s.now (s.ns .prod p "ALARMTIME") then
    ((s1.setProd p { s1.prodAt p with satDone := true }).prodEv p ("SAT u=" ++ toString x.out)).bump "ALARM_CNT" p
  else s1

/-- One product's cycle (R255). -/
def prodCycle (p : Nat) (s0 : State) : State :=
  if (s0.prodAt p).state ≠ 1 then s0
  else if (s0.prodAt p).stopDue then (s0.stopProd p 0).updatePart (s0.owner .prod p)
  else
    let s := (s0.setProd p { s0.prodAt p with target := s0.nat .prod p "TARGET" }).applySamples p |>.fbReturn p
    let x := s.prodAt p
    let qt := s.required p
    let closed := s.closedLoop p
    let qf : Option Int := if s.word .prod p "FB" = "ODO" && !x.lost then some (filterFlow x.qf (s.feedback p) (s.nat .prod p "FBTAU")) else x.qf
    let e := if closed && !x.lost then loopErr qt (qf.getD 0) else 0
    let i := if closed && !x.lost && qt ≠ 0 then s.integrate p e else x.integ
    let s1 := s.setProd p { x with qt := qt, qf := qf, integ := i, idle := qt = 0 }
    let u := if qt = 0 then (if s.word .prod p "IDLEOUT" = "ZERO" then s.int .prod p "UMIN" else x.out)
      else if s.outHeld p then x.out else s1.loopOut p qt e i
    let s2 := s1.applyOut p u
    let above := qt ≠ 0 && s.int .prod p "UZERO" < u
    let act := s2.actualOf p qt (qf.getD 0) u
    let s3 := s2.setProd p { s2.prodAt p with actual := act, qty := x.qty + act * (20 * nsMs), est := !closed, silent := since above x.silent s.now }
    let s3 := s3.traceLine 3 "MET" ("PROD." ++ toString p ++ " CYCLE req=" ++ s3.prodRead p "REQ" ++ " flow=" ++ s3.prodRead p "FLOW" ++ " out=" ++ s3.prodRead p "OUTPUT")
    if closed && !x.lost && qt ≠ 0 then (s3.rateAlarms p).satAlarm p
    else s3.setProd p { s3.prodAt p with lowAt := none, highAt := none, okAt := none, satAt := none
                                         sat := u = s.int .prod p "UMAX" || u = s.int .prod p "UMIN" }

/-- METERING_CYCLE (R255), every 20 ms. -/
def execMeteringCycle (s : State) : Host.Outcome State Fault Refusal := .next (overList (List.range 8) prodCycle (s.tick "METER" 0 (20 * nsMs)))

/-- Feedback of product p is lost (R264): `ret` by retirement of its unit's island. -/
def State.fbLost (p : Nat) (ret : Bool) (s : State) : State :=
  let x := s.prodAt p
  if x.state ≠ 1 || x.lost || s.word .prod p "FB" ≠ "ODO" then s
  else
    let s1 := ((s.setProd p { x with lost := true, lostRet := ret, lossAt := s.now }).prodEv p ("FBLOST odo=" ++ s.fbText p)).bump "FBLOST_CNT" p
    if s.word .prod p "FBLOSS" = "CLOSE" then (s1.stopProd p 0).updatePart (s.owner .prod p) else s1

/-- FB_TIMEOUT (R264, R271): for FBTIMEOUT flow was required, u above UZERO, and no pulse arrived. -/
def execFbTimeout (p : Nat) (s : State) : Host.Outcome State Fault Refusal :=
  let x := s.prodAt p
  match x.silent, s.natOpt .prod p "FBODO" with
  | some t, some m =>
    if x.state = 1 && s.word .prod p "FB" = "ODO" && !x.lost then
      .next ((s.advanceTo (max t (((s.odoAt m).lastEdge).getD 0) + s.ns .prod p "FBTIMEOUT")).fbLost p false)
    else .next s
  | _, _ => .next s

/-! ### START, STOP and TARGET (R248, R253, R259, R266) -/

/-- The odometry unit drives a RUNNING implement. -/
def State.odoDrives (s : State) (m : Nat) : Bool := (List.range 4).any fun k => (s.implAt k).running && s.natOpt .impl k "ODO" = some m

/-- The odometry unit feeds a RUNNING product. -/
def State.odoFeeds (s : State) (m : Nat) : Bool :=
  (List.range 8).any fun p => (s.prodAt p).state = 1 && s.word .prod p "FB" = "ODO" && s.natOpt .prod p "FBODO" = some m

/-- What START PROD finds about the output (R259, R266). -/
def State.outputErrs (s : State) (p : Nat) (tok : String) : List Err :=
  let own := s.owner .prod p
  let b := s.list .prod p "OUTUNIT"
  let out := s.word .prod p "OUT"
  if out = "NOZZLE" then
    errIf (b ≠ [0]) .attr (some tok) ++
    ((s.carriers p).filterMap fun k =>
      match (unitOfBind (s.list .sec k "BIND")).toList ++ (unitOfBind (s.list .sec k "SPARE")).toList |>.find? fun u => s.uWord u "MODE" ≠ "PWM" with
      | some u => some ⟨.attr, some (unitText u)⟩
      | none => none)
  else match unitOfBind b with
    | none => [⟨.attr, some tok⟩]
    | some u =>
      let top := if out = "MOTOR" then decide (1000 < s.nat .prod p "UMAX") else !s.targetOk u (s.nat .prod p "UMAX")
      let uz := s.int .prod p "UZERO"
      let uf := s.int .prod p "UFULL"
      s.bindErrs b own [if out = "VALVE" then "PROPORTIONAL" else "PWM"]
        ++ errIf ((s.unitAt u).retired) .retired
        ++ errIf ((List.range 256).any fun k => s.secNames k u false || s.secNames k u true) .attr (some (unitText u))
        ++ errIf top .range (some tok)
        ++ errIf (!(s.int .prod p "UMIN" ≤ uz && uz ≤ uf && uf ≤ s.int .prod p "UMAX")) .range (some tok)
        ++ errIf (s.unitInUse u) .state

/-- What START PROD finds about the feedback (R253, R266). -/
def State.fbErrs (s : State) (p : Nat) (tok : String) : List Err :=
  if s.word .prod p "FB" = "NONE" then []
  else match s.natOpt .prod p "FBODO" with
    | none => [⟨.attr, some tok⟩]
    | some m => errIf (s.owner .odo m ≠ s.owner .prod p) .owner
        ++ errIf (s.odoDrives m || s.odoFeeds m || (s.odoAt m).state ≠ 1) .state

/-- The product begins (R266). -/
def State.beginProd (p : Nat) (s : State) : State :=
  let nozzle := s.word .prod p "OUT" = "NOZZLE"
  let s1 := s.setProd p { state := 1, target := s.nat .prod p "TARGET", out := if nozzle then s.int .prod p "DNOM" else 0 }
  let s2 := match unitOfBind (s.list .prod p "OUTUNIT") with
    | some u => if nozzle then s1 else
      let a := s1.engage u
      a.setUnit u { a.unitAt u with target := 0, duty := 0 }
    | none => s1
  overList (s.carriers p) (fun k a => a.setSec k { a.secAt k with rx := none }) s2

/-- START_PROD (R266). -/
def execStartProd (sess : Nat) (ph : Phrase) (s : State) : Host.Outcome State Fault Refusal :=
  .next (runRow "START_PROD" sess ph (fun s => perInst sess ph (fun p s =>
    let tok := ph.nounTok
    Ans.eff (s.unitErrs sess ph .prod (some p) ++ extraAttrs ph [] ++ s.outputErrs p tok ++ s.fbErrs p tok
        ++ errIf (s.word .prod p "BASIS" = "AREA" && (s.carriers p).isEmpty) .attr (some tok)
        ++ errIf (s.nat .prod p "DUTYMAX" < s.nat .prod p "DUTYMIN") .range (some tok)
        ++ errIf ((s.prodAt p).state ≠ 0) .state ++ s.faultedErr (s.owner .prod p))
      fun s => (s.beginProd p).updatePart (s.owner .prod p)) s) s)

/-- STOP_PROD (R266): at the next metering cycle, or at once with NOW (R61, R255). -/
def execStopProd (sess : Nat) (ph : Phrase) (s : State) : Host.Outcome State Fault Refusal :=
  .next (runRow "STOP_PROD" sess ph (fun s => perInst sess ph (fun p s =>
    Ans.eff (s.unitErrs sess ph .prod (some p) ++ extraAttrs ph [])
      fun s => if (s.prodAt p).state = 1 && !ph.adv .now then s.setProd p { s.prodAt p with stopDue := true } else (s.stopProdRun p).updatePart (s.owner .prod p)) s) s)

/-- SET of PROD (R118, R268): TARGET is its only run-time attribute; with NOW a new target acts at once (R273), else from the next boundary. -/
def prodSet (sess : Nat) (ph : Phrase) (s : State) : Ans :=
  perInst sess ph (fun p s =>
    let only := ph.attrs.all fun a => a.name = "TARGET"
    Ans.eff (s.unitErrs sess ph .prod (some p) ++ setAttrErrs prodAttrs (s.sessAt sess).super ph
        ++ errIf ((s.prodAt p).state = 1 && !only) .state)
      fun s =>
        let s1 := storeAttrs prodAttrs .prod p "" ph s
        if ph.has "TARGET" && ph.adv .now && (s.prodAt p).state = 1 then
          (s1.setProd p { s1.prodAt p with target := s1.nat .prod p "TARGET" }).openSetChanged p
        else s1) s

/-- SET_PROD_TARGET (R273). -/
def execSetProdTarget (sess : Nat) (ph : Phrase) (s : State) : Host.Outcome State Fault Refusal :=
  .next (runRow "SET_PROD_TARGET" sess ph (prodSet sess ph) s)

end Sys2Proof.Machine
end

