-- ==== Sys2Proof/Machine/SecCore.lean ====
section
/-!
DEFINITION. Sys2Proof/Machine/SecCore.lean: what a section's commands do (05_switch_timing.md; R154 to R158, R413 to R415, R436): its triggers, their grants, firing and
release, commands that act at once, the effective state, spares and UNSERVED, and the end of an implement's work.
-/
namespace Sys2Proof.Machine

/-! ### The triggers of a section (R173) -/

/-- The driving odometer of the section's implement (R28). -/
def State.secOdo (s : State) (k : Nat) : Option Nat := s.natOpt .impl (s.owner .sec k) "ODO"

/-- An entry that carries a boundary of section k. -/
def Entry.ofSec (e : Entry) (k : Nat) : Bool := !e.host && e.act = 2 && e.unit = k

/-- The pending triggers of section k. -/
def State.trigsOf (s : State) (k : Nat) : List Entry :=
  match s.secOdo k with
  | some d => ((s.odoAt d).entries.filter fun e => e.ofSec k)
  | none => []

/-- The nearest pending trigger: a committed one before the others (R152, R194). -/
def State.nextTrig (s : State) (k : Nat) : Option Entry :=
  let ts := s.trigsOf k
  match ts.find? Entry.commit with
  | some e => some e
  | none => ts.head?

/-- A grant booked for unit u's later switch-on is released (R434). -/
def State.dropBooked (u : Nat) (s : State) : State :=
  { s with grants := { s.grants with list := s.grants.list.filter fun g => !(g.who = u && g.booked) } }

/-- What goes with a trigger that is discarded (R196, R463): its booked grant, and the fire command already sent. -/
def State.dropTrig (k : Nat) (e : Entry) (s : State) : State :=
  let s1 := if e.gstart.isSome then (match s.secUnit k with
    | some u => s.dropBooked u
    | none => s) else s
  if e.shadow && e.cseq ≠ 0 then
    let s2 := { s1 with peer := { s1.peer with sent := s1.peer.sent.filter fun c => !(c.sec = k && c.cseq = e.cseq) } }
    s2.sendCancel k e.cseq
  else s1

/-- The triggers of section k that satisfy a condition are discarded (R154, R170, R173, R196). -/
def State.dropTrigs (k : Nat) (p : Entry → Bool) (s : State) : State :=
  match s.secOdo k with
  | none => s
  | some d =>
    let gone := (s.odoAt d).entries.filter fun e => e.ofSec k && p e
    let s1 := s.setOdo d { s.odoAt d with entries := (s.odoAt d).entries.filter fun e => !(e.ofSec k && p e) }
    overList gone (fun e a => a.dropTrig k e) s1

/-- Commands fired and not yet released are withdrawn, with the grants of switch-ons. -/
def State.dropHeld (k : Nat) (s : State) : State :=
  let x := s.secAt k
  let s1 := if x.held.any Held.on then (match s.secUnit k with
    | some u => s.dropBooked u
    | none => s) else s
  s1.setSec k { s1.secAt k with held := [] }

/-! ### Times -/

/-- The delay of a command: ONDELAY or OFFDELAY, ns. -/
def State.delayOf (s : State) (k : Nat) (on : Bool) : Nat := s.ns .sec k (if on then "ONDELAY" else "OFFDELAY")
/-- GRANTALLOW of implement n, ns. -/
def State.allow (s : State) (n : Nat) : Nat := s.ns .impl n "GRANTALLOW"

/-- The effective state becomes `on` at an instant; changes due at or after it give way (R158). -/
def State.dueEff (k : Nat) (on : Bool) (t : Nat) (s : State) : State :=
  let x := s.secAt k
  s.setSec k { x with effDue := (x.effDue.filter fun e => e.1 < t) ++ [(t, on)] }

/-! ### Commands that act at once (R31, R154, R155) -/

/-- The lead may send a switch-on: the link runs and the device is synced (R462). -/
def State.synced (s : State) : Bool := s.peer.state = 1 && s.peer.synced

/-- A switch-on of a remote section: a FIRE 12 ms and GRANTALLOW ahead (R414); unsynced it counts as refused (R462). -/
def State.remoteOn (k : Nat) (s : State) : State :=
  if s.synced then
    let t := s.now + 12 * nsMs + s.allow (s.owner .sec k)
    ((s.sendFire k 1 t).1).dueEff k true (t + s.delayOf k true)
  else s.setSec k { s.secAt k with refused := true }

/-- Switch-ons sent to the node without a trigger whose fire time is still to come are withdrawn (R463). -/
def State.cancelDirect (k : Nat) (s : State) : State :=
  let gone := s.peer.sent.filter fun c => c.sec = k && c.on && !c.applied && !((s.trigsOf k).any fun e => e.cseq = c.cseq)
  overList gone (fun c a => { a with peer := { a.peer with sent := a.peer.sent.filter fun d => d ≠ c } }.sendCancel k c.cseq) s

/-- The section's unit is switched on at once, as unscheduled SECTION demand (R414, R431). -/
def State.secOnNow (k : Nat) (s : State) : State :=
  match s.secUnit k, s.secRemote k with
  | some u, _ =>
    let r := s.unitOn u 0 none
    if r.2 = .refused then r.1.setSec k { r.1.secAt k with refused := true }
    else ((r.1.setSec k { r.1.secAt k with cmdOn := true, refused := false }).setMetOpen k true).dueEff k true (s.now + s.delayOf k true)
  | none, some _ => (s.setSec k { s.secAt k with cmdOn := true, refused := false }).remoteOn k
  | none, none => (s.setSec k { s.secAt k with cmdOn := true }).dueEff k true (s.now + s.delayOf k true)

/-- The section's unit is switched off at once; a switch-off never waits (R31, R431, R461). -/
def State.secOffNow (k : Nat) (s : State) : State :=
  let s0 := s.dropHeld k
  let s1 := s0.setSec k { s0.secAt k with cmdOn := false, refused := false }
  let s2 := match s1.secUnit k, s1.secRemote k with
    | some u, _ => (s1.unitOff u).setMetOpen k false
    | none, some _ => (((s1.cancelDirect k).sendFire k 2 s1.now).1).setMetOpen k false
    | none, none => s1
  s2.dueEff k false (s.now + s.delayOf k false)

/-- A command that acts at once; an UNSERVED section is neither fired nor marked (R172). -/
def State.secNow (k : Nat) (on : Bool) (s : State) : State :=
  if (s.secAt k).unserved.isSome then s else if on then s.secOnNow k else s.secOffNow k

/-! ### Booking, firing and release (R180 to R183) -/

/-- The grant of a committed switch-on is booked for its release instant (R180, R435): the start granted, or refused. -/
def State.bookTrig (k : Nat) (tq : Nat) (e : Entry) (s : State) : State × Entry :=
  match s.secUnit k with
  | none => (s, e)
  | some u =>
    if !e.opens || !s.needsGrant u then (s, e)
    else
      let r := s.askSwitchOn u 0 tq true
      match r.2 with
      | some d => (r.1, { e with gstart := some d.start })
      | none => (r.1, { e with grefused := true })

/-- A trigger fires (R181, R182, R188): a shadow entry only moves the effective state; a local command is held until its release. -/
def State.fireTrig (e : Entry) (s : State) : State :=
  let k := e.unit
  let n := s.owner .sec k
  let s0 := s.bump "TRIG_CNT" n
  let s1 := if e.commit || e.nolead then s0 else s0.bump "EARLY_CNT" n
  let ga := if e.nolead then 0 else s.allow n
  if (s.secAt k).unserved.isSome then s1
  else if e.shadow then s1.dueEff k e.opens (s.now + ga + s.delayOf k e.opens)
  else
    let r := if e.opens && e.gstart.isNone && !e.grefused then s1.bookTrig k s.now e else (s1, e)
    let s2 := r.1
    if e.opens && r.2.grefused then s2.setSec k { s2.secAt k with refused := true }
    else
      let late := s.now + ga
      let x := s2.secAt k
      s2.setSec k { x with held := x.held ++ [{ on := e.opens, due := max late (if e.opens then r.2.gstart.getD 0 else 0), late := late }] }

/-- The held command that is due first. -/
def firstHeld : List Held → Option Held
  | [] => none
  | h :: hs => match firstHeld hs with
    | none => some h
    | some g => if g.due < h.due then some g else some h

/-- Take a held command out; a switch-off takes with it the switch-ons that fired before it and still wait (R391). -/
def takeHeld (h : Held) : List Held → List Held
  | [] => []
  | x :: xs => if x = h then xs else if !h.on && x.on then takeHeld h xs else x :: takeHeld h xs

/-- COMMAND_RELEASE (R182, R183): the section's next command is released to its unit; the effective state follows at the boundary point (R158). -/
def execCommandRelease (sec : Nat) (s : State) : Host.Outcome State Fault Refusal :=
  match firstHeld (s.secAt sec).held with
  | none => .next s
  | some h =>
    let k := sec
    let s0 := s.advanceTo h.due
    let s1 := s0.setSec k { s0.secAt k with held := takeHeld h (s0.secAt k).held }
    if (s1.secAt k).unserved.isSome then .next s1
    else match s1.secUnit k with
      | none => .next s1
      | some u =>
        if h.on then
          let d := (s1.grantOf u).bind fun g => if g.booked then some { start := g.start, dur := g.dur, charge := g.charge, ir := g.ir : Decision } else none
          let r := s1.unitOn u 0 d
          if r.2 = .refused then .next (r.1.setSec k { r.1.secAt k with refused := true })
          else
            let s2 := if h.late < h.due then r.1.bump "GRLATE_CNT" (s.owner .sec k) else r.1
            .next (((s2.setSec k { s2.secAt k with cmdOn := true }).setMetOpen k true).dueEff k true (h.late + s.delayOf k true))
        else
          .next ((((s1.setSec k { s1.secAt k with cmdOn := false }).unitOff u).setMetOpen k false).dueEff k false (h.late + s.delayOf k false))

/-- EFFECTIVE_STATE_CHANGE (R158): the next change of the effective state; for VIRTUAL it changes what is open for metering (R247, R257). -/
def execEffectiveStateChange (sec : Nat) (s : State) : Host.Outcome State Fault Refusal :=
  match (s.secAt sec).effDue with
  | [] => .next s
  | e :: rest =>
    let s0 := s.advanceTo e.1
    let x := s0.secAt sec
    let sa := s0.setSec sec { x with effDue := rest, eff := e.2, logDue := x.logDue || x.eff ≠ e.2 }
    let s1 := if x.eff ≠ e.2 then sa.traceLine 2 "SWT" ("SEC." ++ toString sec ++ " EFF") else sa
    let s2 := if x.eff ≠ e.2 && s1.cellar.logMerge.isNone then { s1 with cellar := { s1.cellar with logMerge := some (s1.now + 100 * nsMs) } } else s1
    match s2.secVirtual sec, s2.natOpt .sec sec "PROD" with
    | true, some p => if x.eff = e.2 then .next s2 else .next (s2.openSetChanged p)
    | _, _ => .next s2

/-- REMOTE_FIRE_TIME (R247): the fire time of the section's next command to its node is reached; the section enters or leaves the open set. -/
def execRemoteFireTime (sec : Nat) (s : State) : Host.Outcome State Fault Refusal :=
  match s.peer.sent.find? fun c => c.sec = sec && !c.applied && !c.now with
  | none => .next s
  | some c =>
    let s0 := s.advanceTo c.ftime
    let s1 := { s0 with peer := { s0.peer with sent := s0.peer.sent.map fun d => if d = c then { d with applied := true } else d } }
    let s2 := { s1 with peer := { s1.peer with sent := s1.peer.sent.filter fun d => !(d.sec = sec && d.applied && d.acked) } }
    .next ((s2.setSec sec { s2.secAt sec with cmdOn := c.on }).setMetOpen sec c.on)

/-! ### Spares and UNSERVED (R413 to R415) -/

/-- The section is without a unit in service (R415). -/
def State.unserve (k : Nat) (cause : String) (s : State) : State :=
  if (s.secAt k).unserved.isSome then s
  else
    let s1 := ((s.dropTrigs k fun _ => true).dropHeld k).setMetOpen k false
    (s1.setSec k { s1.secAt k with unserved := some cause, cmdOn := false, eff := false, effDue := [], refused := false }).ev "DIA"
      (toPart (s.owner .sec k)) ("SEC." ++ toString k ++ " UNSERVED cause=" ++ cause)

/-- The spare of section k can serve: it has one, unused and not itself gone. -/
def State.spareReady (s : State) (k : Nat) : Bool :=
  let x := s.secAt k
  let b := s.list .sec k "SPARE"
  b ≠ [0] && !x.spareOn && !x.spareGone && match b with
    | [2, n] | [3, n] => !(s.unitAt n).retired
    | [4, n] => !(s.unitAt (48 + n)).retired
    | [5, a, _] | [6, a, _] => (s.node a).present
    | _ => false

/-- The section's binding is retired (R414, R415): its spare takes over, once, with its switch-on released at once where the section is open; else UNSERVED. -/
def State.bindGone (k : Nat) (cause : String) (s : State) : State :=
  if (s.secAt k).unserved.isSome then s
  else if s.spareReady k then
    let s1 := s.setMetOpen k false
    let s2 := (s1.setSec k { s1.secAt k with spareOn := true, cmdOn := false, refused := false }).ev "DIA" (toPart (s.owner .sec k))
      ("SEC." ++ toString k ++ " SPARE unit=" ++ showBind (s.list .sec k "SPARE"))
    if (s.secAt k).eff then s2.secOnNow k else s2
  else s.unserve k cause

/-- The sections of RUNNING implements. -/
def State.plannedSecs (s : State) : List Nat :=
  (List.range 256).filter fun k => (s.implAt (s.owner .sec k)).running && s.list .sec k "BIND" ≠ [0]

/-- Section k closes with reason SAFE: its unit is off until a new switch-on reaches it, which the next planner cycle decides (R384, R614, R651). -/
def State.secSafe (k : Nat) (s : State) : State :=
  let s0 := s.setSec k { s.secAt k with decided := false, reason := 10, refused := false }
  if (s.secAt k).unserved.isSome then s0
  else
    let s1 := s0.dropTrigs k fun _ => true
    if (s1.secAt k).cmdOn || (s1.secAt k).held.any Held.on then s1.secOffNow k else s1

/-- The sections whose units a die carries close. -/
def State.dieSecs (b : Bool) (s : State) : State :=
  overList (s.plannedSecs.filter fun k => match s.secUnit k with
    | some u => unitDieB u = b
    | none => false) State.secSafe s

/-- A switch-on of unit u that waits for its grant's start does not come: its grant is released, and its section's switch-on counts as refused (R434, R614). -/
def State.waitingRefused (u : Nat) (s : State) : State :=
  if (s.unitAt u).waiting.isNone then s
  else
    let s1 := (s.setUnit u { s.unitAt u with waiting := none, pulseEnd := none }).dropGrants u
    overList (s1.plannedSecs.filter fun k => s1.secUnit k = some u && (s1.secAt k).cmdOn) (fun k a =>
      let x := a.secAt k
      (a.setSec k { x with cmdOn := false, refused := true, effDue := x.effDue.filter fun e => !e.2 }).setMetOpen k false) s1

/-- A binding value in service or waiting as spare is gone for section k: the unit bindings `g` says so. -/
def State.secLoses (g : List Nat → Bool) (cause : String) (k : Nat) (s : State) : State :=
  let x := s.secAt k
  let s1 := if g (s.list .sec k "SPARE") then s.setSec k { x with spareGone := true } else s
  if g (s.list .sec k (if x.spareOn then "SPARE" else "BIND")) then s1.bindGone k cause else s1

/-- Local unit u is retired: the sections that use it, and the product it is the output of (R267, R412, Table MAC-6). -/
def State.unitLost (u : Nat) (cause : String) (s : State) : State :=
  let s1 := overList s.plannedSecs (State.secLoses (fun b => unitOfBind b = some u) cause) s
  overList ((List.range 8).filter fun p => unitOfBind (s.list .prod p "OUTUNIT") = some u) (fun p a => a.prodUnmetered p (unitText u)) s1

/-! ### The end of an implement's work (R160, R196, R458) -/

/-- UNBIND for a binding of the lead (R458). -/
def State.unbindLead (b : LeadBind) (s : State) : State :=
  { s with peer := { s.peer with leadBinds := s.peer.leadBinds.filter fun c => c ≠ b } }.askUnbind b.node b.impl b.utype b.unit

/-- One section closes with its implement: triggers and held commands discarded, its unit off, its planner state gone. -/
def State.endSec (k : Nat) (s : State) : State :=
  let s1 := ((s.dropTrigs k fun _ => true).dropHeld k).setMetOpen k false
  let s2 := if (s.secAt k).unserved.isSome then s1
    else match s1.secUnit k, s1.secRemote k with
      | some u, _ => s1.unitOff u
      | none, some _ => if (s1.secAt k).cmdOn then (s1.sendFire k 2 s1.now).1 else s1
      | none, none => s1
  s2.setSec k {}

/-- A START that waits for its bindings fails (R458, R129): those accepted are released, and one answered later will be (R475). -/
def State.failStart (n : Nat) (e : Err) (s : State) : State :=
  match (s.implAt n).bindWait with
  | none => s
  | some w =>
    let s0 := s.setImpl n { s.implAt n with bindWait := none }
    let s1 := overList (s0.peer.leadBinds.filter fun b => b.impl = n && b.held && b.done = some 0) State.unbindLead s0
    let left := (s1.peer.leadBinds.filter fun b => !(b.impl = n && b.held && b.done.isSome)).map fun b => if b.impl = n && b.held then { b with failed := true } else b
    { s1 with peer := { s1.peer with leadBinds := left } }.answerLater w.1 (some e)

/-- The implement stops: every section closes at once, triggers are discarded, bindings on nodes are released (R160, R196, R458). -/
def State.stopImpl (n : Nat) (s : State) : State :=
  if !(s.implAt n).running then s
  else
    let secs := (s.sectionsOf n).filter fun k => s.list .sec k "BIND" ≠ [0]
    let s1 := overList secs State.endSec (s.internalHold n)
    let s2 := overList (s1.peer.leadBinds.filter fun b => b.impl = n && b.held) State.unbindLead s1
    { s2 with peer := { s2.peer with sent := s2.peer.sent.filter fun c => !secs.contains c.sec } }.setImpl n {}

end Sys2Proof.Machine
end

