-- ==== Sys2Proof/Machine/CanCore.lean ====
section
/-!
DEFINITION. Sys2Proof/Machine/CanCore.lean: a CAN controller's queues, filter, error confinement and stop (R478, R485 to R497), used by its rows and by whatever stops it.
-/
namespace Sys2Proof.Machine

def State.canAt (s : State) (n : Nat) : Can_ := Tab.get {} s.cans n
def State.setCan (s : State) (n : Nat) (x : Can_) : State := { s with cans := Tab.set {} s.cans n x }

/-- Whom a controller's events reach (R501). -/
def State.canDest (s : State) (n : Nat) : EvDest := if (s.canAt n).peer then toSuper else toPart (s.owner .can n)
/-- An event of controller n. -/
def State.canEv (n : Nat) (t : String) (s : State) : State := s.ev "CAN" (s.canDest n) ("CAN." ++ toString n ++ " " ++ t)

/-! ### Frames -/

/-- The length in bytes of a DLC (Table CAN-1). -/
def dlcLen (fd : Bool) (d : Nat) : Nat := if d ≤ 8 then d else if !fd then 8 else [12, 16, 20, 24, 32, 48, 64].getD (d - 9) 64
/-- The lengths of a frame's kind. -/
def lenOk (fd : Bool) (n : Nat) : Bool := n ≤ 8 || (fd && [12, 16, 20, 24, 32, 48, 64].contains n)
/-- The DLC of a length. -/
def lenDlc (n : Nat) : Nat := if n ≤ 8 then n else 9 + ([12, 16, 20, 24, 32, 48, 64].takeWhile (· < n)).length

/-- The keys of a stored frame (R489); the identifier in eight digits (DESIGN CHOICE). -/
def canKeys (r : CanRx) : List (String × String) :=
  [("inst", toString r.inst), ("ts", toString r.ts), ("id", showHex 8 r.f.id), ("xtd", yesNo r.f.xtd), ("fd", yesNo r.f.fd), ("brs", yesNo r.f.brs),
   ("esi", yesNo r.f.esi), ("rtr", yesNo r.f.rtr), ("dlc", toString r.f.dlc), ("len", toString r.f.data.length), ("ovr", yesNo r.ovr), ("d", showBytes r.f.data)]

/-- The identifier's arbitration key (R492): base identifier; base data, base remote, extended; the full identifier; data before remote. -/
def arbKey (f : CanFrame) : Nat × Nat × Nat × Nat :=
  if f.xtd then (f.id / 262144, 2, f.id, if f.rtr then 1 else 0) else (f.id, if f.rtr then 1 else 0, 0, 0)

/-- Frame a goes before frame b (R492). -/
def arbBefore (a b : CanTx) : Bool :=
  let x := arbKey a.f
  let y := arbKey b.f
  if x.1 ≠ y.1 then x.1 < y.1
  else if x.2.1 ≠ y.2.1 then x.2.1 < y.2.1
  else if x.2.2.1 ≠ y.2.2.1 then x.2.2.1 < y.2.2.1
  else if x.2.2.2 ≠ y.2.2.2 then x.2.2.2 < y.2.2.2
  else a.order < b.order

/-- The queued frame with the highest priority. -/
def arbBest : List CanTx → Option CanTx
  | [] => none
  | a :: l => match arbBest l with
    | none => some a
    | some b => if arbBefore b a then some b else some a

/-! ### Filter (R485, R486) -/

/-- Entry k of controller n: type 0 OFF, 1 RANGE, 2 DUAL, 3 MASK, XTD, ID1, ID2, REJECT, RTR. -/
structure FilterEntry where
  typ    : Nat
  xtd    : Bool
  id1    : Nat
  id2    : Nat
  reject : Bool
  rtr    : Bool
  deriving DecidableEq, Repr

def State.filterEntry (s : State) (n k : Nat) : FilterEntry :=
  let sub := "E" ++ toString k
  let t := s.word .filter n "TYPE" sub
  { typ := if t = "RANGE" then 1 else if t = "DUAL" then 2 else if t = "MASK" then 3 else 0
    xtd := s.word .filter n "XTD" sub = "YES", id1 := s.nat .filter n "ID1" sub, id2 := s.nat .filter n "ID2" sub
    reject := s.word .filter n "ACT" sub = "REJECT", rtr := s.word .filter n "RTR" sub = "YES" }

/-- RAW (Table CAN-2). -/
def FilterEntry.raw (e : FilterEntry) : Nat :=
  e.id1 + (if e.xtd then 2 ^ 29 else 0) + e.typ * 2 ^ 30 + e.id2 * 2 ^ 32 + (if e.reject then 2 ^ 61 else 0) + (if e.rtr then 2 ^ 62 else 0)

/-- An entry matches a frame (R486). -/
def FilterEntry.hits (e : FilterEntry) (f : CanFrame) : Bool :=
  e.xtd = f.xtd && (e.rtr || !f.rtr) &&
    (if e.typ = 1 then e.id1 ≤ f.id && f.id ≤ e.id2
     else if e.typ = 2 then f.id = e.id1 || f.id = e.id2
     else if e.typ = 3 then Nat.land f.id e.id2 = Nat.land e.id1 e.id2
     else false)

/-- The filter stores a frame: the first matching entry decides (R485). -/
def State.canAccepts (s : State) (n : Nat) (f : CanFrame) : Bool :=
  if s.word .can n "FILTER" = "OPEN" then true
  else match ((List.range (s.nat .can n "NFILT")).map (s.filterEntry n)).find? fun e => e.hits f with
    | some e => !e.reject
    | none => false

/-! ### Delivery (R490) -/

/-- A session takes the controller's RX events. -/
def State.canHeard (s : State) (n : Nat) : Bool :=
  allSessions.any fun i => (s.sessAt i).opened && !(s.sessAt i).faultOnly && (s.canDest n).reaches i (s.sessAt i)

/-- With DELIVER=EVENT, stored frames go to the sessions they reach, in order, and leave the queue. -/
def State.canDeliver (n : Nat) (s : State) : State :=
  if s.word .can n "DELIVER" ≠ "EVENT" || !(s.canAt n).running || !s.canHeard n then s
  else
    let q := (s.canAt n).rx
    overList q (fun r a => a.canEv n ("RX " ++ joinWith " " ((canKeys r).map fun p => p.1 ++ "=" ++ p.2))) (s.setCan n { s.canAt n with rx := [] })

/-- Frames that waited for a session (R490). -/
def State.canDeliverAll (s : State) : State := overList (List.range 4) State.canDeliver s

/-! ### Transmit queue -/

/-- TXFAIL of a tagged frame (R493). -/
def State.txFail (n : Nat) (t : CanTx) (cause : String) (s : State) : State :=
  if s.isOn .can n "TXCONF" && t.tag ≠ 0 then
    s.canEv n ("TXFAIL tag=" ++ toString t.tag ++ " id=" ++ showHex 8 t.f.id ++ " cause=" ++ cause)
  else s

/-- A frame leaves the transmit queue. -/
def State.txDrop (n : Nat) (t : CanTx) (s : State) : State := s.setCan n { s.canAt n with tx := (s.canAt n).tx.filter fun x => x.order ≠ t.order }

/-- A frame loses arbitration or draws an error (R492). -/
def State.txRetry (n : Nat) (s : State) : State :=
  match arbBest (s.canAt n).tx with
  | none => s
  | some t => if t.oneshot then ((s.txDrop n t).bump "TXFAIL_CNT" n).txFail n t "ONESHOT" else s.bump "TXRETRY_CNT" n

/-! ### Error confinement (R494 to R497) -/

/-- 0 ACTIVE, 1 PASSIVE, 2 BUSOFF (Table CAN-3). -/
def Can_.errState (x : Can_) : Nat := if x.busoff then 2 else if 127 < x.tec || 127 < x.rec_ then 1 else 0
def errWord (k : Nat) : String := ["ACTIVE", "PASSIVE", "BUSOFF"].getD k "ACTIVE"

/-- The keys tec= and rec=. -/
def ctrText (x : Can_) : String := "tec=" ++ toString (min 255 x.tec) ++ " rec=" ++ toString x.rec_

/-- A controller enters BUSOFF (R497). -/
def State.canBusoff (n : Nat) (s : State) : State :=
  let s1 := (s.canEv n "BUSOFF").bump "BOFF_CNT" n
  if s1.word .can n "BOFFTX" = "FLUSH" && !(s1.canAt n).peer then
    let q := (s1.canAt n).tx
    overList q (fun t a => a.txFail n t "BUSOFF") (s1.setCan n { s1.canAt n with tx := [] })
  else s1

/-- Both counters take new values: warning, error state and bus-off follow, in that order (R496, R505). -/
def State.canCounters (n tec rc : Nat) (s : State) : State :=
  let x := s.canAt n
  let off := x.busoff || 255 < tec
  let y := { x with tec := tec, rec_ := rc, busoff := off, recov := if off && !x.busoff then 0 else x.recov }
  let w := decide (s.nat .can n "TXWARN" ≤ tec) || decide (s.nat .can n "RXWARN" ≤ rc)
  let s1 := s.setCan n { y with warn := w }
  let s2 := if w && !x.warn then (s1.canEv n ("WARN on=YES " ++ ctrText y)).bump "WARN_CNT" n
    else if !w && x.warn then s1.canEv n ("WARN on=NO " ++ ctrText y) else s1
  let s3 := if y.errState ≠ x.errState then s2.canEv n ("ERRSTATE state=" ++ errWord y.errState ++ " " ++ ctrText y) else s2
  if off && !x.busoff then s3.canBusoff n else s3

/-! ### Stop -/

/-- The controller stops: recessive, its queues gone, its blocks returned; error counters and error state stay (R482, R487, R495). -/
def State.canStop (n : Nat) (s : State) : State :=
  let x := s.canAt n
  if !x.running then s
  else
    let o := if x.peer then 4 else s.owner .can n
    let s1 := s.setCan n { x with running := false, integ := false, rx := [], tx := [], blocks := 0, peer := false, ovr := false, drops := 0
                                  nbt := x.nbt, dbt := x.dbt }
    { s1 with larder := { s1.larder with used := Tab.set 0 s1.larder.used o (Tab.get 0 s1.larder.used o - x.blocks) } }

/-- A controller begins, integrating (R482, R497). -/
def State.canStart (n : Nat) (peer : Bool) (blocks nbt dbt tdco : Nat) (s : State) : State :=
  let x := s.canAt n
  let s1 := s.setCan n { x with running := true, integ := true, rx := [], tx := [], inst := 1, order := 0, drops := 0, fullAt := none, ovr := false, recov := 0
                                blocks := blocks, nbt := nbt, dbt := dbt, tdco := tdco, peer := peer }
  let o := if peer then 4 else s.owner .can n
  { s1 with larder := { s1.larder with used := Tab.set 0 s1.larder.used o (Tab.get 0 s1.larder.used o + blocks) } }

end Sys2Proof.Machine
end

