-- ==== Sys2Proof/Machine/Sha.lean ====
section
/-!
DEFINITION. Sys2Proof/Machine/Sha.lean: HMAC-SHA-256, which R108 and R114 name without giving it (PRESUMED from FIPS 180-4 and RFC 2104,
notes/assumptions). Bytes are natural numbers below 256.
-/
namespace Sys2Proof.Machine

/-- The round constants of SHA-256. -/
def shaK : List Word :=
  [0x428a2f98, 0x71374491, 0xb5c0fbcf, 0xe9b5dba5, 0x3956c25b, 0x59f111f1, 0x923f82a4, 0xab1c5ed5,
   0xd807aa98, 0x12835b01, 0x243185be, 0x550c7dc3, 0x72be5d74, 0x80deb1fe, 0x9bdc06a7, 0xc19bf174,
   0xe49b69c1, 0xefbe4786, 0x0fc19dc6, 0x240ca1cc, 0x2de92c6f, 0x4a7484aa, 0x5cb0a9dc, 0x76f988da,
   0x983e5152, 0xa831c66d, 0xb00327c8, 0xbf597fc7, 0xc6e00bf3, 0xd5a79147, 0x06ca6351, 0x14292967] ++
  [0x27b70a85, 0x2e1b2138, 0x4d2c6dfc, 0x53380d13, 0x650a7354, 0x766a0abb, 0x81c2c92e, 0x92722c85,
   0xa2bfe8a1, 0xa81a664b, 0xc24b8b70, 0xc76c51a3, 0xd192e819, 0xd6990624, 0xf40e3585, 0x106aa070,
   0x19a4c116, 0x1e376c08, 0x2748774c, 0x34b0bcb5, 0x391c0cb3, 0x4ed8aa4a, 0x5b9cca4f, 0x682e6ff3,
   0x748f82ee, 0x78a5636f, 0x84c87814, 0x8cc70208, 0x90befffa, 0xa4506ceb, 0xbef9a3f7, 0xc67178f2]

/-- The eight working words. -/
structure ShaState where
  a : Word
  b : Word
  c : Word
  d : Word
  e : Word
  f : Word
  g : Word
  h : Word
  deriving DecidableEq, Repr

/-- The initial hash value. -/
def shaInit : ShaState :=
  ⟨0x6a09e667, 0xbb67ae85, 0x3c6ef372, 0xa54ff53a, 0x510e527f, 0x9b05688c, 0x1f83d9ab, 0x5be0cd19⟩

/-- One round, with its constant and its schedule word. -/
def shaRound (s : ShaState) (k w : Word) : ShaState :=
  let s1 := s.e.rotateRight 6 ^^^ s.e.rotateRight 11 ^^^ s.e.rotateRight 25
  let ch := (s.e &&& s.f) ^^^ (~~~s.e &&& s.g)
  let t1 := s.h + s1 + ch + k + w
  let s0 := s.a.rotateRight 2 ^^^ s.a.rotateRight 13 ^^^ s.a.rotateRight 22
  let maj := (s.a &&& s.b) ^^^ (s.a &&& s.c) ^^^ (s.b &&& s.c)
  ⟨t1 + s0 + maj, s.a, s.b, s.c, s.d + t1, s.e, s.f, s.g⟩

/-- The rounds, the window of the last sixteen schedule words moving along. -/
def shaRounds : List Word → List Word → ShaState → ShaState
  | [], _, s => s
  | k :: ks, win, s =>
    let w0 := win.getD 0 0
    let w1 := win.getD 1 0
    let w9 := win.getD 9 0
    let w14 := win.getD 14 0
    let g0 := w1.rotateRight 7 ^^^ w1.rotateRight 18 ^^^ (w1 >>> 3)
    let g1 := w14.rotateRight 17 ^^^ w14.rotateRight 19 ^^^ (w14 >>> 10)
    shaRounds ks (win.drop 1 ++ [g1 + w9 + g0 + w0]) (shaRound s k w0)

/-- One 64-byte block. -/
def shaBlock (s : ShaState) (blk : List Word) : ShaState :=
  let r := shaRounds shaK blk s
  ⟨s.a + r.a, s.b + r.b, s.c + r.c, s.d + r.d, s.e + r.e, s.f + r.f, s.g + r.g, s.h + r.h⟩

/-- Bytes to big-endian words. -/
def beWords : List Nat → List Word
  | a :: b :: c :: d :: rest => BitVec.ofNat 32 (((a * 256 + b) * 256 + c) * 256 + d) :: beWords rest
  | _ => []

/-- The blocks of sixteen words, `n` of them. -/
def shaBlocks : Nat → List Word → ShaState → ShaState
  | 0, _, s => s
  | n + 1, ws, s => shaBlocks n (ws.drop 16) (shaBlock s (ws.take 16))

/-- Big-endian bytes of a number. -/
def beBytes (n : Nat) : Nat → List Nat
  | 0 => []
  | k + 1 => beBytes (n / 256) k ++ [n % 256]

/-- The padding of a message. -/
def shaPad (m : List Nat) : List Nat :=
  m ++ [0x80] ++ List.replicate ((119 - m.length % 64) % 64) 0 ++ beBytes (8 * m.length) 8

/-- SHA-256 of bytes, as 32 bytes. -/
def sha256 (m : List Nat) : List Nat :=
  let p := shaPad m
  let s := shaBlocks (p.length / 64) (beWords p) shaInit
  ([s.a, s.b, s.c, s.d, s.e, s.f, s.g, s.h].map fun w => beBytes w.toNat 4).flatten

/-- HMAC-SHA-256 with a key of 32 bytes. -/
def hmac (key m : List Nat) : List Nat :=
  let k := key ++ List.replicate 32 0
  sha256 ((k.map fun b => Nat.xor b 0x5c) ++ sha256 ((k.map fun b => Nat.xor b 0x36) ++ m))

/-- The number of big-endian bytes. -/
def beNat (bs : List Nat) : Nat := bs.foldl (fun a b => a * 256 + b) 0

/-- The response to a challenge (R108). -/
def loginResp (key : BitVec 256) (chal : BitVec 64) : Nat :=
  beNat ((hmac (beBytes key.toNat 32) (beBytes chal.toNat 8)).take 8)

/-- The key check value of KEY0 (R114). -/
def keyKcv (key : BitVec 256) : Nat := beNat ((hmac (beBytes key.toNat 32) []).take 2)

end Sys2Proof.Machine
end

