-- ==== Sys2Proof/Machine/Sessions.lean ====
section
/-!
DEFINITION. Sys2Proof/Machine/Sessions.lean: the input line and the queue of a session, the SESSION noun, and the supervisor role
(02_phrases.md; R106 to R114).
-/
namespace Sys2Proof.Machine

/-! ### Opening, closing, watches (R51, R52, R78) -/

/-- A session begins with the defaults of Table PHR-10 (R52), its counters at 0 (R754): ECHO and PROMPT are ON on S1. -/
def State.openSession (i : Nat) (s : State) : State :=
  ((overList ["PHR_CNT", "ERR_CNT", "CHK_CNT", "QFULL_CNT", "CHAR_CNT", "EVDROP_CNT"] (fun c a => a.setCnt c i 0) s).setSess i { opened := true, echo := i = 1, prompt := i = 1, lastPhrase := s.now, lastUse := s.now }).canDeliverAll

/-- A session ends and loses its queue, output, watches and role (R52). -/
def State.closeSession (i : Nat) (s : State) : State := s.setSess i {}

/-- The noun of a watch as EV lines name it. -/
def Watch.nounText (w : Watch) : String :=
  nounWord w.noun ++ (if w.hasIdx then "." ++ (if w.noun = .reg then showHex 8 w.idx else toString w.idx) else "") ++ (if w.sub = "" then "" else "." ++ w.sub)

/-- A watch ends: it is taken away and EV UNWATCH is sent (R78). -/
def State.endWatch (i : Nat) (w : Watch) (s : State) : State :=
  let x := s.sessAt i
  (s.setSess i { x with watches := x.watches.filter fun v => !decide (v = w), lastUse := s.now }).ev "PHR" (.one i) (w.nounText ++ " UNWATCH")

/-- Every watch of a session ends. -/
def State.endWatches (i : Nat) (s : State) : State := overList (s.sessAt i).watches (fun w a => a.endWatch i w) s

/-- The supervisor role of a session ends by idle time or a new KEY0: EV SESSION ROLE (R110, R113). -/
def State.endSuper (i : Nat) (s : State) : State :=
  if (s.sessAt i).super then (s.setSess i { s.sessAt i with super := false }).ev "PRT" (.one i) "SESSION ROLE role=PART" else s

/-! ### Input (R54, R74, R76; R516 to R519) -/

/-- The oldest entry leaves a UART's receive queue; at 64 entries a pending XOFF is withdrawn, or an XON becomes due (R518, R519). -/
def State.uartPop (n : Nat) (s : State) : State :=
  let u := Tab.get {} s.uarts n
  let rest := u.rx.drop 1
  let u1 := { u with rx := rest }
  let u2 := if rest.length = 64 && u.flow then
    (if u.xoffDue then { u1 with xoffDue := false } else if u.xoffOut then { u1 with xonDue := true } else u1) else u1
  { s with uarts := Tab.set {} s.uarts n u2 }

/-- A character is taken from the session's port: the oldest entry of UART0, UART1 or the SPI input buffer where one waits, which must be this one; else
it arrives with this step. Peer sessions get whole lines (R465). -/
def State.takeChar (i ch : Nat) (tagged : Bool) (s : State) : Option State :=
  if !(s.sessAt i).opened || 3 ≤ i || 256 ≤ ch then none
  else if i = 2 then
    match s.spi.rxbuf with
    | [] => if tagged then none else some s
    | c :: cs => if c = ch && !tagged then some { s with spi := { s.spi with rxbuf := cs } } else none
  else
    match (Tab.get {} s.uarts i).rx with
    | [] => some s
    | e :: _ => if e.data = ch && (decide (e.tag ≠ 0) || e.ovr) = tagged then some (s.uartPop i) else none

/-- Echo (Table PHR-8); an echo that finds no room in the output queue is lost (DESIGN CHOICE). -/
def echoTo (t : String) (x : Session) : Session := if outRoom x t.length then { x with out := x.out ++ [t] } else x

/-- A character is stored in the line, or found beyond the 200th (R74, R76). -/
def storeChar (c : Nat) (x : Session) : Session :=
  if x.line.length < 200 then { x with line := x.line ++ [c] } else { x with tooLong := true }

/-- One character other than a terminator, on the line of its session (Table PHR-8); a character with a port tag is stored with 256 added. -/
def inputChar (ch : Nat) (tagged : Bool) (x0 : Session) : Session :=
  let x := { x0 with afterCR := false }
  if tagged then storeChar (ch + 256) x
  else if !x.echo then storeChar ch x
  else if 0x20 ≤ ch ∧ ch ≤ 0x7E then
    if x.line.length < 200 then echoTo (String.singleton (Char.ofNat ch)) (storeChar ch x) else echoTo (String.singleton (Char.ofNat 7)) (storeChar ch x)
  else if ch = 8 ∨ ch = 0x7F then
    if x.line.isEmpty then x
    else echoTo (String.ofList [Char.ofNat 8, ' ', Char.ofNat 8]) { x with line := x.line.dropLast }
  else if ch = 3 then echoTo ("^C" ++ crlf) { x with line := [], tooLong := false }
  else if ch < 0x20 then x
  else storeChar ch x

/-- SESSION_INPUT_CHARACTER (R74): a character other than a terminator, or the LF directly after a CR (R54); ETX with ECHO=ON ends the watches. -/
def execSessionInputCharacter (sess ch : Nat) (tagged : Bool) (s : State) : Host.Outcome State Fault Refusal :=
  let x := s.sessAt sess
  let lf := ch = 10 && !tagged && x.afterCR
  if !tagged && (ch = 13 || ch = 10) && !lf then .next s
  else match s.takeChar sess ch tagged with
    | none => .next s
    | some s1 =>
      if lf then .next (s1.setSess sess { x with afterCR := false })
      else
        let s2 := s1.setSess sess (inputChar ch tagged x)
        .next (if ch = 3 && !tagged && x.echo then s2.endWatches sess else s2)

/-- Phrases that count against the 16 of the queue: those waiting, and the one whose reply is still owed (R71, R72). -/
def State.heldBy (s : State) (i : Nat) : Nat :=
  let x := s.sessAt i
  x.queue.length + (if x.await.isSome || !x.owed.isEmpty || s.awaitsNode i || s.resetHolds i then 1 else 0)

/-- The device's own node address (R82). -/
def State.ownAddr (s : State) : Nat := s.nat .peer 0 "ADDR"

/-- The queue entry of a line that was read; a line of spaces has none. -/
def entryOf (r : LineRead) : Option QEntry :=
  match r with
  | .empty => none
  | .reject e tag c | .late e tag c => some (.reject e tag c)
  | .routed n tag c t => some (.routed n tag c t)
  | .phrase p => some (.phrase p)

/-- The tag and the check of an entry. -/
def entryTag (q : QEntry) : Option String × Bool :=
  match q with
  | .phrase p => (p.tag, p.checked)
  | .routed _ tag c _ | .reject _ tag c => (tag, c)

/-- A line whose form passed checks 1 to 5 of R70 is a phrase received. -/
def formPassed (r : LineRead) : Bool :=
  match r with
  | .late _ _ _ | .routed _ _ _ _ | .phrase _ => true
  | _ => false

/-- The prompt after an ignored empty line (R75). -/
def emptyLinePrompt (i : Nat) (s : State) : State :=
  if (s.sessAt i).prompt then s.setSess i (echoTo "> " (s.sessAt i)) else s

/-- A line enters the queue of its session (R71), or is answered at once with E-QUEUE (R72). -/
def State.enqueue (i : Nat) (r : LineRead) (s : State) : State :=
  match entryOf r with
  | none => emptyLinePrompt i s
  | some q =>
    if 16 ≤ s.heldBy i then s.sendErr i ⟨.queue, none⟩ (entryTag q).1 (entryTag q).2
    else
      let s1 := if formPassed r then s.received i (entryTag q).2 else s
      let x := s1.sessAt i
      let s2 := s1.setSess i { x with queue := x.queue ++ [q] }
      if s1.heldBy i = 0 then s2.settle i else s2

/-- PHRASE_LINE_COMPLETE (R71): CR or LF ends the line. While both phrase lanes have failed no line draws a reply (R41). -/
def execPhraseLineComplete (sess ch : Nat) (s : State) : Host.Outcome State Fault Refusal :=
  let x := s.sessAt sess
  if !(ch = 13 || (ch = 10 && !x.afterCR)) then .next s
  else match s.takeChar sess ch false with
    | none => .next s
    | some s1 =>
      let x1 := (if x.echo then echoTo crlf else id) { x with line := [], tooLong := false, afterCR := ch = 13 }
      let s2 := s1.setSess sess x1
      if s2.power.noPhrases then .next s2
      else
        let bad := x.line.any fun c => !(0x20 ≤ c && c ≤ 0x7E)
        .next (s2.enqueue sess (readLine (x.line.map fun c => Char.ofNat (c % 256)) bad x.tooLong (some s.ownAddr)))

/-! ### Output (R73) -/

/-- `n` characters leave the output queue. -/
def drainOut : Nat → List String → List String
  | _, [] => []
  | n, l :: ls => if l.length ≤ n then drainOut (n - l.length) ls else String.ofList (l.toList.drop n) :: ls

/-- Room has returned (R73): the lines of the reply still owed, then the count of EV lines lost, where 64 characters are free, then what waited. -/
def State.afterDrain (i : Nat) (s : State) : State :=
  let x := s.sessAt i
  let s1 := s.setSess i (placeLines x.owed { x with owed := [] })
  let y := s1.sessAt i
  let s2 :=
    let line := withCheck y.evcheck ("EV " ++ toString y.evseq ++ " SESSION LOST count=" ++ toString y.lost) ++ crlf
    if y.owed.isEmpty && 0 < y.lost && outRoom y 64 && outRoom y line.length then
      s1.setSess i { y with out := y.out ++ [line], evseq := (y.evseq + 1) % 65536, lost := 0 }
    else s1
  if (s2.sessAt i).owed.isEmpty && (!x.owed.isEmpty) then s2.settle i else s2

/-! ### SESSION (R60, R87, R88) -/

/-- An attribute of a session. -/
def State.sessionRead (s : State) (i : Nat) (name : String) : String :=
  let x := s.sessAt i
  if name = "PART" then toString x.part
  else if name = "ECHO" then onOff x.echo
  else if name = "PROMPT" then onOff x.prompt
  else if name = "REQCHECK" then onOff x.reqcheck
  else if name = "EVCHECK" then onOff x.evcheck
  else if name = "EVENTS" then (if x.faultOnly then "FAULT" else "ALL")
  else if name = "ID" then toString i
  else if name = "ROLE" then (if x.super then "SUPER" else "PART")
  else if name = "QUEUED" then toString x.queue.length
  else toString x.evseq

/-- The errors of reading attributes by name: unknown, write-only, or given a value (E-ATTR). -/
def getErrs (sp : List AttrSpec) (p : Phrase) : List Err :=
  p.attrs.filterMap fun a =>
    match specFind a.name sp with
    | none => some ⟨.attr, some a.tok⟩
    | some x => if x.role = .wo || a.value.isSome then some ⟨.attr, some a.tok⟩ else none

/-- The names a GET reads: those named, in the order of the noun's table (R66), or the GET set (R58). -/
def getNames (p : Phrase) (n : Noun) (ix : Option Nat) : List String :=
  if p.attrs.isEmpty then getSet n ix p.sub else (specs n ix p.sub).filterMap fun a => if p.has a.name then some a.name else none

/-- GET_SESSION (R88). -/
def execGetSession (sess : Nat) (ph : Phrase) (s : State) : Host.Outcome State Fault Refusal :=
  .next (runRow "GET_SESSION" sess ph (fun _ => Ans.read (getErrs sessionAttrs ph) fun s =>
    [(getNames ph .session none).map fun n => (lower n, s.sessionRead sess n)]) s)

/-- One attribute of SET SESSION. -/
def setSessionAttr (i : Nat) (a : AttrTok) (s : State) : State :=
  let x := s.sessAt i
  let v := upper (a.value.getD "")
  let on := v = "ON"
  if a.name = "PART" then
    let n := ((a.value.bind parseInt).getD 0).toNat
    if n = x.part then s
    else
      let s1 := s.endWatches i
      s1.setSess i { s1.sessAt i with part := n }
  else if a.name = "ECHO" then s.setSess i { x with echo := on }
  else if a.name = "PROMPT" then s.setSess i { x with prompt := on }
  else if a.name = "REQCHECK" then s.setSess i { x with reqcheck := on }
  else if a.name = "EVCHECK" then s.setSess i { x with evcheck := on }
  else if a.name = "EVENTS" then s.setSess i { x with faultOnly := v = "FAULT" }
  else s

/-- SET_SESSION (R87): PROMPT=ON and ECHO=ON are refused on S2 and on peer sessions (R75). -/
def execSetSession (sess : Nat) (ph : Phrase) (s : State) : Host.Outcome State Fault Refusal :=
  .next (runRow "SET_SESSION" sess ph (fun _ =>
    Ans.eff (setAttrErrs sessionAttrs true ph ++
      ph.attrs.filterMap (fun a =>
        if 2 ≤ sess && (a.name = "ECHO" || a.name = "PROMPT") && (a.value.map upper) = some "ON" then some ⟨.range, some a.tok⟩ else none))
      fun s => (overList ph.attrs (setSessionAttr sess) s).canDeliverAll) s)

/-- RESET_SESSION (R60). -/
def execResetSession (sess : Nat) (ph : Phrase) (s : State) : Host.Outcome State Fault Refusal :=
  .next (runRow "RESET_SESSION" sess ph (fun _ =>
    { errs := extraAttrs ph []
      act := fun s =>
        let s1 := s.endWatches sess
        (s1.setSess sess { s1.sessAt sess with queue := [], super := false, reqcheck := false, evcheck := false, faultOnly := false }, [])
      post := fun s => s.setSess sess { s.sessAt sess with evseq := 0 } }) s)

/-- LOGOUT (R58, R110). -/
def execLogout (sess : Nat) (ph : Phrase) (s : State) : Host.Outcome State Fault Refusal :=
  .next (runRow "LOGOUT" sess ph (fun _ =>
    Ans.eff (extraAttrs ph []) fun s => s.setSess sess { s.sessAt sess with super := false }) s)

/-! ### The supervisor (R107 to R114) -/

/-- A lockout is under way (R109). -/
def State.lockedOut (s : State) : Bool := match s.lockoutEnd with
  | some t => decide (s.now < t)
  | none => false

/-- The attributes of LOGIN: the word SUPER, and RESP. -/
def loginErrs (p : Phrase) : List Err :=
  (match p.attr "SUPER" with
    | none => [⟨.attr, some p.verbTok⟩]
    | some a => errIf a.value.isSome .attr (some a.tok)) ++ extraAttrs p ["SUPER", "RESP"]

/-- A session takes the supervisor role; consecutive failures start anew (R109). -/
def State.takeSuper (i : Nat) (s : State) : State :=
  { s.setSess i { s.sessAt i with super := true, chal := none, lastPhrase := s.now } with authFails := 0 : State }.canDeliverAll

/-- LOGIN_SUPER (R107, R112). -/
def execLoginSuper (sess : Nat) (ph : Phrase) (s : State) : Host.Outcome State Fault Refusal :=
  .next (runRow "LOGIN_SUPER" sess ph (fun s =>
    { errs := errIf (s.key0.isSome && s.lockedOut) .auth ++ loginErrs ph
      act := fun s =>
        if s.key0.isNone then (s.takeSuper sess, [[("role", "SUPER"), ("factory", "YES")]])
        else
          let f := s.free
          (f.2.setSess sess { f.2.sessAt sess with chal := some (f.1, s.now) }, [[("challenge", showHex 16 f.1.toNat)]]) }) s)

/-- A challenge of the session is valid (R109, R133). -/
def State.challenge (i : Nat) (s : State) : Option (BitVec 64) :=
  match (s.sessAt i).chal with
  | some (c, t) => if s.now < t + 10 * nsS then some c else none
  | none => none

/-- A failed response (R109): counted, recorded, and from the fourth in a row the start of a lockout, which voids every challenge. -/
def State.authFailure (i : Nat) (s0 : State) : State :=
  let s := s0.setSess i { s0.sessAt i with chal := none }
  let n := s.authFails + 1
  let lock := 4 ≤ n
  let s1 := { s with authFails := n, lockoutEnd := if lock then some (s.now + 30 * nsS) else s.lockoutEnd }
  let s2 := if lock then overList allSessions (fun j a => a.setSess j { a.sessAt j with chal := none }) s1 else s1
  (s2.service 0x0207 2 255 i (s.sessAt i).part [if lock then 1 else 0]).bump "AUTHFAIL_CNT"

/-- The response matches (R108): all 64 bits. -/
def respMatches (s : State) (i : Nat) (p : Phrase) : Bool :=
  match s.key0, s.challenge i, (p.value "RESP").bind parseNat with
  | some k, some c, some r => r = loginResp k c
  | _, _, _ => false

/-- LOGIN_SUPER_RESP (R108, R109): a response that matches gives the role; any other is a failure, but in factory state and during a lockout. -/
def execLoginSuperResp (sess : Nat) (ph : Phrase) (s : State) : Host.Outcome State Fault Refusal :=
  .next (runRow "LOGIN_SUPER_RESP" sess ph (fun s =>
    let judged := s.key0.isSome && !s.lockedOut
    { errs := errIf (!judged || !respMatches s sess ph) .auth ++ loginErrs ph
      act := fun s => (s.takeSuper sess, [[("role", "SUPER")]])
      onErr := some fun c a => if c = .auth && judged then a.authFailure sess else a }) s)

/-- LOGIN_CHALLENGE_EXPIRY (R109): 10 s after it was given. -/
def execLoginChallengeExpiry (sess : Nat) (s : State) : Host.Outcome State Fault Refusal :=
  match (s.sessAt sess).chal with
  | some (_, t) =>
    let s1 := s.advanceTo (t + 10 * nsS)
    .next (s1.setSess sess { s1.sessAt sess with chal := none })
  | none => .next s

/-- LOGIN_LOCKOUT_END (R109): the count of failures stays. -/
def execLoginLockoutEnd (s : State) : Host.Outcome State Fault Refusal :=
  match s.lockoutEnd with
  | some t => .next { s.advanceTo t with lockoutEnd := none }
  | none => .next s

/-- SUPER_IDLE_EXPIRY (R110): 600 s without a phrase. -/
def execSuperIdleExpiry (sess : Nat) (s : State) : Host.Outcome State Fault Refusal :=
  let x := s.sessAt sess
  if x.super then .next ((s.advanceTo (x.lastPhrase + 600 * nsS)).endSuper sess) else .next s

/-- PEER_SESSION_IDLE_EXPIRY (R84): 60 s with no phrase queued and no watch. -/
def execPeerSessionIdleExpiry (sess : Nat) (s : State) : Host.Outcome State Fault Refusal :=
  let x := s.sessAt sess
  if 3 ≤ sess && x.opened && s.heldBy sess = 0 && x.watches.isEmpty then
    .next ((s.advanceTo (x.lastUse + 60 * nsS)).closeSession sess)
  else .next s

end Sys2Proof.Machine
end

