-- ==== Sys2Proof/Machine/PeerCore.lean ====
section
/-!
DEFINITION. Sys2Proof/Machine/PeerCore.lean: losing a device, releasing bindings and stopping the peer link (R456, R457, R466), used by the rows of 13_peer_link.md and by
retirements and stops.
-/
namespace Sys2Proof.Machine

/-- The partitions that hold a remote binding, as lead or as node (R469). -/
def State.bindParts (s : State) : List Nat :=
  ((s.peer.leadBinds.filter LeadBind.held).map LeadBind.impl) ++ s.peer.nodeBinds.map fun b => s.unitOwner (unitOfType b.utype b.unit)
/-- An event of the link (R469). -/
def State.peerEv (t : String) (s : State) : State := s.ev "PEER" (.to s.bindParts true) t

/-- REPORT (Table PEER-5). -/
def State.sendReport (lead cseq kind outcome utype unit wait impl : Nat) (s : State) : State :=
  s.peerTo 0x0A lead (leBytes cseq 2 ++ [kind, outcome, utype, unit] ++ leBytes (min 65535 wait) 2 ++ [impl])

/-- Commands held for a unit of a node are withdrawn, with their booked grants (R434, R463). -/
def State.dropCmds (u : Nat) (s : State) : State :=
  let s1 := if s.peer.cmds.any fun c => unitOfType c.utype c.unit = u && c.gstart.isSome then s.dropBooked u else s
  { s1 with peer := { s1.peer with cmds := s1.peer.cmds.filter fun c => unitOfType c.utype c.unit ≠ u } }

/-- A node releases a binding of its own accord (R457, R459): the unit's commands are withdrawn and UNBOUND is reported. -/
def State.releaseBind (b : NodeBind) (s : State) : State :=
  let u := unitOfType b.utype b.unit
  let s1 := s.dropCmds u
  ({ s1 with peer := { s1.peer with nodeBinds := s1.peer.nodeBinds.filter fun c => c ≠ b } }).sendReport b.lead 0 7 0 b.utype b.unit 0 b.impl

/-- A routed phrase draws E-NODE (R82, R95). -/
def State.routedFails (r : Routed) (s : State) : State :=
  let s1 := { s with routed := s.routed.filter fun q => q ≠ r }
  if (s1.sessAt r.sess).opened then (s1.sendErr r.sess ⟨.node, none⟩ r.tag r.checked).settle r.sess else s1

/-- A value names a unit of node a. -/
def bindsNode (a : Nat) (b : List Nat) : Bool :=
  match remoteOf b with
  | some (x, _, _) => x = a
  | none => false

/-- Frames of the fire chapter to node a: FIRE, CANCEL and DUTY. -/
def fireTypes : List Nat := [0x08, 0x09, 0x0B]

/-- A lead loses node a (R456): pending commands and shadow entries go, its sections are handled as retired, and UNBIND is repeated for 1 s. -/
def State.leadLoses (a : Nat) (s : State) : State :=
  let hit (k : Nat) : Bool := bindsNode a (s.list .sec k (if (s.secAt k).spareOn then "SPARE" else "BIND"))
  let s1 := { s with peer := { s.peer with
    sent := s.peer.sent.filter fun c => c.node ≠ a
    waits := s.peer.waits.filter fun w => w.dst ≠ a || !fireTypes.contains w.typ
    tx := s.peer.tx.filter fun f => f.dst ≠ a || !fireTypes.contains f.typ
    leadBinds := (s.peer.leadBinds.filter fun b => b.node ≠ a || b.held).map fun b => if b.node = a then { b with unbindEnd := some (s.now + nsS) } else b } }
  let s2 := overList ((s.plannedSecs).filter hit) (fun k st => match st.secOdo k with
    | some d => st.setOdo d { st.odoAt d with entries := (st.odoAt d).entries.filter fun e => !(e.ofSec k && e.shadow) }
    | none => st) s1
  let s3 := overList s.plannedSecs (State.secLoses (bindsNode a) "NODE") s2
  overList (s.peer.leadBinds.filter fun b => b.node = a && b.held) (fun b st => st.peerTo 0x05 a ([b.impl, b.utype, b.unit, 0, 0, 0] ++ leBytes b.ref 2)) s3

/-- A node loses a lead (R457): the units it bound take their safe state and the bindings are released. -/
def State.nodeLoses (a : Nat) (s : State) : State :=
  let bs := s.peer.nodeBinds.filter fun b => b.lead = a
  let s1 := overList bs (fun b st => (st.unitSafe (unitOfType b.utype b.unit) false).releaseBind b) s
  overList (List.range 4) State.updatePart s1

/-- The lowest address among the devices present and the own one (R453). -/
def State.lowest (s : State) : Nat := ((List.range s.ownAddr).find? fun a => (s.node a).present).getD s.ownAddr

/-- The device becomes synced or unsynced (R454). -/
def State.setSynced (on : Bool) (s : State) : State :=
  if s.peer.synced = on then s
  else { s with peer := { s.peer with synced := on } }.peerEv
    ("PEER SYNC synced=" ++ yesNo on ++ " master=" ++ (match s.peer.master with
      | some a => toString a
      | none => "NONE"))

/-- The master is elected (R453, R474): it is always synced and continues the sync time it holds; who loses the place stays synced until R454 says otherwise. -/
def State.newMaster (s : State) : State :=
  let m := s.lowest
  if s.peer.state = 0 || s.peer.master = some m then s
  else
    let s1 := { s with peer := { s.peer with master := some m, good := 0, lastPair := s.now } }
    if m = s.ownAddr then s1.setSynced true else s1

/-- Device a is lost (R455, R456, R457). -/
def State.nodeLost (a : Nat) (reboot : Bool) (s : State) : State :=
  let s1 := ((s.peerEv ("NODE." ++ toString a ++ " LOST")).bump "HBLOST_CNT").field 0x0106 36 a 4 [a, if reboot then 1 else 0]
  let s2 := s1.setNode a { s1.node a with present := false }
  let s3 := (s2.leadLoses a).nodeLoses a
  let s4 := overList (s3.routed.filter fun r => r.node = a) State.routedFails s3
  let s5 := overList ((List.range 8).map (· + 3)) (fun i st => match (st.sessAt i).origin with
    | some (d, _) => if d = a then st.closeSession i else st
    | none => st) s4
  { s5 with peer := { s5.peer with asm := s5.peer.asm.filter (fun x => x.node ≠ a), done := s5.peer.done.filter fun d => d.1 ≠ a } }.newMaster

/-- The devices present. -/
def State.presentNodes (s : State) : List Nat := (List.range 128).filter fun a => (s.node a).present

/-- The link stops (R466): every device counts as lost, whatever answers are owed by nodes draw E-NODE, and its controllers stop. -/
def State.peerStop (s : State) : State :=
  if s.peer.state = 0 then s
  else
    let s0 := { s with peer := { s.peer with state := 0, tx := [] } }
    let s1 := overList s0.presentNodes (fun a st => st.nodeLost a false) s0
    let s2 := overList s1.routed State.routedFails s1
    let s3 := overList ((List.range 4).filter fun n => (s2.canAt n).peer) State.canStop s2
    { s3 with peer := { inst := s3.peer.inst } }

/-- A unit is retired while bound to a lead: RETIRED is reported (R416). -/
def State.reportRetired (u : Nat) (s : State) : State :=
  overList (s.peer.nodeBinds.filter fun b => unitOfType b.utype b.unit = u) (fun b st => st.sendReport b.lead 0 6 0 b.utype b.unit 0 b.impl) s

end Sys2Proof.Machine
end

