-- ==== Sys2Proof/Machine/FaultCore.lean ====
section
/-!
DEFINITION. Sys2Proof/Machine/FaultCore.lean: putting functions into their safe state (R115 to R117, R306, R323, R666, R667), the fault collector (R662 to R666), retirement and
its consequences (R40 to R50, Table MAC-6), and the resets (R618, Table PWR-5).
-/
namespace Sys2Proof.Machine

/-! ### Stopping functions -/

/-- An odometry unit leaves RUNNING: its entries go, with the grants booked for them, and CMPn is inactive (R306, R307). -/
def State.odoDown (m st : Nat) (s : State) : State :=
  let gone := (s.odoAt m).entries.filter fun e => !e.host && e.act = 2
  let s1 := s.setOdo m { s.odoAt m with entries := [], cmpOn := false, armed := false, state := st, plst := if st = 1 then (s.odoAt m).plst else 0 }
  overList gone (fun e a => a.dropTrig e.unit e) s1

/-- A serial sensor port stops: a cycle in progress ends at once (R308). -/
def State.sspDown (p : Nat) (s : State) : State := s.setSsp p { s.sspAt p with running := false, cycle := none }

/-- The units a partition owns. -/
def State.unitsOf (s : State) (n : Nat) : List Nat := (List.range 56).filter fun u => s.unitPresent u && s.unitOwner u = n

/-- Every function of partition n is stopped; its units are in their safe state already (R115, R457, R666). -/
def State.haltPart (n : Nat) (s : State) : State :=
  let s1 := (s.failStart n ⟨.state, none⟩).stopImpl n
  let s2 := overList ((List.range 8).filter fun p => s1.owner .prod p = n) State.stopProdRun s1
  let s3 := overList ((List.range 8).filter fun m => s2.owner .odo m = n && (s2.odoAt m).state = 1) (fun m a => a.odoDown m 0) s2
  let s4 := overList ((List.range 2).filter fun p => s3.owner .ssp p = n) State.sspDown s3
  let s5 := overList ((List.range 4).filter fun k => s4.owner .can k = n && !(s4.canAt k).peer) State.canStop s4
  let s6 := overList (s5.unitsOf n) State.stopDirect s5
  overList (s6.peer.nodeBinds.filter fun b => s6.unitOwner (unitOfType b.utype b.unit) = n) State.releaseBind s6

/-- A fault puts partition n into FAULTED (R122, R666, R667): its units take their safe state within 1 ms, then its functions are stopped. -/
def State.faultPart (n : Nat) (cause : String) (s : State) : State :=
  let p := s.partAt n
  match p.state with
  | .resetting => s.setPart n { p with pendFault := some (p.pendFault.getD cause) }
  | .faulted => s
  | _ => ((overList (s.unitsOf n) (fun u a => a.unitSafe u false) s).haltPart n).setPState n .faulted cause

/-! ### Words of the collector (Tables FLT-2, FLT-3) -/

/-- The word of a class code. -/
def classCode (c : Nat) : String := faultWords.getD (c - 1) "NONE"

/-- The detail codes and words. -/
def detailWords : List (Nat × String) :=
  [(0x01, "SEQ-WDOG"), (0x02, "SW-HS"), (0x03, "SW-FW"), (0x04, "SW-LS"), (0x05, "SENSE"), (0x10, "FRAME"), (0x20, "LANE"), (0x30, "VETO"), (0x31, "PLAUS"),
   (0x40, "RESID"), (0x41, "CHANNEL"), (0x50, "ECC"), (0x51, "LARDER"), (0x52, "MRAM"), (0x60, "POISON"), (0x70, "STOP"), (0x71, "FREQ"), (0x80, "RFREG"),
   (0x81, "PDREG"), (0x90, "EXPIRED"), (0xA0, "MISS"), (0xB0, "SELFTEST")]
def detailWord (d : Nat) : String := ((detailWords.find? fun p => p.1 = d).map Prod.snd).getD "NONE"

/-- The actions of R664. -/
def actionWord (a : Nat) : String :=
  ["MASKED", "REPORTED", "UNIT-RETIRED", "ISLAND-RETIRED", "FAULTED", "RESET", "UNITS-OFF", "SAFE"].getD a "REPORTED"

def numOrNone (x : Option Nat) : String := match x with
  | some k => toString k
  | none => "NONE"

/-! ### FLTN (R665) -/

/-- The classes that FLTNCLASS names, as bits of FLT_MASK; DIAG is always among them. -/
def State.fltMask (s : State) : List Nat :=
  let w := s.word .fault 0 "FLTNCLASS"
  (if w = "ALL" then List.range 15 |>.drop 1 else ((List.range 15).drop 1).filter fun c => (splitStr ',' w).contains (classCode c)) ++ [15]

/-- FLTN is held by BOOT or SAFE, or by the retirement of I39. -/
def State.fltnHeldState (s : State) : Bool := s.power.dstate = .boot || s.power.dstate = .safe
def State.fltn (s : State) : Bool := s.fltnHeldState || s.retired 39 || s.faults.latch.any s.fltMask.contains

/-- LATCHED (Table FLT-6). -/
def State.latchedText (s : State) : String :=
  let ws := ((List.range 16).drop 1).filterMap fun c => if s.faults.latch.contains c then some (if c = 15 then "DIAG" else classCode c) else none
  if ws.isEmpty then "NONE" else joinWith "," ws

/-- A class is latched (R662). -/
def State.latch (c : Nat) (s : State) : State := { s with faults := { s.faults with latch := insertNat c s.faults.latch } }

/-! ### The collector (R662 to R664) -/

/-- The FAULT record (Table ATT-3, R664). -/
def State.faultRecord (d : Detection) (action : Nat) (s : State) : State :=
  s.service 0x0203 43 255 255 (d.part.getD 4)
    ([d.cls, d.island.getD 255, d.val, 0, d.detail, action, d.unit.getD 255, d.part.getD 255] ++ leBytes d.v1 4 ++ leBytes d.v2 4 ++ leBytes d.occ 4)

/-- The RETIRED record of an island. -/
def State.retiredRecord (c : Nat) (i : Nat) (s : State) : State := s.service 0x0204 43 255 255 4 [i, c]

/-- The keys of EV FAULT (R663). -/
def faultLine (d : Detection) (action : Nat) : String :=
  "FAULT " ++ classCode d.cls ++ " detail=" ++ detailWord d.detail ++ " island=" ++ ((d.island.map islName).getD "NONE") ++ " unit=" ++ numOrNone d.unit ++
    " part=" ++ numOrNone d.part ++ " action=" ++ actionWord action

/-- The instance of the noun that an island serves alone (R663, Table MAC-3): UART0 to UART2, ODO, SSP, CAN. -/
def islandInst (i : Nat) : Option Nat :=
  if 4 ≤ i && i < 7 then some (i - 4) else if 14 ≤ i && i < 22 then some (i - 14) else if 22 ≤ i && i < 24 then some (i - 22)
  else if 32 ≤ i && i < 36 then some (i - 32) else none

/-- A detection (R662): its consequence, the latch, FLTN with it, EV FAULT to every session, the FAULT record, the class's counter; then one RETIRED record for each
island that its consequence retired, in ascending number (R50). -/
def State.report (d0 : Detection) (action : Nat) (f : State → State) (s : State) : State :=
  let d : Detection := { d0 with unit := d0.unit.orElse fun _ => d0.island.bind islandInst }
  let s1 := (f s).latch d.cls
  let s2 := { s1 with faults := { s1.faults with lastIsl := d.island.getD 255, lastCls := d.cls } }
  let s3 := ((s2.ev "FLT" .all (faultLine d action)).faultRecord d action).bump "FLT_CNT" d.cls
  overList ((List.range 64).filter fun i => s3.retired i && !s.retired i) (State.retiredRecord d.cls) s3

/-! ### Retirement of units (R396, R412, R649) -/

/-- The members of a unit's pair, or the unit alone. -/
def State.withPair (s : State) (u : Nat) : List Nat := if s.pairEven u then [u, u + 1] else if s.pairOdd u then [u - 1, u] else [u]

/-- The results of a diagnosis (R398, Table DIA-1). -/
def diagWords : List (Nat × String) :=
  [(0, "OK"), (1, "OPEN"), (2, "SHORT-GND-OUTH"), (3, "SHORT-GND-OUTL"), (4, "SHORT-SUP-OUTH"), (5, "SHORT-SUP-OUTL"), (6, "OVERTEMP"), (7, "SHORT-GND"),
   (8, "SHORT-SUP"), (9, "LEAK"), (10, "OPENGND"), (11, "SHORT-LOAD"), (12, "IMBALANCE"), (13, "GATE")]
def diagWord (c : Nat) : String := ((diagWords.find? fun p => p.1 = c).map Prod.snd).getD "NONE"

/-- An event of diagnosis (R420): to the owning partition, RETIRED and RESTORED to supervisors too. -/
def State.diagEv (u : Nat) (super : Bool) (body : String) (s : State) : State :=
  s.ev "DIA" (.to [s.unitOwner u] super) ("DIAG." ++ toString u ++ " " ++ body)

/-- Units go out of service at once: off by every switch that obeys, no longer in direct use; then whoever uses them (R412). -/
def State.retireUnits (us : List Nat) (island fault : Bool) (cause : String) (s : State) : State :=
  let new := us.filter fun u => s.unitPresent u && !(s.unitAt u).retired
  let s1 := overList new (fun u a =>
    let a1 := (a.hardOff u).stopDirect u
    a1.setUnit u { a1.unitAt u with
      retired := true, retIsland := island, retFault := fault, safe := false, held := false, cut := false, blocked := false, suspectEnd := none, retestAt := none
      recorded := none, testing := none, calStart := none, retryAt := none, dcause := if island || fault then 15 else (a1.unitAt u).dcause }) s
  let s2 := overList (new.filter fun u => !s.pairOdd u) (fun u a => a.diagEv u true ("RETIRED cause=" ++ diagWord (a.unitAt u).dcause)) s1
  let s2 := overList new (fun u a => (a.unitLost u cause).reportRetired u) s2
  overList (new.map s2.unitOwner) State.updatePart s2

/-! ### Retirement of islands (Table MAC-6) -/

/-- Session i ends. -/
def State.endSession (i : Nat) (s : State) : State := if (s.sessAt i).opened then s.closeSession i else s

/-- Partitions that hold an implement: those whose implement runs, or waits to (DEDUCED). -/
def State.implParts (s : State) : List Nat := (List.range 4).filter fun n => (s.implAt n).running || (s.implAt n).bindWait.isSome

/-- Implements that odometry unit m drives. -/
def State.drivenBy (s : State) (m : Nat) : List Nat :=
  (List.range 4).filter fun n => (s.implAt n).running && s.natOpt .impl n "ODO" = some m

/-- The consequence of retiring island i, which is marked by now. -/
def State.islandGone (i : Nat) (s : State) : State :=
  if i = 10 || i = 11 then
    if s.retired 10 && s.retired 11 then overList s.implParts (fun n a => a.faultPart n "PLANNER") s else s
  else if 4 ≤ i && i ≤ 6 then
    let s1 := { s with uarts := Tab.set {} s.uarts (i - 4) { Tab.get {} s.uarts (i - 4) with enabled := false, rx := [], tx := [] } }
    if i < 6 then s1.endSession (i - 4) else s1
  else if i = 7 then { s with spi := { s.spi with enabled := false, rxbuf := [], header := none } }.endSession 2
  else if i = 12 || i = 13 then overList s.implParts (fun n a => a.faultPart n "MAP") s
  else if 14 ≤ i && i ≤ 21 then
    let m := i - 14
    let s1 := overList (s.drivenBy m) (fun n a => a.faultPart n "ODO-RETIRED") s
    let s2 := overList ((List.range 8).filter fun p => s1.word .prod p "FB" = "ODO" && s1.natOpt .prod p "FBODO" = some m) (fun p a => a.fbLost p true) s1
    let s3 := overList ((List.range 8).filter fun k => s2.list .odo k "PLAUS" = [1, m] && (s2.odoAt k).state = 1)
      (fun k a => a.setOdo k { a.odoAt k with plst := 2, viol := 0 }) s2
    (s3.odoDown m 0).updatePart (s3.owner .odo m)
  else if i = 22 || i = 23 then
    let s1 := (s.sspDown (i - 22))
    (s1.setSsp (i - 22) { s1.sspAt (i - 22) with lost := true }).updatePart (s1.owner .ssp (i - 22))
  else if i = 24 || i = 25 || i = 30 || i = 31 then s.gnssDown
  else if 26 ≤ i && i ≤ 29 then
    s.dropChans (gnssChans.filter fun c => chanIsland c = i)
  else if 32 ≤ i && i ≤ 35 then
    let s1 := if (s.canAt (i - 32)).peer then s.peerStop else s
    (s1.canStop (i - 32)).updatePart (s1.owner .can (i - 32))
  else if i = 36 then s.peerStop
  else if i = 39 then { s with attic := { s.attic with pend := [] } }
  else if i = 41 then overList (List.range 2) (fun k a => { a with i2cs := Tab.set {} a.i2cs k { Tab.get {} a.i2cs k with enabled := false, busy := none } }) s
  else if 44 ≤ i && i ≤ 47 then
    overList [2 * (i - 44), 2 * (i - 44) + 1] (fun p a =>
      ((if (a.prodAt p).state = 1 then a.stopProd p 2 else a.setProd p { a.prodAt p with state := 2 })).updatePart (a.owner .prod p)) s
  else if 48 ≤ i then s.retireUnits ((((islandUnits i).map s.withPair).flatten)) true false "ISLAND"
  else s

/-- An island is RETIRED with its consequence (R40, R44, R49); `cls` and `detail` are kept for its cause (R737). -/
def State.retireIsland (i cls detail : Nat) (s : State) : State :=
  if s.retired i || s.islandAbsent i then s
  else
    let s1 := s.setIsland i .retired
    ({ s1 with faults := { s1.faults with causes := Tab.set (0, 0, false) s1.faults.causes i (cls, detail, false), retAt := Tab.ins i s.now s1.faults.retAt } }).islandGone i

/-! ### Resets (R618, Table PWR-5) -/

/-- A record is written to its ring, with the service-log stamp of the write (R583, R586); the operating hours and the power-cycle count stand in the stamp of a service
record, FLTN in its flags. -/
def State.atticWrite (r : ARec) (s : State) : State :=
  let a := s.attic
  let stamp := if r.log = 1 then s.hours + 2 ^ 32 * s.times.boots else r.stamp
  let seq := if r.log = 0 then a.next0 else a.next1
  let slots := if r.log = 0 then 12288 else 4096
  let w := { r with stamp := stamp, flags := r.flags + (if s.fltn then 4 else 0), seq := seq }
  let next := if seq ≥ 2 ^ 48 - 1 then 1 else seq + 1
  let ix := (seq - 1) % slots
  { s with attic :=
      if r.log = 0 then { a with ring0 := Tab.ins ix w a.ring0, next0 := next, torn0 := false, bad0 := a.bad0.filter (· ≠ seq - slots) }
      else { a with ring1 := Tab.ins ix w a.ring1, next1 := next, torn1 := false, bad1 := a.bad1.filter (· ≠ seq - slots) } }

/-- A GAP record goes ahead of the next record of a log that lost some (R584, R610). -/
def State.atticGap (log : Nat) (s : State) : State :=
  let k := if log = 0 then s.attic.lost0 else s.attic.lost1
  if k = 0 then s
  else
    let s1 := s.atticWrite { log := log, code := 1, src := 39, part := 4, stamp := s.now, systime := s.now, data := leBytes k 4 }
    { s1 with attic := if log = 0 then { s1.attic with lost0 := 0 } else { s1.attic with lost1 := 0 } }

/-- The attic commit: every pending record is written, in order (R592). -/
def State.atticFlush (s : State) : State :=
  if s.retired 39 then s
  else overList s.attic.pend (fun r a => (a.atticGap r.log).atticWrite r) { s with attic := { s.attic with pend := [] } }

/-- What a reset leaves: the state in which a BOOT begins with its cause. Kept are the variant and what is outside or in MRAM, NOR and I00: levels, supplies and temperatures; CAL,
its source, LEAP, the alarm, hours and counts; the attic, KEY0, profiles, stored aiding data; the saved map set and the log. The pin lock is kept but by POWERON. -/
def State.bootFrom (c : Cause) (s : State) : State :=
  let p := s.power
  let t := s.times
  { pending := s.pending
    power := { variant := p.variant, cause := c, vlog := p.vlog, vdrvA := p.vdrvA, vdrvB := p.vdrvB, tempC := p.tempC
               vxslow := p.vxslow, vbaklow := p.vbaklow, vlogw := p.vlogw, ign := p.ign }
    times := { cal := t.cal, calSrc := t.calSrc, leap := t.leap, leapv := t.leapv, leapSched := none, rtctrim := t.rtctrim, rtcRC := t.rtcRC, hoursNs := t.hoursNs
               mramHours := t.mramHours, mramTrim := t.mramTrim, boots := t.boots, alarm := t.alarm.map (· - t.sys), alarmIn := t.alarmIn }
    pinlock := s.pinlock && c ≠ .poweron
    key0 := s.key0
    safenLow := s.safenLow
    attic := { ring0 := s.attic.ring0, ring1 := s.attic.ring1, next0 := s.attic.next0, next1 := s.attic.next1, torn0 := s.attic.torn0, torn1 := s.attic.torn1
               bad0 := s.attic.bad0, bad1 := s.attic.bad1 }
    pins := { pins := s.pins.pins.map fun k => (k.1, ({ val := k.2.val } : Pin)), down := s.pins.down }
    cellar := { saved := s.cellar.saved, logRing := s.cellar.logRing, logSeq := s.cellar.logSeq, norKiB := s.cellar.norKiB }
    pantry := s.pantry
    gnss := { stored := s.gnss.stored, aid := s.gnss.stored, ant := s.gnss.ant, antMa := s.gnss.antMa }
    freeIx := s.freeIx }

/-- Every unit is off (Table PWR-5). -/
def State.allOff (s : State) : State := overList ((List.range 56).filter s.unitPresent) State.hardOff s

/-- The power-cycle count of a BOOT that began (R582, R618); it saturates. -/
def State.countBoot (s : State) : State := { s with times := { s.times with boots := min (s.times.boots + 1) 4294967295 } }
/-- A BOOT that is cut short counts too (R618, R635). -/
def State.bootCut (s : State) : State := if s.power.dstate = .boot && !s.power.inReset then s.countBoot else s

/-- A reset by watchdog escalation, RESET DEVICE, RSTN or RETURN (R618): during SHUTDOWN it is latched (R633); else EV DEVICE STATE is placed, pending records are committed where the
cause does so, and BOOT begins. -/
def State.reset_ (c : Cause) (s : State) : State :=
  match s.power.dstate with
  | .shutdown => { s with power := { s.power with latched := some c } }
  | .off | .standby => s
  | _ =>
    let s1 := if s.power.dstate = .boot then s.bootCut else s.setDState .boot (causeWord c)
    (if c = .rstn then s1 else s1.atticFlush).bootFrom c

/-- The consequence of a detection in island i (R40, R42): an essential one resets the device, after the report; a retirable one is retired. Both phrase lanes reset it too. -/
def State.detectIsland (d : Detection) (is : List Nat) (s : State) : State :=
  let resets := is.any essential || (([2, 3].all fun l => is.contains l || s.retired l) && is.any fun i => i = 2 || i = 3)
  let s1 := s.report d (if resets then 5 else 3) (overList (is.filter fun i => !essential i) fun i a => a.retireIsland i d.cls d.detail)
  if resets then s1.reset_ .watchdog else s1

end Sys2Proof.Machine
end

