-- ==== Sys2Proof/Machine/Attic.lean ====
section
/-!
DEFINITION. Sys2Proof/Machine/Attic.lean: the rows of the attic, and what ATTIC shows (17_attic_time.md, R583 to R593, R599, R603).
-/
namespace Sys2Proof.Machine

/-! ### The rings -/

def atticSlots (log : Nat) : Nat := if log = 0 then 12288 else 4096
def State.atticRing (s : State) (log : Nat) : Tab ARec := if log = 0 then s.attic.ring0 else s.attic.ring1
def State.atticBad (s : State) (log : Nat) : List Nat := if log = 0 then s.attic.bad0 else s.attic.bad1
def State.atticTorn (s : State) (log : Nat) : Bool := if log = 0 then s.attic.torn0 else s.attic.torn1

/-- The newest sequence number of a log; 0 where it has none (R583). -/
def State.atticNewest (s : State) (log : Nat) : Nat :=
  let n := if log = 0 then s.attic.next0 else s.attic.next1
  if n = 1 then (if (s.atticRing log).isEmpty then 0 else 2 ^ 48 - 1) else n - 1

/-- The oldest present (R583): one later where BOOT found a torn slot in a full log. -/
def State.atticOldest (s : State) (log : Nat) : Nat :=
  let n := s.atticNewest log
  let k := atticSlots log
  if n < k then 1 else n - k + (if s.atticTorn log then 2 else 1)

/-- A record that is present and good. -/
def State.atticRec (s : State) (log seq : Nat) : Option ARec :=
  if seq < s.atticOldest log || s.atticNewest log < seq || (s.atticBad log).contains seq then none
  else match (s.atticRing log).find? fun p => p.1 = (seq - 1) % atticSlots log with
    | some (_, r) => if r.seq = seq then some r else none
    | none => none

/-- The 64 bytes of a record (Table ATT-2). -/
def ARec.bytes (r : ARec) : List Nat :=
  let b := [if r.log = 0 then 0x46 else 0x53, r.flags] ++ leBytes r.code 2 ++ leBytes r.seq 6 ++ [r.src, r.inst, r.sess, r.part, 0, 0] ++ leBytes r.stamp 8 ++
    leBytes r.systime 8 ++ padTo 28 r.data
  b ++ leBytes (crc32 b) 4

/-! ### Decoding (R591, Table ATT-3) -/

/-- The code words of Table ATT-3. -/
def atticCodes : List (Nat × String) :=
  [(0x0001, "GAP"), (0x0101, "GNSS-ANT"), (0x0102, "GNSS-NOTCH"), (0x0103, "GNSS-JAM"), (0x0104, "GNSS-COPY"), (0x0105, "SAFEN"), (0x0106, "NODE-LOST"),
   (0x0107, "TIME-SET"), (0x0108, "LEAP"), (0x01F0, "HOST"), (0x0201, "BOOT"), (0x0202, "SHUTDOWN"), (0x0203, "FAULT"), (0x0204, "RETIRED"), (0x0205, "DIAG-RETIRED"),
   (0x0206, "DIAG-RESTORED"), (0x0207, "AUTHFAIL"), (0x0208, "LOCKED-WRITE"), (0x0209, "BOOTFAIL"), (0x020A, "PIN-BANK"), (0x020B, "ERASE"), (0x020C, "RTCFAIL")]
def atticCode (c : Nat) : String := ((atticCodes.find? fun p => p.1 = c).map Prod.snd).getD (showHex 4 c)

/-- A number, NONE where it holds 0xFF. -/
def numFF (n : Nat) : String := if n = 255 then "NONE" else toString n
/-- An island as Inn, NONE where it holds 0xFF. -/
def islFF (n : Nat) : String := if n = 255 then "NONE" else islName n

/-- The DATA keys of a record. -/
def ARec.dataKeys (r : ARec) : KVs :=
  let d := padTo 28 r.data
  let b (i : Nat) : Nat := d.getD i 0
  let n (i k : Nat) : Nat := leNat ((d.drop i).take k)
  let w (i : Nat) (ws : List String) : String := ws.getD (b i) (toString (b i))
  match r.code with
  | 0x0001 => [("lost", toString (n 0 4))]
  | 0x0101 => [("state", w 0 ["OFF", "OK", "OPEN", "SHORT"]), ("ma", toString (n 2 2))]
  | 0x0102 => [("k", numFF (b 0)), ("state", w 1 ["IDLE", "TRACKING", "SATURATED"]), ("full", w 2 ["NO", "YES"]), ("hz", toString (ofTwos 32 (n 4 4)))]
  | 0x0103 => [("state", w 0 ["NONE", "WARN", "ALARM"]), ("jami", toString (b 1))]
  | 0x0104 => [("ch", toString (b 0)), ("prn", toString (b 1)), ("begin", toString (b 2)), ("off", toString (ofTwos 16 (n 4 2))), ("db", toString (n 6 2))]
  | 0x0105 => [("level", w 0 ["LOW", "HIGH"])]
  | 0x0106 => [("addr", toString (b 0)), ("rejoin", toString (b 1))]
  | 0x0107 => [("before", toString (n 0 8)), ("after", toString (n 8 8)), ("src", w 16 ["NONE", "GPS", "HOST"])]
  | 0x0108 => [("before", toString (b 0)), ("after", toString (b 1))]
  | 0x01F0 => [("tag", toString (n 0 2)), ("len", toString (b 2)), ("d", showBytes ((d.drop 3).take (b 2)))]
  | 0x0201 => [("cause", w 0 ["POWERON", "RSTN", "WATCHDOG", "DEVICE", "RETURN", "WAKE"]), ("state", w 1 ["READY", "SAFE"]),
      ("retired", (let l := (List.range 64).filter fun i => n 8 8 / 2 ^ i % 2 = 1
        if l.isEmpty then "NONE" else joinWith "," (l.map islName)))]
  | 0x0202 => [("trigger", w 0 ["VLOG", "IGN"])]
  | 0x0203 => [("class", classCode (b 0)), ("island", islFF (b 1)), ("val", showHex 2 (b 2)), ("detail", detailWord (b 4)), ("action", actionWord (b 5)), ("unit", numFF (b 6)),
      ("part", numFF (b 7)), ("v1", showHex 8 (n 8 4)), ("v2", showHex 8 (n 12 4)), ("occ", showHex 8 (n 16 4))]
  | 0x0204 => [("island", islFF (b 0)), ("class", classCode (b 1))]
  | 0x0205 => [("unit", toString (b 0)), ("cause", diagWord (b 1)), ("ih", toString (n 2 2)), ("il", toString (n 4 2)), ("temp", toString ((b 6 : Int) - 60))]
  | 0x0206 => [("unit", toString (b 0))]
  | 0x0207 => [("lockout", toString (b 0))]
  | 0x0208 => [("addr", showHex 8 (n 0 4)), ("token", String.ofList ((((d.drop 4).take 16).takeWhile (· ≠ 0)).map Char.ofNat)), ("role", w 20 ["PART", "SUPER"])]
  | 0x0209 => [("slot", toString (b 0)), ("code", toString (b 1))]
  | 0x020A => [("bank", w 0 ["A", "B", "C", "D"]), ("state", w 1 ["DOWN", "UP"])]
  | 0x020B => [("log", if b 0 = 255 then "BOTH" else toString (b 0)), ("role", w 1 ["PART", "SUPER"])]
  | 0x020C => [("state", w 0 ["STOP", "RUN"])]
  | _ => []

/-- One record of a reply (R591). -/
def ARec.keys (r : ARec) (raw : Bool) : KVs :=
  if raw then [("seq", toString r.seq), ("d", showBytes r.bytes)]
  else [("seq", toString r.seq), ("code", atticCode r.code)] ++
    (if r.log = 0 then [("tv", yesNo (r.flags % 2 = 1)), ("t", if r.flags % 2 = 1 then toString r.stamp else "INVALID")] else [("hours", toString (r.stamp % 2 ^ 32)), ("boots", toString (r.stamp / 2 ^ 32))]) ++
    [("systime", toString r.systime), ("src", islFF r.src), ("inst", numFF r.inst), ("sess", numFF r.sess), ("part", numFF r.part)] ++ r.dataKeys

/-! ### Rows -/

/-- ATTIC_RECORD_WRITE (R584): the oldest pending record is written, a GAP record of its log before it where one is owed. -/
def execAtticRecordWrite (s : State) : Host.Outcome State Fault Refusal :=
  match s.attic.pend with
  | [] => .next s
  | r :: rest => .next (if s.retired 39 || !s.attic.scanned then s else ({ s with attic := { s.attic with pend := rest } }.atticGap r.log).atticWrite r)

/-- The HOST records that a session wrote in the last second (R590). -/
def State.hostRecent (s : State) (i : Nat) : List Nat := (s.sessAt i).hostRecs.filter fun t => s.now < t + nsS

/-- The larder refuses the block that one more pending record needs. -/
def State.pendRefused (s : State) : Bool :=
  let k := s.attic.pend.length
  ceilDiv (64 * (k + 1)) 256 ≠ ceilDiv (64 * k) 256 && !s.larderGives 4 1

/-- SAVE_ATTIC (R590). -/
def execSaveAttic (sess : Nat) (ph : Phrase) (s : State) : Host.Outcome State Fault Refusal :=
  .next (runRow "SAVE_ATTIC" sess ph (fun s => perInst sess ph (fun n s =>
    let d := ((attrVal ph "D" (.bytes 1 25)).map Val.list).getD []
    let tag := ((attrInt ph "TAG" 0 65535).getD 0).toNat
    { errs := errIf ph.ix.isNone .noun (some ph.nounTok) ++ s.unitErrs sess ph .attic (some n) true ++ errIf (n ≠ 0) .attr (some ph.nounTok)
        ++ extraAttrs ph ["D", "TAG"] ++ needAttr ph "D" (.bytes 1 25) ++ optAttr ph "TAG" (.int 0 65535)
        ++ errIf (10 ≤ (s.hostRecent sess).length) .busy ++ errIf (atticMax ≤ s.attic.pend.length || s.pendRefused) .full
      onErr := some fun e a => if e = .full && a.attic.pend.length < atticMax then a.larderRefused 4 else a
      act := fun s =>
        let s1 := s.setSess sess { s.sessAt sess with hostRecs := s.hostRecent sess ++ [s.now] }
        (s1.handoff { log := 0, code := 0x01F0, src := 2, sess := sess, part := (s.sessAt sess).part, data := leBytes tag 2 ++ [d.length] ++ d }, []) }) s) s)

/-- GET_ATTIC (R591, R605): a snapshot. -/
def execGetAttic (sess : Nat) (ph : Phrase) (s : State) : Host.Outcome State Fault Refusal :=
  .next (runRow "GET_ATTIC" sess ph (fun s => perInst sess ph (fun n _ =>
    Ans.read (extraAttrs ph ["FIRST", "COUNT", "FORM"] ++ optAttr ph "FIRST" (.int 1 281474976710655) ++ optAttr ph "COUNT" (.int 1 32) ++ optAttr ph "FORM" (.words ["DEC", "RAW"]))
      fun s =>
        let old := s.atticOldest n
        let new := s.atticNewest n
        let first := ((attrInt ph "FIRST" 1 281474976710655).map Int.toNat).getD old
        let cnt := ((attrInt ph "COUNT" 1 32).map Int.toNat).getD 1
        let raw := (ph.value "FORM").map upper = some "RAW"
        [[("oldest", toString old), ("newest", toString new)]]
          ++ (if first < old then [[("gone", toString first ++ "-" ++ toString (min (first + cnt) old - 1))]] else [])
          ++ ((natsFrom first cnt).filter fun q => old ≤ q && q ≤ new).map fun q => match s.atticRec n q with
            | some r => r.keys raw
            | none => [("bad", toString q)]) s) s)

/-- RESET_ATTIC (R589, R608): refused in any role, with an ERASE record in place of LOCKED-WRITE. -/
def execResetAttic (sess : Nat) (ph : Phrase) (s : State) : Host.Outcome State Fault Refusal :=
  .next (runRow "RESET_ATTIC" sess ph (fun s =>
    { errs := errIf (s.retired 39) .retired ++ extraAttrs ph [] ++ [⟨.locked, some ph.nounTok⟩]
      onErr := some fun e a =>
        if e = .locked then
          let x := a.sessAt sess
          let log := if ph.ranged then 255 else ph.ix.getD 255
          ((a.service 0x020B 2 255 sess x.part [log, if x.super then 1 else 0]).bump "LOCKWR_CNT").bump "ERASE_CNT"
        else a }) s)

/-- What ATTIC shows (R599). -/
def State.atticRead (s : State) (ix : Option Nat) (name : String) : String :=
  match ix with
  | none => if name = "STATE" then (if s.retired 39 then "RETIRED" else "ACTIVE") else if name = "GAPS" then toString (s.cnt "ATT_GAP_CNT") else toString (s.cnt "ERASE_CNT")
  | some n =>
    if name = "OLDEST" then toString (s.atticOldest n)
    else if name = "NEWEST" then toString (s.atticNewest n)
    else if name = "SLOTS" then toString (atticSlots n)
    else if name = "PENDING" then toString (s.attic.pend.filter fun r => r.log = n).length
    else toString (s.atticBad n).length

/-- The selected record is latched into the window (R603). -/
def State.latchWindow (lo hi : Nat) (s : State) : State :=
  let log := hi / 2 ^ 31 % 2
  let seq := lo % 2 ^ 32 + 2 ^ 32 * (hi % 65536)
  let r := s.atticRec log seq
  let inst := if s.atticNewest log < seq then 2 else if seq < s.atticOldest log then 1 else if r.isSome then 0 else 3
  { s with attic := { s.attic with selHi := BitVec.ofNat 32 hi, winst := inst, win := if inst = 0 then r else none } }

end Sys2Proof.Machine
end

