-- ==== Sys2Proof/Machine/PeerFrame.lean ====
section
/-!
DEFINITION. Sys2Proof/Machine/PeerFrame.lean: peer frames on the bus (R449, R450, R452): identifier, length, check.
-/
namespace Sys2Proof.Machine

/-- One shift of the CRC-16 of R450. -/
def crc16Shift (c : Nat) : Nat := if 0x8000 ≤ c then Nat.xor ((2 * c) % 65536) 0x1021 else 2 * c
/-- The CRC-16 of R450 over a list of bytes. -/
def crc16 (bs : List Nat) : Nat := bs.foldl (fun a b => (List.range 8).foldl (fun x _ => crc16Shift x) (Nat.xor a ((b % 256) * 256))) 0xFFFF

/-- The priority of a frame type (Table PEER-3). -/
def peerPrio (typ : Nat) : Nat :=
  match typ with
  | 0x00 | 0x01 => 0
  | 0x08 | 0x09 => 1
  | 0x06 | 0x0A => 2
  | 0x02 => 3
  | 0x0B | 0x0C => 4
  | 0x04 | 0x05 => 5
  | _ => 6

/-- The length of a frame type, PHR and RPL apart (Table PEER-3). -/
def peerLen (typ : Nat) : Option Nat :=
  match typ with
  | 0x00 => some 8 | 0x01 => some 16 | 0x02 => some 16 | 0x04 => some 12 | 0x05 => some 12 | 0x06 => some 8 | 0x08 => some 20
  | 0x09 => some 8 | 0x0A => some 12 | 0x0B => some 8 | 0x0C => some 48 | 0x12 => some 8
  | _ => none

/-- The names of Table PEER-3. -/
def peerName (typ : Nat) : String :=
  match typ with
  | 0x00 => "SYNC" | 0x01 => "FOLLOW" | 0x02 => "HB" | 0x04 => "BIND" | 0x05 => "UNBIND" | 0x06 => "BINDACK" | 0x08 => "FIRE" | 0x09 => "CANCEL"
  | 0x0A => "REPORT" | 0x0B => "DUTY" | 0x0C => "POS" | 0x10 => "PHR" | 0x11 => "RPL" | 0x12 => "ACK"
  | _ => "NONE"

/-- The types of Table PEER-3. -/
def peerTypes : List Nat := [0x00, 0x01, 0x02, 0x04, 0x05, 0x06, 0x08, 0x09, 0x0A, 0x0B, 0x0C, 0x10, 0x11, 0x12]

/-- The smallest FD length of at least `n` bytes. -/
def fdLength (n : Nat) : Nat := if n ≤ 8 then n else ([12, 16, 20, 24, 32, 48, 64].find? fun k => n ≤ k).getD 64

/-- A frame's length is right for its type (R449): PHR and RPL have the smallest FD length that holds their fragment (Table PEER-3). -/
def peerLenOk (typ : Nat) (bs : List Nat) : Bool :=
  match peerLen typ with
  | some k => bs.length = k
  | none =>
    let len := bs.getD 2 0
    1 ≤ len && len ≤ 58 && bs.length = fdLength (len + 6)

/-- The identifier of a frame (Table PEER-1). -/
def peerId (typ dst src hops : Nat) : Nat := peerPrio typ * 2 ^ 26 + typ * 2 ^ 21 + dst * 2 ^ 13 + src * 2 ^ 5 + hops

def idTyp (id : Nat) : Nat := id / 2 ^ 21 % 32
def idDst (id : Nat) : Nat := id / 2 ^ 13 % 256
def idSrc (id : Nat) : Nat := id / 2 ^ 5 % 256
def idHops (id : Nat) : Nat := id % 32

/-- The check of a frame (R450): over the identifier with HOPS 0, then the bytes before the check. -/
def peerCrc (id : Nat) (bs : List Nat) : Nat := crc16 ((leBytes (id / 32 * 32) 4).reverse ++ bs)

/-- The bytes of a frame on the bus: the payload, zeros, the check. -/
def peerBytesOf (typ id : Nat) (data : List Nat) : List Nat :=
  let n := (peerLen typ).getD (fdLength (data.length + 2)) - 2
  let b := (data ++ List.replicate n 0).take n
  b ++ (leBytes (peerCrc id b) 2).reverse

/-- A queued frame as it is sent. -/
def PeerTx.wire (f : PeerTx) : Nat × List Nat :=
  let id := peerId f.typ f.dst f.src f.hops
  (id, peerBytesOf f.typ id f.data)

/-- A received frame's check is right. -/
def peerCrcOk (f : PeerIn) : Bool :=
  let k := f.data.length - 2
  2 ≤ f.data.length && (f.data.drop k) = (leBytes (peerCrc f.id (f.data.take k)) 2).reverse

/-- The frame of a queue that goes next: of the lowest priority number, the oldest (Table PEER-1). -/
def peerNext : List PeerTx → Option PeerTx
  | [] => none
  | f :: l => match peerNext l with
    | none => some f
    | some g => if peerPrio g.typ < peerPrio f.typ then some g else some f

end Sys2Proof.Machine
end

