-- ==== Sys2Proof/Machine/PinCore.lean ====
section
/-!
DEFINITION. Sys2Proof/Machine/PinCore.lean: functions mapped to pins, whom they belong to and whether their units are in use (R545 to R549), and what a pin drives.
-/
namespace Sys2Proof.Machine

def State.pinAt (s : State) (k : Nat) : Pin := Tab.get {} s.pins.pins k
def State.setPin (k : Nat) (x : Pin) (s : State) : State := { s with pins := { s.pins with pins := Tab.set {} s.pins.pins k x } }

/-- The functions mapped to pin k. -/
def State.funcsOf (s : State) (k : Nat) : List String :=
  let w := s.word .pin k "FUNC"
  if w = "NONE" then [] else splitStr ',' w

/-- The pin a function is mapped to. -/
def State.funcPin (s : State) (f : String) : Option Nat := (List.range 64).find? fun k => (s.funcsOf k).contains f

/-- A function of a pin is mapped to some pin. -/
def State.mapped (s : State) (f : String) : Bool := (s.funcPin f).isSome

/-- The unit a function is of. -/
def funcUnit (f : String) : Noun × Nat :=
  let b := String.ofList f.toList.dropLast
  let n := ((f.toList.getLast?).getD '0').toNat - 48
  if b = "CANTX" || b = "CANRX" then (.can, n)
  else if b = "SSPCLK" || b = "SSPDAT" then (.ssp, n)
  else if b = "I2CSCL" || b = "I2CSDA" then (.i2c, n)
  else if f = "U0TX" || f = "U0RX" then (.uart, 0)
  else if f = "U2TX" || f = "U2RX" then (.uart, 2)
  else if b = "CNTA" || b = "CNTB" || b = "IDX" || b = "CMP" then (.odo, n)
  else (.spi, 0)

/-- The kind of a function: 0 in, 1 out, 2 open drain (Table PIN-2), and the pins it may be mapped to. -/
def funcRow (f : String) : Nat × List Nat := match pinFuncs.find? fun r => r.1 = f with
  | some r => r.2
  | none => (0, [])

/-- A controller that PEER CAN or PEER BRIDGE names (R547). -/
def State.peerNamed (s : State) (n : Nat) : Bool := s.natOpt .peer 0 "CAN" = some n || s.natOpt .peer 0 "BRIDGE" = some n

/-- The owner a function belongs to (R547). -/
def State.funcOwner (s : State) (f : String) : Nat :=
  match funcUnit f with
  | (.can, n) => if s.peerNamed n then secureOwner else s.owner .can n
  | (.odo, n) => s.owner .odo n
  | (.ssp, n) => s.owner .ssp n
  | _ => secureOwner

/-- A unit is in use in the sense of R548. -/
def State.portInUse (s : State) (u : Noun × Nat) : Bool :=
  match u.1 with
  | .odo => (s.odoAt u.2).state = 1
  | .ssp => (s.sspAt u.2).running
  | .can => (s.canAt u.2).running
  | n => s.isOn n u.2 "ENABLE"

/-- Pin k carries a function of a unit in use (R548, R569). -/
def State.pinBusy (s : State) (k : Nat) : Bool := (s.funcsOf k).any fun f => s.portInUse (funcUnit f)

/-- What START or ENABLE finds of the functions it needs (R547, R510): mapped to no pin (E-ATTR, at= the
first such function), or to a pin of another owner (E-OWNER). -/
def State.funcErrs (s : State) (need other : List String) : List Err :=
  errIf (need.any fun f => !s.mapped f) .attr (need.find? fun f => !s.mapped f) ++
  errIf ((need ++ other).any fun f => match s.funcPin f with
    | some k => s.owner .pin k ≠ s.funcOwner f
    | none => false) .owner

/-- ATTN is active (R528). -/
def State.attnOn (s : State) : Bool := s.isOn .spi 0 "ENABLE" && !(s.sessAt 2).out.isEmpty

/-- The level a mapped output function presents (R549, R510, R528, R299): 0 of a unit that does not run; a CAN or UART transmitter idles high. -/
def State.funcLevel (s : State) (f : String) : Bool :=
  let u := funcUnit f
  !s.nounRetired u.1 u.2 && match u.1 with
    | .odo => (s.odoAt u.2).state = 1 && ((s.odoAt u.2).cmpOn == (s.word .odo u.2 "CMPPOL" == "HIGH"))
    | .can => (s.canAt u.2).running
    | .ssp => (s.sspAt u.2).running
    | .uart => !(Tab.get {} s.uarts u.2).breakOn
    | .spi => f = "ATTN" && s.isOn .spi 0 "ENABLE" && (s.attnOn == (s.word .spi 0 "ATTNPOL" == "HIGH"))
    | _ => true

/-- The bank of a pin, and its name. -/
def bankOf (k : Nat) : Nat := k / 16
def bankName (b : Nat) : String := ["A", "B", "C", "D"].getD b "A"
def State.bankDown (s : State) (b : Nat) : Bool := s.pins.down.contains b

/-- Pin k drives its output (R549); SPIDO alone drives only within a transfer (R524). -/
def State.pinDrives (s : State) (k : Nat) : Bool :=
  !s.bankDown (bankOf k) && (s.word .pin k "DIR" = "OUT" ||
    (s.funcsOf k).any fun f => (funcRow f).1 ≠ 0 && (f ≠ "SPIDO" || s.spi.header.isSome))

/-- A pin is open drain: by TYPE, or by an I2C function on it. -/
def State.pinOd (s : State) (k : Nat) : Bool := s.word .pin k "TYPE" = "OPENDRAIN" || (s.funcsOf k).any fun f => (funcRow f).1 = 2

/-- The value it drives: the OR of R549; 0 while not driving (Table PIN-5), as an open-drain pin does not at 1 (R550). -/
def State.pinOut (s : State) (k : Nat) : Bool :=
  s.pinDrives k && !s.pinOd k && ((s.word .pin k "DIR" = "OUT" && s.word .pin k "LEVEL" = "HIGH") ||
    (s.funcsOf k).any fun f => (funcRow f).1 ≠ 0 && s.funcLevel f)

/-- Events of a pin reach its owner, or the supervisors (R559). -/
def State.pinDest (s : State) (k : Nat) : EvDest := if s.owner .pin k = secureOwner then toSuper else toPart (s.owner .pin k)

/-- A pin is given to another owner (R553): it keeps its settings; its flag and count are cleared. -/
def State.givePin (k o : Nat) (s : State) : State :=
  if s.owner .pin k = o then s
  else ((s.setPin k { s.pinAt k with evt := false, ecnt := 0, lineAt := none, since := 0 })).setOwner .pin k o

/-- The SECURE pins (R104). -/
def State.securePins (s : State) : List Nat := s.owned .pin 64 secureOwner

end Sys2Proof.Machine
end

