-- ==== Sys2Proof/Machine/Can.lean ====
section
/-!
DEFINITION. Sys2Proof/Machine/Can.lean: the rows of the CAN controllers (14_can.md), and what CAN and FILTER show.
-/
namespace Sys2Proof.Machine

/-! ### Bit timing (R479, R480, R502) -/

def State.cN (s : State) (n : Nat) (a : String) : Nat := s.nat .can n a
/-- The nominal and the data rate in bit/s, from the stored set. -/
def State.canRate (s : State) (n : Nat) : Nat := 80000000 / ((1 + s.cN n "NSEG1" + s.cN n "NSEG2") * s.cN n "NBRP")
def State.canDrate (s : State) (n : Nat) : Nat := 80000000 / ((1 + s.cN n "DSEG1" + s.cN n "DSEG2") * s.cN n "DBRP")

/-- A rate of tq per bit and prescaler is below or above a limit in bit/s, exactly. -/
def rateIn (tq brp lo hi : Nat) : Bool := lo * (tq * brp) ≤ 80000000 && 80000000 ≤ hi * (tq * brp)

/-- R480. -/
def State.timingErrs (s : State) (n : Nat) : List Err :=
  let nt := 1 + s.cN n "NSEG1" + s.cN n "NSEG2"
  let dt := 1 + s.cN n "DSEG1" + s.cN n "DSEG2"
  let fd := s.isOn .can n "FD"
  let badN := !rateIn nt (s.cN n "NBRP") 10000 1000000 || nt < 8 || s.cN n "NSEG1" < s.cN n "NSJW" || s.cN n "NSEG2" < s.cN n "NSJW"
  let badD := fd && (!rateIn dt (s.cN n "DBRP") 0 5000000 || nt * s.cN n "NBRP" < dt * s.cN n "DBRP" || dt < 5 ||
    s.cN n "DSEG1" < s.cN n "DSJW" || s.cN n "DSEG2" < s.cN n "DSJW")
  errIf (badN || badD) .range

/-- CAN_NBT and CAN_DBT of a set (Tables CAN-9, CAN-10). -/
def nbtOf (brp seg1 seg2 sjw : Nat) : Nat := (brp - 1) + (seg1 - 1) * 2 ^ 9 + (seg2 - 1) * 2 ^ 17 + (sjw - 1) * 2 ^ 24
def dbtOf (brp seg1 seg2 sjw : Nat) (tdc : Bool) : Nat :=
  (brp - 1) + (seg1 - 1) * 2 ^ 5 + (seg2 - 1) * 2 ^ 10 + (sjw - 1) * 2 ^ 14 + (if tdc then 2 ^ 18 else 0)

def State.canNbt (s : State) (n : Nat) : Nat := nbtOf (s.cN n "NBRP") (s.cN n "NSEG1") (s.cN n "NSEG2") (s.cN n "NSJW")
def State.canDbt (s : State) (n : Nat) : Nat :=
  dbtOf (s.cN n "DBRP") (s.cN n "DSEG1") (s.cN n "DSEG2") (s.cN n "DSJW") (s.word .can n "TDC" = "AUTO")
/-- TDCO in use (R481). -/
def State.canTdco (s : State) (n : Nat) : Nat := (s.natOpt .can n "TDCO").getD (min 255 ((1 + s.cN n "DSEG1") * s.cN n "DBRP"))

/-- The filter entries that make START refused (R486). -/
def State.filterErrs (s : State) (n : Nat) : List Err :=
  if s.word .can n "FILTER" = "OPEN" then []
  else (List.range (s.cN n "NFILT")).filterMap fun k =>
    let e := s.filterEntry n k
    if (!e.xtd && (0x7FF < e.id1 || 0x7FF < e.id2)) || (e.typ = 1 && e.id2 < e.id1) then
      some ⟨.range, some ("FILTER." ++ toString n ++ ".E" ++ toString k)⟩ else none

/-- The larder blocks of a controller (R487). -/
def State.canBlocks (s : State) (n : Nat) : Nat :=
  ceilDiv (s.cN n "RXMAX") 3 + ceilDiv (s.cN n "TXMAX") 3 + (if s.word .can n "FILTER" = "LIST" then ceilDiv (s.cN n "NFILT") 32 else 0)

/-! ### Rows -/

/-- START_CAN (R480, R482, R486, R487). -/
def execStartCan (sess : Nat) (ph : Phrase) (s : State) : Host.Outcome State Fault Refusal :=
  .next (runRow "START_CAN" sess ph (fun s => perInst sess ph (fun n s =>
    let o := s.owner .can n
    { errs := s.unitErrs sess ph .can (some n) ++ extraAttrs ph []
        ++ s.funcErrs ["CANTX" ++ toString n, "CANRX" ++ toString n] []
        ++ s.timingErrs n ++ s.filterErrs n ++ errIf ((s.canAt n).running) .state ++ s.faultedErr o ++ errIf (!s.larderGives o (s.canBlocks n)) .full
      onErr := some fun e a => if e = .full then a.larderRefused o else a
      act := fun s => ((s.canStart n false (s.canBlocks n) (s.canNbt n) (s.canDbt n) (s.canTdco n)).updatePart o, []) }) s) s)

/-- STOP_CAN (R482): the bus is idle between commands, so it takes effect at once. -/
def execStopCan (sess : Nat) (ph : Phrase) (s : State) : Host.Outcome State Fault Refusal :=
  .next (runRow "STOP_CAN" sess ph (fun s => perInst sess ph (fun n s =>
    Ans.eff (s.unitErrs sess ph .can (some n) ++ extraAttrs ph [] ++ errIf (s.canAt n).peer .state)
      fun s => (s.canStop n).updatePart (s.owner .can n)) s) s)

/-- TEST_CAN (R484): a fault-free controller passes every frame; the timing it runs at is the stored set, valid or not. -/
def execTestCan (sess : Nat) (ph : Phrase) (s : State) : Host.Outcome State Fault Refusal :=
  .next (runRow "TEST_CAN" sess ph (fun s => perInst sess ph (fun n s =>
    Ans.read (s.unitErrs sess ph .can (some n) ++ extraAttrs ph [] ++ errIf (s.canAt n).running .state)
      fun _ => [[("result", "PASS"), ("step", "0")]]) s) s)

/-- CAN_INTEGRATED (R482). -/
def execCanIntegrated (n : Nat) (s : State) : Host.Outcome State Fault Refusal :=
  .next (if (s.canAt n).integ then s.setCan n { s.canAt n with integ := false } else s)

/-- REC after a frame received without error (ISO 11898-1): one less, and from above 127 a value of 119 to 127 that the standard leaves open. -/
def State.recDown (n : Nat) (s : State) : State :=
  let x := s.canAt n
  if s.word .can n "MODE" = "LISTEN" && !x.peer then s
  else if 127 < x.rec_ then
    let f := s.free
    f.2.canCounters n x.tec (119 + f.1.toNat % 9)
  else if 0 < x.rec_ then s.canCounters n x.tec (x.rec_ - 1) else s

/-- A frame is stored, or dropped with RXFULL (R488). -/
def State.canStore (n ts : Nat) (f : CanFrame) (s : State) : State :=
  let x := s.canAt n
  if s.cN n "RXMAX" ≤ x.rx.length then
    let s1 := (s.setCan n { x with ovr := true, drops := x.drops + 1 }).bump "RXDROP_CNT" n
    if x.fullAt.isNone || x.fullAt.getD 0 + nsS ≤ s.now then
      (s1.setCan n { s1.canAt n with fullAt := some s.now, drops := 0 }).canEv n ("RXFULL drops=" ++ toString (x.drops + 1))
    else s1
  else
    let r : CanRx := { inst := x.inst, ts := ts / 1000, ovr := x.ovr, f := f }
    ((s.setCan n { x with rx := x.rx ++ [r], inst := if 4294967295 ≤ x.inst then 1 else x.inst + 1, ovr := false }).bump "RXFRM_CNT" n).canDeliver n

/-- CAN_FRAME_RECEIVED (R477, R478, R485, R488, R490): `ts` is SYSTIME at the start of the frame. A controller of the peer link counts what is no peer frame
as foreign (R446); its peer frames have rows of their own. -/
def execCanFrameReceived (n ts : Nat) (f : CanFrame) (s : State) : Host.Outcome State Fault Refusal :=
  let s0 := s.advanceTo ts
  let x := s0.canAt n
  if !x.running || x.integ || x.busoff || 4 ≤ n then .next s0
  else if f.fd && !x.peer && !s0.isOn .can n "FD" then .next (s0.bump "FDIGN_CNT" n)
  else
    let g := { f with data := f.data.take (dlcLen f.fd f.dlc) }
    let s1 := s0.recDown n
    if x.peer then
      let dst := idDst f.id
      .next (if f.xtd && f.fd && peerTypes.contains (idTyp f.id) && (dst = 255 || dst = s0.nat .peer 0 "ADDR") then s1 else s1.bump "FOREIGN_CNT")
    else if s1.canAccepts n f then .next (s1.canStore n ts g)
    else .next (s1.bump "FILTREJ_CNT" n)

/-- A SYNC has left: its FOLLOW carries the sync time at its start of frame (R453, Table PEER-3). -/
def State.followSync (ts : Nat) (f : PeerTx) (s : State) : State :=
  if f.typ = 0 then s.peerPut { f with typ := 1, data := f.data.take 2 ++ [0, 0] ++ leBytes (toTwos 64 (s.syncOf ts)) 8 } else s

/-- CAN_TX_COMPLETE (R492 to R494, R481): the queued frame of the highest priority was sent, `ts` at its start of frame; on a controller of the peer link, the
next frame of its segment. -/
def execCanTxComplete (n ts tdcv : Nat) (s : State) : Host.Outcome State Fault Refusal :=
  let s0 := s.advanceTo ts
  let x := s0.canAt n
  if !x.running || x.integ || x.busoff then .next s0
  else if x.peer then
    let bridge := s0.natOpt .peer 0 "BRIDGE" = some n && s0.nat .peer 0 "CAN" ≠ n
    match peerNext (s0.peer.tx.filter fun f => f.onBridge = bridge) with
    | none => .next s0
    | some f =>
      let s1 := { s0 with peer := { s0.peer with tx := s0.peer.tx.erase f } }.followSync ts f
      .next ((s1.setCan n { x with tdcv := min 127 tdcv }).bump "TXFRM_CNT" n |>.canCounters n (x.tec - 1) x.rec_)
  else match arbBest x.tx with
    | none => .next s0
    | some t =>
      let s1 := (s0.txDrop n t).bump "TXFRM_CNT" n
      let s2 := if t.f.fd && t.f.brs && s1.word .can n "TDC" = "AUTO" then s1.setCan n { s1.canAt n with tdcv := min 127 tdcv } else s1
      let s3 := if s2.isOn .can n "TXCONF" && t.tag ≠ 0 then
        s2.canEv n ("TXDONE tag=" ++ toString t.tag ++ " id=" ++ showHex 8 t.f.id ++ " ts=" ++ toString (ts / 1000)) else s2
      .next (s3.canCounters n (x.tec - 1) x.rec_)

/-- CAN_ARBITRATION_LOST (R492). -/
def execCanArbitrationLost (n : Nat) (s : State) : Host.Outcome State Fault Refusal :=
  .next (if (s.canAt n).running && !(s.canAt n).integ && !(s.canAt n).busoff then s.txRetry n else s)

/-- LEC (Table CAN-8). -/
def lecWord (k : Nat) : String := ["NONE", "STUFF", "FORM", "ACK", "BIT1", "BIT0", "CRC"].getD k "NONE"

/-- CAN_BUS_ERROR (R494): an error of type `lec`, as transmitter or receiver; `dom` when a dominant bit followed the error flag. The counters follow ISO 11898-1: a
transmitter TEC + 8, but for an acknowledgement error of an error-passive one with no dominant bit in its flag; a receiver REC + 1, or + 8 after a dominant bit. -/
def execCanBusError (n lec : Nat) (tx dom : Bool) (s : State) : Host.Outcome State Fault Refusal :=
  let x := s.canAt n
  if !x.running || x.integ || x.busoff || lec = 0 || 6 < lec then .next s
  else
    let s1 := (s.setCan n { x with lec := lec }).bump "BUSERR_CNT" n
    if s.word .can n "MODE" = "LISTEN" && !x.peer then .next s1
    else if tx then
      let s2 := s1.txRetry n
      if lec = 3 && 0 < x.errState && !dom then .next s2 else .next (s2.canCounters n (x.tec + 8) x.rec_)
    else .next (s1.canCounters n x.tec (min 255 (x.rec_ + (if dom then 8 else 1))))

/-- CAN_BUSOFF_RECOVERY (R497): the 128th sequence of 11 recessive bits. -/
def execCanBusoffRecovery (n : Nat) (s : State) : Host.Outcome State Fault Refusal :=
  let x := s.canAt n
  if !x.running || !x.busoff then .next s
  else
    let y := { x with busoff := false, tec := 0, rec_ := 0, recov := 0 }
    let s1 := s.setCan n { y with warn := false }
    let s2 := if x.warn then s1.canEv n ("WARN on=NO " ++ ctrText y) else s1
    .next (((s2.canEv n ("ERRSTATE state=ACTIVE " ++ ctrText y)).canEv n "RECOVERED").bump "RECOV_CNT" n)

/-- GET_CAN_RX (R489, R490). -/
def execGetCanRx (sess : Nat) (ph : Phrase) (s : State) : Host.Outcome State Fault Refusal :=
  .next (runRow "GET_CAN_RX" sess ph (fun s => perInst sess ph (fun n s =>
    let q := if s.word .can n "DELIVER" = "EVENT" then [] else (s.canAt n).rx
    Ans.read (s.unitErrs sess ph .can (some n) ++ extraAttrs ph ["COUNT"] ++ optAttr ph "COUNT" (.int 1 16) ++ errIf q.isEmpty .notready)
      fun _ => (q.take ((attrInt ph "COUNT" 1 16).getD 1).toNat).map canKeys) s) s)

/-- RESET_CAN_RX (R489). -/
def execResetCanRx (sess : Nat) (ph : Phrase) (s : State) : Host.Outcome State Fault Refusal :=
  .next (runRow "RESET_CAN_RX" sess ph (fun s => perInst sess ph (fun n s =>
    Ans.eff (s.unitErrs sess ph .can (some n) ++ extraAttrs ph ["UPTO"] ++ optAttr ph "UPTO" (.int 1 4294967295))
      fun s =>
        let x := s.canAt n
        let pos := match attrInt ph "UPTO" 1 4294967295 with
          | none => x.rx.length
          | some k => if x.rx.any (fun r => r.inst = k.toNat) then (x.rx.takeWhile fun r => r.inst ≠ k.toNat).length + 1
            else (x.rx.takeWhile fun r => r.inst ≤ k.toNat).length
        s.setCan n { x with rx := x.rx.drop pos }) s) s)

/-- The errors of ARM CAN.n.TX in its frame (R491). -/
def armTxErrs (s : State) (n : Nat) (p : Phrase) : List Err :=
  let yes (a : String) : Bool := (p.value a).map upper = some "YES"
  let form (a : String) (f : AForm) := optAttr p a f
  let yn : AForm := .words ["YES", "NO"]
  let d := ((attrVal p "D" (.bytes 0 64)).map Val.list).getD []
  let fd := yes "FD"
  let big := match attrInt p "ID" 0 536870911 with
    | some i => !yes "XTD" && 0x7FF < i.toNat
    | none => false
  extraAttrs p ["ID", "XTD", "FD", "BRS", "D", "RTR", "DLC", "ONESHOT", "TAG"]
    ++ (if p.has "ID" then [] else [⟨.attr, some "ID"⟩])
    ++ errIf (p.has "DLC" && !yes "RTR") .attr (p.tok "DLC")
    ++ errIf (yes "RTR" && !p.has "DLC") .attr (some "DLC")
    ++ (if p.has "ID" then needAttr p "ID" (.int 0 536870911) else [])
    ++ form "XTD" yn ++ form "FD" yn ++ form "BRS" yn ++ form "D" (.bytes 0 64) ++ form "RTR" yn ++ form "DLC" (.int 0 8) ++ form "ONESHOT" yn
    ++ form "TAG" (.int 0 255)
    ++ errIf big .range (p.tok "ID")
    ++ errIf (!lenOk fd d.length) .range (p.tok "D")
    ++ errIf ((fd || yes "BRS") && !s.isOn .can n "FD") .range (p.tok (if fd then "FD" else "BRS"))
    ++ errIf (yes "BRS" && !fd) .range (p.tok "BRS")
    ++ errIf (yes "RTR" && fd) .range (p.tok "RTR")
    ++ errIf (yes "RTR" && p.has "D") .range (p.tok "D")

/-- The frame of ARM CAN.n.TX. -/
def armFrame (p : Phrase) : CanFrame :=
  let yes (a : String) : Bool := (p.value a).map upper = some "YES"
  let d := ((attrVal p "D" (.bytes 0 64)).map Val.list).getD []
  { id := ((attrInt p "ID" 0 536870911).getD 0).toNat, xtd := yes "XTD", fd := yes "FD", brs := yes "BRS", rtr := yes "RTR"
    dlc := if yes "RTR" then ((attrInt p "DLC" 0 8).getD 0).toNat else lenDlc d.length, data := d }

/-- ARM_CAN_TX (R483, R491, R497). -/
def execArmCanTx (sess : Nat) (ph : Phrase) (s : State) : Host.Outcome State Fault Refusal :=
  .next (runRow "ARM_CAN_TX" sess ph (fun s => perInst sess ph (fun n s =>
    let x := s.canAt n
    let no := !x.running || x.peer || s.word .can n "MODE" = "LISTEN" || (x.busoff && s.word .can n "BOFFTX" = "FLUSH")
    Ans.eff (s.unitErrs sess ph .can (some n) ++ armTxErrs s n ph ++ errIf no .state ++ errIf (s.cN n "TXMAX" ≤ x.tx.length) .busy)
      fun s =>
        let x := s.canAt n
        let t : CanTx := { f := armFrame ph, oneshot := (ph.value "ONESHOT").map upper = some "YES"
                           tag := ((attrInt ph "TAG" 0 255).getD 0).toNat, order := x.order }
        s.setCan n { x with tx := x.tx ++ [t], order := x.order + 1 }) s) s)

/-- DISARM_CAN_TX (R493). -/
def execDisarmCanTx (sess : Nat) (ph : Phrase) (s : State) : Host.Outcome State Fault Refusal :=
  .next (runRow "DISARM_CAN_TX" sess ph (fun s => perInst sess ph (fun n s =>
    Ans.eff (s.unitErrs sess ph .can (some n) ++ extraAttrs ph ["TAG"] ++ optAttr ph "TAG" (.int 0 255) ++ errIf (s.canAt n).peer .state)
      fun s =>
        let x := s.canAt n
        let hit (t : CanTx) : Bool := match attrInt ph "TAG" 0 255 with
          | none => true
          | some k => t.tag = k.toNat
        overList (x.tx.filter hit) (fun t a => a.txFail n t "DISARM") (s.setCan n { x with tx := x.tx.filter fun t => !hit t })) s) s)

/-! ### SET, and what CAN and FILTER show -/

/-- SET of CAN or of a filter entry: while the controller is STOPPED (R499, R500). -/
def canSet (sess : Nat) (ph : Phrase) (s : State) : Ans :=
  perInst sess ph (fun n s =>
    let noun := ph.nn.getD .can
    let sp := specs noun (some n) ph.sub
    Ans.eff (s.unitErrs sess ph noun (some n) ++ setAttrErrs sp (s.sessAt sess).super ph ++ errIf (s.canAt n).running .state)
      (storeAttrs sp noun n ph.sub ph)) s

/-- A read-only attribute of CAN.n. -/
def State.canRead (s : State) (n : Nat) (name : String) : String :=
  let x := s.canAt n
  if name = "STATE" then (if x.running then "RUNNING" else "STOPPED")
  else if name = "ERRSTATE" then errWord x.errState
  else if name = "TEC" then toString (min 255 x.tec)
  else if name = "REC" then toString x.rec_
  else if name = "LEC" then lecWord x.lec
  else if name = "RATE" then toString (s.canRate n)
  else if name = "DRATE" then toString (s.canDrate n)
  else if name = "TDCV" then toString x.tdcv
  else if name = "RXQ" then toString x.rx.length
  else toString x.tx.length

end Sys2Proof.Machine
end

