-- ==== Sys2Proof/Machine/CelCore.lean ====
section
/-!
DEFINITION. Sys2Proof/Machine/CelCore.lean: the cellar's maps and log as other chapters use them (06_cellar_larder.md): settings in use, cells and tiles (R206 to R209), reading and
marking a cell, the field origin (R22), and handing over as-applied records (R217 to R219).
-/
namespace Sys2Proof.Machine

/-! ### Settings -/

/-- A setting of the cellar in effect (R231). -/
def State.celUse (s : State) (name : String) : Val := (s.cellar.inUse.find name).getD (dfltOf .cellar 0 "" name)
def State.celNat (s : State) (name : String) : Nat := (s.celUse name).int.toNat

/-- The PSRAM can be used. -/
def State.psReady (s : State) : Bool := s.cellar.psram = .ready
def State.norReady (s : State) : Bool := s.cellar.nor = .ready
/-- SAVE MAP or LOAD MAP SRC=NOR is under way (R214). -/
def State.mapBusy (s : State) : Bool := s.cellar.copy.isSome

/-- The field origin, in millidegrees, once both its parts are set (R22). -/
def State.origin (s : State) : Option (Int × Int) :=
  match s.val .map 0 "ORGLAT", s.val .map 0 "ORGLON" with
  | .n a, .n b => some (a, b)
  | _, _ => none
/-- The field origin takes a value. -/
def State.setOrigin (o : Option (Int × Int)) (s : State) : State :=
  match o with
  | some (a, b) => (s.store .map 0 "" "ORGLAT" (.n a)).store .map 0 "" "ORGLON" (.n b)
  | none => (s.store .map 0 "" "ORGLAT" (.w "NONE")).store .map 0 "" "ORGLON" (.w "NONE")

/-! ### Cells and tiles (R206, R207) -/

/-- The layer of implement n is n; that of product p is 10 + p. -/
def coverLayer (l : Nat) : Bool := l < 10
/-- T. -/
def tileT (l : Nat) : Nat := if coverLayer l then 256 else 64
/-- The cell size in mm. -/
def State.cellMm (s : State) (l : Nat) : Nat := s.nat .map l (if coverLayer l then "COVCELL" else "RXCELL")
/-- The cell that a coordinate in µm lies in. -/
def State.cellIx (s : State) (l : Nat) (um : Int) : Int := um / ((s.cellMm l * 1000 : Nat) : Int)
/-- What an unlisted cell reads as (R208, R209). -/
def cellFill (l : Nat) : Nat := if coverLayer l then 0 else 0xFFFF
/-- The tile of a cell index, and the column or row in it. -/
def tileIx (l : Nat) (i : Int) : Int := i / (tileT l : Int)
def inTile (l : Nat) (i : Int) : Nat := (i % (tileT l : Int)).toNat
/-- The place of a cell in its tile. -/
def cellPos (l : Nat) (i j : Int) : Nat := inTile l j * tileT l + inTile l i
/-- The 64-byte line of a place. -/
def cellLine (l pos : Nat) : Nat := if coverLayer l then pos / 256 else pos / 32

def State.tile (s : State) (l : Nat) (te tn : Int) : Option (Tab Nat) := s.cellar.tiles.find (l, te, tn)

/-- A cell, by index; none is undeliverable (R149, R202, R209): its line is poisoned, its tile found no slot, or there is no memory. -/
def State.cellAt (s : State) (l : Nat) (i j : Int) : Option Nat :=
  let te := tileIx l i
  let tn := tileIx l j
  let pos := cellPos l i j
  if !s.psReady || s.cellar.poison.contains (l, te, tn, cellLine l pos) || s.cellar.nofit.contains (l, te, tn) then none
  else some (match s.tile l te tn with
    | some t => Tab.get (cellFill l) t pos
    | none => cellFill l)

/-- Slots of a region, and tiles in it (R209, Worked case CEL-1). -/
def State.slots (s : State) (cover : Bool) : Nat := if cover then 64 * s.celNat "COVSIZE" else 128 * s.celNat "RXSIZE"
def State.tilesIn (s : State) (p : Nat → Bool) : Nat := (s.cellar.tiles.filter fun t => p t.1.1).length
def State.slotFree (s : State) (cover : Bool) : Bool := s.tilesIn (fun l => coverLayer l = cover) < s.slots cover

def State.mapEv (l : Nat) (t : String) (s : State) : State := s.ev "CEL" (toPart (s.layerOwner l)) ("MAP." ++ toString l ++ " " ++ t)

/-- A mark finds no free slot (R209). -/
def State.mapFull (l : Nat) (te tn : Int) (s : State) : State :=
  let c := s.cellar
  let s1 := { s with cellar := { c with nofit := if c.nofit.contains (l, te, tn) then c.nofit else c.nofit ++ [(l, te, tn)] } }.bump "MAPFULL_CNT"
  if c.fullEv.contains l then s1 else { s1 with cellar := { s1.cellar with fullEv := c.fullEv ++ [l] } }.mapEv l "FULL"

/-- A coverage cell is marked (R165, R209, R239): 0 to 1, 1 and 2 to 2, no-go stays; its tile is allocated at the first mark. Nothing is marked in a poisoned line. -/
def State.mark (l : Nat) (i j : Int) (s : State) : State :=
  let te := tileIx l i
  let tn := tileIx l j
  let pos := cellPos l i j
  if !s.psReady || s.cellar.poison.contains (l, te, tn, cellLine l pos) then s
  else match s.tile l te tn with
    | some t =>
      let v := Tab.get 0 t pos
      { s with cellar := { s.cellar with tiles := AMap.put (l, te, tn) (Tab.set 0 t pos (if v = 3 then 3 else min 2 (v + 1))) s.cellar.tiles } }
    | none =>
      if s.slotFree true then { s with cellar := { s.cellar with
        tiles := s.cellar.tiles ++ [((l, te, tn), Tab.set 0 [] pos 1)], nofit := s.cellar.nofit.filter fun x => x ≠ (l, te, tn) } }
      else s.mapFull l te tn

/-- Tiles of some layers are freed; slots are free again (R209). -/
def State.freeTiles (p : Nat → Bool) (s : State) : State :=
  let c := s.cellar
  let cover := c.tiles.any fun t => p t.1.1 && coverLayer t.1.1
  { s with cellar := { c with
    tiles := c.tiles.filter fun t => !p t.1.1, poison := c.poison.filter fun x => !p x.1
    nofit := if cover then [] else c.nofit.filter fun x => !p x.1
    fullEv := if cover then c.fullEv.filter fun l => !coverLayer l else c.fullEv.filter fun l => !p l } }

/-! ### Tiles as bytes (R207, R211) -/

def tileBytes (l : Nat) : Nat := if coverLayer l then 16384 else 8192

/-- Byte k of a tile. -/
def tileByte (l : Nat) (t : Tab Nat) (k : Nat) : Nat :=
  if coverLayer l then
    let c (j : Nat) : Nat := Tab.get 0 t (4 * k + j)
    c 0 + 4 * c 1 + 16 * c 2 + 64 * c 3
  else
    let v := Tab.get 0xFFFF t (k / 2)
    if k % 2 = 0 then v % 256 else v / 256

/-- Little-endian 16-bit values of a list of bytes. -/
def halfWords : List Nat → List Nat
  | a :: b :: r => (a + 256 * b) :: halfWords r
  | _ => []

/-- A tile from its bytes. -/
def tileOf (l : Nat) (bs : List Nat) : Tab Nat :=
  if coverLayer l then
    ((bs.zipIdx.map fun p => [(4 * p.2, p.1 % 4), (4 * p.2 + 1, p.1 / 4 % 4), (4 * p.2 + 2, p.1 / 16 % 4), (4 * p.2 + 3, p.1 / 64 % 4)]).flatten).filter fun c => c.2 ≠ 0
  else
    ((halfWords bs).zipIdx.map fun p => (p.2, p.1)).filter fun c => c.2 ≠ 0xFFFF

/-! ### Staging windows (R210): byte cells in Host form, unlisted bytes 0 -/

def State.stage (s : State) (n : Nat) : List Host.Cell :=
  if n = 0 then s.cellar.stage0 else if n = 1 then s.cellar.stage1 else if n = 2 then s.cellar.stage2 else s.cellar.stage3

def State.setStage (n : Nat) (c : List Host.Cell) (s : State) : State :=
  { s with cellar :=
    if n = 0 then { s.cellar with stage0 := c } else if n = 1 then { s.cellar with stage1 := c }
    else if n = 2 then { s.cellar with stage2 := c } else { s.cellar with stage3 := c } }

/-- A window is a table of bytes with default 0 (Tab). -/
def stageRead (c : List Host.Cell) (a : Nat) : Nat := (Tab.get (0 : BitVec 8) c a).toNat
def stageWrite (c : List Host.Cell) (a v : Nat) : List Host.Cell := Tab.set (0 : BitVec 8) c a (BitVec.ofNat 8 v)

/-- Bytes are written from an address on. -/
def stageWrites : List Nat → Nat → List Host.Cell → List Host.Cell
  | [], _, c => c
  | b :: bs, a, c => stageWrites bs (a + 1) (stageWrite c a b)

/-- The bytes of one window. -/
def State.winBytes (s : State) : Nat := s.celNat "STAGESIZE" * 1048576 / 4

/-! ### The as-applied log (R217 to R219) -/

/-- A record is lost (R219). -/
def State.logLose (s : State) : State := { s with cellar := { s.cellar with logLost := s.cellar.logLost + 1 } }.bump "LOG_DROP_CNT"

/-- A record enters the log's larder queue. -/
def State.logPut (r : LogRec) (s : State) : State :=
  let k := s.cellar.logPend.length
  let need := ceilDiv (64 * (k + 1)) 256 - ceilDiv (64 * k) 256
  if !s.norReady then s.logLose
  else if 256 ≤ k then s.logLose
  else if need ≠ 0 && !s.larderGives 4 need then (s.larderRefused 4).logLose
  else { s with cellar := { s.cellar with logPend := s.cellar.logPend ++ [r] } }

/-- Records the ring holds (R215, R216): LOGSIZE, or the NOR's data space where that is smaller. -/
def State.logSlots (s : State) : Nat := min (s.celNat "LOGSIZE" * 16384) (s.cellar.norKiB * 14)

/-- The rounded whole rate unit of a rate in 0.01. -/
def wholeRate (x : Nat) : Nat := (x + 50) / 100

/-- The records of one write for implement n (R217): one per section group and product with an open section. -/
def State.logRecs (s : State) (n : Nat) : List LogRec :=
  let x := s.implAt n
  let secs := (s.sectionsOf n).filter fun k => s.list .sec k "BIND" ≠ [0]
  let gps := s.gnss.gpsV && s.times.gpsOff.isSome
  let pos := x.pos.getD {}
  let prods : List (Option Nat) := none :: (List.range 8).map some
  ((List.range 4).map fun g => prods.filterMap fun p =>
    let os := secs.filter fun k => k / 64 = g && s.natOpt .sec k "PROD" = p && (s.secAt k).eff
    if os.isEmpty then none
    else some ({
      flags := n * 64 + (if gps then 32 else 0) + (if x.posOk then 16 else 0) + g
      prod := p.getD 0xFF, fix := pos.fix
      time := if gps then ((s.now : Int) + s.times.gpsOff.getD 0).toNat else s.now
      lat := divRound pos.lat 100, lon := divRound pos.lon 100, hgt := pos.hgt.getD 0 - s.int .impl n "ANTHGT"
      hdg := (divRound x.hdg 10000 % 36000).toNat, spd := x.speed
      opn := (os.map fun k => 2 ^ (k % 64)).sum
      target := match p with
        | some i => wholeRate (s.prodAt i).target
        | none => 0
      actual := match p with
        | some i => wholeRate (s.prodAt i).actual
        | none => 0
      qty := match p with
        | some i => if ((List.range g).any fun h => secs.any fun k => k / 64 = h && s.natOpt .sec k "PROD" = p && (s.secAt k).eff) then 0 else (s.prodAt i).qty / 100000000000
        | none => 0 : LogRec })).flatten

/-- One write of the log for implement n: while it runs with a valid position and moves (R217). The product applied is carried on from what the record shows. -/
def State.logWrite (n : Nat) (s : State) : State :=
  let x := s.implAt n
  if !x.running || !x.posOk || x.motion = 0 || s.word .log 0 "ENABLE" ≠ "ON" then s
  else
    let rs := s.logRecs n
    let s1 := overList rs State.logPut s
    overList ((List.range 8).filter fun p => rs.any fun r => r.prod = p) (fun p a => a.setProd p { a.prodAt p with qty := (a.prodAt p).qty % 100000000000 }) s1

end Sys2Proof.Machine
end

