-- ==== Sys2Proof/Machine/Cellar.lean ====
section
/-!
DEFINITION. Sys2Proof/Machine/Cellar.lean: the rows of the cellar and the larder (06_cellar_larder.md), and what MAP, CELLAR, LOG and LARDER show.
-/
namespace Sys2Proof.Machine

/-! ### Initialisation and scrub -/

/-- The settings of the cellar. -/
def celNames : List String := ["PSRAM", "XSFREQ", "PSLAT", "NORDUMMY", "COVSIZE", "RXSIZE", "STAGESIZE", "LOGSIZE"]

/-- The initialisation begins (R199, R214, R231): the stored settings take effect, every layer is empty and no origin is set, the trace ring is emptied. -/
def State.cellarBegin (s : State) : State :=
  let c := s.cellar
  let s1 := { s with
    cellar := { saved := c.saved, logRing := c.logRing, logSeq := c.logSeq, logPend := c.logPend, logLost := c.logLost, norKiB := c.norKiB, init := true
                inUse := celNames.map fun n => (n, s.val .cellar 0 n) }
    trace := { s.trace with ring := [] } }
  s1.setOrigin none

/-- The log ring's MiB (R216), and the MiB left for the saved set, in KiB. -/
def State.norData (s : State) : Nat := s.cellar.norKiB * 7 / 8
def State.norNeed (s : State) : Nat := (s.celNat "COVSIZE" + s.celNat "RXSIZE" + 1) * 1024
def State.norRest (s : State) : Nat := s.norData - min (s.celNat "LOGSIZE" * 1024) s.norData
/-- NORSMALL (R216). -/
def State.norSmall (s : State) : Bool := s.norReady && s.norData < s.celNat "LOGSIZE" * 1024 + s.norNeed

def State.celEv (t : String) (s : State) : State := s.ev "CEL" toSuper t

/-- The end of the initialisation (R199, R216): each memory READY, or FAILED at a step. -/
def State.cellarReady (r : CellarInit) (s : State) : State :=
  if !s.cellar.init then s
  else
    let ps : MemState := if s.celUse "PSRAM" = .w "NONE" then .none_ else if r.psramFail.isSome || s.power.vxslow then .failed else .ready
    let nor : MemState := if r.norKiB = 0 && r.norFail.isNone then .none_ else if r.norFail.isSome || s.power.vxslow then .failed else .ready
    let s1 := { s with cellar := { s.cellar with psram := ps, nor := nor, init := false, norKiB := if nor = .ready then r.norKiB else 0 } }
    let line (a : State) (cs : Nat) (f : Option Nat) : State := match f with
      | some k => a.celEv ("CELLAR INITFAIL cs=" ++ toString cs ++ " step=" ++ toString k)
      | none => a
    let s2 := line (if ps = .failed then line s1 0 r.psramFail else s1) 1 (if nor = .failed then r.norFail else none)
    if s2.norSmall then
      s2.celEv ("CELLAR NORSMALL need=" ++ toString (s2.celNat "LOGSIZE" + s2.norNeed / 1024) ++ " have=" ++ toString (s2.norData / 1024))
    else s2

/-- CELLAR_INIT_COMPLETE (R199). -/
def execCellarInitComplete (r : CellarInit) (s : State) : Host.Outcome State Fault Refusal := .next (s.cellarReady r)

/-- SCRUB_BURST (R202, R203): a burst asks its HEAVY grant; what its reads find stands in any case, scrub keeping its guaranteed share. -/
def execScrubBurst (r : ScrubRead) (s : State) : Host.Outcome State Fault Refusal :=
  if !s.psReady then .next s
  else
    let s1 := (s.askHeavy 1).1
    let s2 := if r.errs = 1 then s1.bump "CEL_CORR_CNT" else s1
    let key := (r.layer, r.te, r.tn, r.line)
    let s3 := if r.errs = 2 && !s2.cellar.poison.contains key then
        (({ s2 with cellar := { s2.cellar with poison := s2.cellar.poison ++ [key] } }.celEv ("CELLAR UNCORR addr=" ++ showHex 8 r.addr)).bump "CEL_UNCORR_CNT").report
          { cls := 9, detail := 0x60, v1 := r.addr } 1 id
      else s2
    .next (match r.passEnd with
      | some ms => { s3 with cellar := { s3.cellar with scrubMs := min 60000 ms } }
      | none => s3)

/-- The token a region error names: the first attribute of the phrase that enters the sum or the size (R67, R204). -/
def regionTok (p : Phrase) : Option String :=
  (p.attrs.find? fun a => ["PSRAM", "COVSIZE", "RXSIZE", "STAGESIZE", "LOGSIZE", "TRACESIZE", "DEST"].contains a.name).map AttrTok.tok

/-- The sum of the regions fits the PSRAM that a phrase leaves (R204, R594). -/
def State.regionErrs (_s : State) (ps : Val) (cov rx stage trace : Nat) (dest : String) : List Err :=
  match ps with
  | .n m => errIf (7 * m.toNat < 8 * (cov + rx + stage + (if dest = "CELLAR" then trace else 0))) .range
  | _ => []

/-- SET_CELLAR (R204, R215, R231). -/
def execSetCellar (sess : Nat) (ph : Phrase) (s : State) : Host.Outcome State Fault Refusal :=
  .next (runRow "SET_CELLAR" sess ph (fun s =>
    let v (n : String) : Val := s.newVal ph cellarAttrs .cellar 0 n
    let k (n : String) : Nat := (v n).int.toNat
    let nor := s.norReady && (ph.has "LOGSIZE" || ph.has "COVSIZE" || ph.has "RXSIZE") &&
      7 * s.cellar.norKiB < 8192 * (k "LOGSIZE" + k "COVSIZE" + k "RXSIZE" + 1)
    Ans.eff (s.accessErr sess .set .cellar none ++ setAttrErrs cellarAttrs (s.sessAt sess).super ph
        ++ (s.regionErrs (v "PSRAM") (k "COVSIZE") (k "RXSIZE") (k "STAGESIZE") (s.nat .trace 0 "TRACESIZE") (s.word .trace 0 "DEST")).map (fun e => { e with at_ := regionTok ph })
        ++ errIf nor .range (regionTok ph))
      (storeAttrs cellarAttrs .cellar 0 "" ph)) s)

/-- RESET_CELLAR (R199, R214, R231). -/
def execResetCellar (sess : Nat) (ph : Phrase) (s : State) : Host.Outcome State Fault Refusal :=
  .next (runRow "RESET_CELLAR" sess ph (fun s =>
    let run := ((List.range 4).any fun n => (s.implAt n).running) || ((List.range 8).any fun p => (s.prodAt p).state = 1)
    Ans.eff (errIf (s.nounRetired .cellar 0) .retired ++ s.accessErr sess .reset .cellar none ++ extraAttrs ph [] ++ errIf run .state ++ errIf s.mapBusy .busy)
      State.cellarBegin) s)

/-! ### Staging, loads and reads (R210 to R213) -/

/-- SET_MAP_STAGE (R210, R242). -/
def execSetMapStage (sess : Nat) (ph : Phrase) (s : State) : Host.Outcome State Fault Refusal :=
  .next (runRow "SET_MAP_STAGE" sess ph (fun s =>
    let l := ph.ix.getD 0
    let n := (s.sessAt sess).part
    let off := ((attrInt ph "STAGE" 0 4294967295).getD 0).toNat
    let d := ((attrVal ph "D" (.bytes 1 64)).map Val.list).getD []
    Ans.eff (s.unitErrs sess ph .map (some l) ++ extraAttrs ph ["STAGE", "D"] ++ needAttr ph "STAGE" (.int 0 4294967295) ++ needAttr ph "D" (.bytes 1 64)
        ++ errIf (s.winBytes < off + d.length) .range (ph.tok "STAGE") ++ errIf (!s.psReady) .state)
      fun s => s.setStage n (stageWrites d off (s.stage n))) s)

/-- The range of TE and TN (R212). -/
def State.tileRange (s : State) (l : Nat) : AForm :=
  let w : Int := ((s.cellMm l * tileT l : Nat) : Int)
  .int ((-20000000) / w) (20000000 / w)

/-- What LOAD MAP.n finds (R209, R211, R212, R214). -/
def loadTileAns (sess : Nat) (ph : Phrase) (s : State) : Ans :=
  let l := ph.ix.getD 0
  let n := (s.sessAt sess).part
  let w := s.winBytes
  let te := (attrVal ph "TE" (s.tileRange l)).map Val.int
  let tn := (attrVal ph "TN" (s.tileRange l)).map Val.int
  let off := ((attrInt ph "STAGE" 0 4294967295).getD 0).toNat
  { errs := s.unitErrs sess ph .map (some l) ++ extraAttrs ph ["TE", "TN", "STAGE"] ++ needAttr ph "TE" (s.tileRange l) ++ needAttr ph "TN" (s.tileRange l)
      ++ needAttr ph "STAGE" (.int 0 4294967295) ++ errIf (w < off + tileBytes l) .range (ph.tok "STAGE")
      ++ errIf (!s.psReady || (coverLayer l && (s.implAt l).running)) .state ++ errIf s.mapBusy .busy ++ errIf (!s.slotFree (coverLayer l)) .full
    onErr := some fun e a => if e = .full then a.mapFull l (te.getD 0) (tn.getD 0) else a
    act := fun s0 =>
      let h := s0.askHeavy 2
      let s1 := match h.2 with
        | some t => h.1.advanceTo t
        | none => h.1
      let e := te.getD 0
      let k := tn.getD 0
      let win := s1.stage n
      let bs := (List.range (tileBytes l)).map fun j => stageRead win (off + j)
      let c := s1.cellar
      let s2 := { s1 with cellar := { c with
        tiles := AMap.put (l, e, k) (tileOf l bs) c.tiles, poison := c.poison.filter fun x => !(x.1 = l && x.2.1 = e && x.2.2.1 = k)
        nofit := c.nofit.filter fun x => x ≠ (l, e, k) } }
      (s2, [[("te", toString e), ("tn", toString k), ("crc", showHex 8 (crc32 bs))]]) }

/-- LOAD_MAP_TILE (R211): with its HEAVY grant refused, the phrase waits and asks again (DESIGN CHOICE). -/
def execLoadMapTile (sess : Nat) (ph : Phrase) (s : State) : Host.Outcome State Fault Refusal :=
  if s.wouldRun "LOAD_MAP_TILE" sess ph (loadTileAns sess ph) && (s.askHeavy 2).2.isNone then .next (s.askHeavy 2).1
  else .next (runRow "LOAD_MAP_TILE" sess ph (loadTileAns sess ph) s)

/-- A poisoned line of a tile that a read would touch. -/
def State.poisonIn (s : State) (l : Nat) (te tn : Int) (off len : Nat) : Bool :=
  (List.range len).any fun j => s.cellar.poison.contains (l, te, tn, (off + j) / 64)

/-- GET_MAP_TILE (R212). -/
def execGetMapTile (sess : Nat) (ph : Phrase) (s : State) : Host.Outcome State Fault Refusal :=
  .next (runRow "GET_MAP_TILE" sess ph (fun s => perInst sess ph (fun l s =>
    let te := ((attrVal ph "TE" (s.tileRange l)).map Val.int).getD 0
    let tn := ((attrVal ph "TN" (s.tileRange l)).map Val.int).getD 0
    let hi : Int := ((tileBytes l - 1 : Nat) : Int)
    let off := ((attrInt ph "OFF" 0 hi).getD 0).toNat
    let len := ((attrInt ph "LEN" 1 64).getD 1).toNat
    Ans.read (s.unitErrs sess ph .map (some l) ++ extraAttrs ph ["TE", "TN", "OFF", "LEN"] ++ needAttr ph "TE" (s.tileRange l)
        ++ needAttr ph "TN" (s.tileRange l) ++ needAttr ph "OFF" (.int 0 hi) ++ needAttr ph "LEN" (.int 1 64)
        ++ errIf (tileBytes l < off + len) .range (ph.tok "LEN") ++ errIf (!s.psReady || s.poisonIn l te tn off len) .state)
      fun s =>
        let t := (s.tile l te tn).getD []
        let bs := (List.range len).map fun j => tileByte l t (off + j)
        [[("te", toString te), ("tn", toString tn), ("off", toString off), ("d", showBytes bs)]]) s) s)

/-- GET_MAP_CELL (R206, R212). -/
def execGetMapCell (sess : Nat) (ph : Phrase) (s : State) : Host.Outcome State Fault Refusal :=
  .next (runRow "GET_MAP_CELL" sess ph (fun s => perInst sess ph (fun l s =>
    let f : AForm := .int (-20000000) 20000000
    let i := s.cellIx l (1000 * ((attrInt ph "E" (-20000000) 20000000).getD 0))
    let j := s.cellIx l (1000 * ((attrInt ph "N" (-20000000) 20000000).getD 0))
    let pos := cellPos l i j
    Ans.read (s.unitErrs sess ph .map (some l) ++ extraAttrs ph ["E", "N"] ++ needAttr ph "E" f ++ needAttr ph "N" f
        ++ errIf (!s.psReady || s.cellar.poison.contains (l, tileIx l i, tileIx l j, cellLine l pos)) .state)
      fun s => [[("value", toString (Tab.get (cellFill l) ((s.tile l (tileIx l i) (tileIx l j)).getD []) pos)), ("te", toString (tileIx l i)),
                 ("tn", toString (tileIx l j))]]) s) s)

/-- RESET_MAP_LAYER (R213). -/
def execResetMapLayer (sess : Nat) (ph : Phrase) (s : State) : Host.Outcome State Fault Refusal :=
  .next (runRow "RESET_MAP_LAYER" sess ph (fun s => perInst sess ph (fun l s =>
    let run := if coverLayer l then (s.implAt l).running else decide ((s.prodAt (l - 10)).state = 1)
    Ans.eff (s.unitErrs sess ph .map (some l) ++ extraAttrs ph [] ++ errIf run .state ++ errIf s.mapBusy .busy) (State.freeTiles (· = l))) s) s)

def State.anyImpl (s : State) : Bool := (List.range 4).any fun n => (s.implAt n).running

/-- RESET_MAP_ALL (R213). -/
def execResetMapAll (sess : Nat) (ph : Phrase) (s : State) : Host.Outcome State Fault Refusal :=
  .next (runRow "RESET_MAP_ALL" sess ph (fun s =>
    Ans.eff (errIf (s.nounRetired .map 0) .retired ++ s.accessErr sess .reset .map none ++ extraAttrs ph [] ++ errIf s.anyImpl .state ++ errIf s.mapBusy .busy)
      fun s => (s.freeTiles fun _ => true).setOrigin none) s)

/-! ### The saved set (R214, R216) -/

def layers : List Nat := (List.range 4) ++ (List.range 8).map (· + 10)

/-- What SAVE MAP copies. -/
def State.snapshotMaps (s : State) : SavedSet := { origin := s.origin, cells := layers.map fun l => (l, s.cellMm l), tiles := s.cellar.tiles }

/-- A copy begins under a HEAVY grant. -/
def State.copyBegin (save : Bool) (set : SavedSet) (sess : Nat) (s : State) : State :=
  let h := s.askHeavy 2
  { h.1 with cellar := { h.1.cellar with copy := some (save, set, sess), saved := if save then none else h.1.cellar.saved } }

def saveMapAns (sess : Nat) (ph : Phrase) (s : State) : Ans :=
  Ans.eff (errIf (s.nounRetired .map 0) .retired ++ s.accessErr sess .save .map none ++ errIf ph.ix.isSome .attr (some ph.verbTok) ++ extraAttrs ph []
      ++ errIf (!s.norReady || !s.psReady || s.anyImpl) .state ++ errIf s.mapBusy .busy ++ errIf (s.norRest < s.norNeed) .full)
    fun s => s.copyBegin true s.snapshotMaps sess

/-- A saved set lies within the NOR's remainder: its tiles fit. -/
def State.savedFits (s : State) (m : SavedSet) : Bool :=
  decide (((m.tiles.map fun t => if coverLayer t.1.1 then 16 else 8).sum + 1024) ≤ s.norRest)

def loadNorAns (sess : Nat) (ph : Phrase) (s : State) : Ans :=
  let bad := match s.cellar.saved with
    | none => true
    | some m => !s.savedFits m
  Ans.eff (errIf (s.nounRetired .map 0) .retired ++ s.accessErr sess .load .map none ++ extraAttrs ph ["SRC"] ++ needAttr ph "SRC" (.words ["NOR"])
      ++ errIf (!s.norReady || !s.psReady || s.anyImpl || bad) .state ++ errIf s.mapBusy .busy)
    fun s => s.copyBegin false (s.cellar.saved.getD {}) sess

/-- SAVE_MAP (R214, R216). -/
def execSaveMap (sess : Nat) (ph : Phrase) (s : State) : Host.Outcome State Fault Refusal :=
  if s.wouldRun "SAVE_MAP" sess ph (saveMapAns sess ph) && (s.askHeavy 2).2.isNone then .next (s.askHeavy 2).1
  else .next (runRow "SAVE_MAP" sess ph (saveMapAns sess ph) s)

/-- LOAD_MAP_NOR (R214, R216). -/
def execLoadMapNor (sess : Nat) (ph : Phrase) (s : State) : Host.Outcome State Fault Refusal :=
  if s.wouldRun "LOAD_MAP_NOR" sess ph (loadNorAns sess ph) && (s.askHeavy 2).2.isNone then .next (s.askHeavy 2).1
  else .next (runRow "LOAD_MAP_NOR" sess ph (loadNorAns sess ph) s)

/-- The tiles of a set that find a slot, in order, and whether some did not. -/
def takeTiles (cov rx : Nat) : AMap (Nat × Int × Int) (Tab Nat) → AMap (Nat × Int × Int) (Tab Nat)
  | [] => []
  | t :: ts =>
    if coverLayer t.1.1 then (match cov with
      | 0 => takeTiles 0 rx ts
      | k + 1 => t :: takeTiles k rx ts)
    else (match rx with
      | 0 => takeTiles cov 0 ts
      | k + 1 => t :: takeTiles cov k ts)

/-- MAP_COPY_COMPLETE (R214): the saved set is whole, or the layers, their cell sizes and the origin are those of the set. -/
def execMapCopyComplete (r : CopyEnd) (s : State) : Host.Outcome State Fault Refusal :=
  match s.cellar.copy with
  | none => .next s
  | some (save, m, _) =>
    let s1 := { s with cellar := { s.cellar with copy := none } }
    if !r.ok then .next s1
    else if save then
      .next ({ s1 with cellar := { s1.cellar with saved := some m } }.celEv ("MAP SAVED tiles=" ++ toString m.tiles.length))
    else
      let s2 := s1.freeTiles fun _ => true
      let ts := takeTiles (s2.slots true) (s2.slots false) m.tiles
      let s3 := { s2 with cellar := { s2.cellar with tiles := ts } }.setOrigin m.origin
      let s4 := overList m.cells (fun c a => a.store .map c.1 "" (if coverLayer c.1 then "COVCELL" else "RXCELL") (.n c.2)) s3
      .next ((s4.bumpBy "MAPFULL_CNT" 0 (m.tiles.length - ts.length)).celEv ("MAP LOADED tiles=" ++ toString ts.length))

/-! ### The log (R217 to R220) -/

/-- LOG_INTERVAL (R217). -/
def execLogInterval (s : State) : Host.Outcome State Fault Refusal :=
  .next (overList (List.range 4) State.logWrite (s.tick "LOG" 0 (s.ns .log 0 "LOGINT")))

/-- LOG_CHANGE_WRITE (R217): the end of the 100 ms that merge changes of effective states. -/
def execLogChangeWrite (s : State) : Host.Outcome State Fault Refusal :=
  match s.cellar.logMerge with
  | none => .next s
  | some t =>
    let s1 := s.advanceTo t
    let s2 := { s1 with cellar := { s1.cellar with logMerge := none } }
    let due (n : Nat) : List Nat := (s2.sectionsOf n).filter fun k => (s2.secAt k).logDue
    let ns := (List.range 4).filter fun n => !(due n).isEmpty
    .next (overList ns (fun n a => overList (due n) (fun k b => b.setSec k { b.secAt k with logDue := false }) (a.logWrite n)) s2)

/-- A record is written to the ring with its number; the ring is erased ahead by 512 records (R219). -/
def State.logRingPut (r : LogRec) (s : State) : State :=
  let c := s.cellar
  let ring := if s.logSlots ≤ c.logRing.length then c.logRing.drop 512 else c.logRing
  { s with cellar := { c with logRing := ring ++ [{ r with seq := c.logSeq }], logSeq := (c.logSeq + 1) % 4294967296 } }

/-- LOG_NOR_WRITE (R219): the oldest waiting record is written, after a gap record where some were lost. -/
def execLogNorWrite (s : State) : Host.Outcome State Fault Refusal :=
  match s.cellar.logPend with
  | [] => .next s
  | r :: rest =>
    if !s.norReady then .next s
    else
      let s1 := { s with cellar := { s.cellar with logPend := rest } }
      let s2 := if s1.cellar.logLost = 0 then s1
        else { s1.logRingPut { typ := 0xA3, time := s1.now, target := s1.cellar.logLost } with
          cellar := { (s1.logRingPut { typ := 0xA3, time := s1.now, target := s1.cellar.logLost }).cellar with logLost := 0 } }
      .next (s2.logRingPut r)

/-- The bytes 0x00 to 0x3B of a record (Table CEL-4). -/
def LogRec.bytes (r : LogRec) : List Nat :=
  [r.typ, r.flags, r.prod, r.fix] ++ leBytes r.seq 4 ++ leBytes r.time 8 ++ leBytes (toTwos 32 r.lat) 4 ++ leBytes (toTwos 32 r.lon) 4
    ++ leBytes (toTwos 32 r.hgt) 4 ++ leBytes r.hdg 2 ++ leBytes (toTwos 16 r.spd) 2 ++ leBytes r.opn 8 ++ leBytes r.target 4 ++ leBytes r.actual 4
    ++ leBytes r.qty 4 ++ List.replicate 8 0

/-- The keys of a record, in the order of Table CEL-4. -/
def LogRec.keys (r : LogRec) : KVs :=
  [("type", showHex 2 r.typ), ("flags", showHex 2 r.flags), ("prod", if r.prod = 0xFF then "NONE" else toString r.prod),
   ("fix", ["NONE", "STD", "DGPS", "FLOAT", "FIXED"].getD r.fix "NONE"), ("seq", toString r.seq), ("time", toString r.time), ("lat", toString r.lat),
   ("lon", toString r.lon), ("hgt", toString r.hgt), ("hdg", toString r.hdg), ("spd", toString r.spd), ("open", showHex 16 r.opn),
   ("target", toString r.target), ("actual", toString r.actual), ("qty", toString r.qty), ("crc", showHex 8 (crc32 r.bytes))]

def State.logNewest (s : State) : Nat := s.cellar.logSeq - 1
def State.logOldest (s : State) : Nat := (s.cellar.logRing.head?.map LogRec.seq).getD s.cellar.logSeq

/-- GET_LOG (R220, R243). -/
def execGetLog (sess : Nat) (ph : Phrase) (s : State) : Host.Outcome State Fault Refusal :=
  .next (runRow "GET_LOG" sess ph (fun s =>
    let first := ((attrInt ph "FIRST" 0 4294967295).getD 0).toNat
    let cnt := ((attrInt ph "COUNT" 1 32).getD 1).toNat
    Ans.read (s.accessErr sess .get .log none ++ extraAttrs ph ["FIRST", "COUNT"] ++ needAttr ph "FIRST" (.int 0 4294967295) ++ needAttr ph "COUNT" (.int 1 32)
        ++ errIf (!s.norReady) .state)
      fun s =>
        let old := s.logOldest
        [[("oldest", toString old), ("newest", toString s.logNewest)]]
          ++ (if first < old then [[("gone", toString first ++ "-" ++ toString (min (first + cnt) old - 1))]] else [])
          ++ ((s.cellar.logRing.filter fun r => first ≤ r.seq && r.seq < first + cnt).map LogRec.keys)) s)

/-- RESET_LOG (R219). -/
def execResetLog (sess : Nat) (ph : Phrase) (s : State) : Host.Outcome State Fault Refusal :=
  .next (runRow "RESET_LOG" sess ph (fun s =>
    Ans.eff (errIf (s.nounRetired .log 0) .retired ++ s.accessErr sess .reset .log none ++ extraAttrs ph [] ++ errIf (!s.norReady) .state)
      fun s => { s with cellar := { s.cellar with logRing := [] } }) s)

/-! ### The larder's background pass (R221, R656) -/

/-- What is lost with a block (R656): the frames of a CAN block are the three at the front, the records of a block four, a trace or peer block one line or frame. -/
def State.blockLost (w : LarderLoss) (s : State) : State :=
  match w with
  | .free => s
  | .session i => s.endSession i
  | .compare m => s.faultPart (s.owner .odo m) "MEM"
  | .canRx n =>
    let q := (s.canAt n).rx
    (s.setCan n { s.canAt n with rx := q.drop 3 }).bumpBy "RXDROP_CNT" n (min 3 q.length)
  | .canTx n =>
    let q := (s.canAt n).tx
    overList (q.take 3) (fun t a => (a.bump "TXFAIL_CNT" n).txFail n t "DISARM") (s.setCan n { s.canAt n with tx := q.drop 3 })
  | .log =>
    let q := s.cellar.logPend
    overList (q.take 4) (fun _ a => a.logLose) { s with cellar := { s.cellar with logPend := q.drop 4 } }
  | .trace =>
    if s.trace.queue.isEmpty then s
    else { s with trace := { s.trace with queue := s.trace.queue.drop 1, lost := s.trace.lost + 1 } }.bump "TRLOST_CNT"
  | .attic =>
    let q := s.attic.pend
    overList (q.take 4) (fun r a => a.atticLose r.log) { s with attic := { s.attic with pend := q.drop 4 } }
  | .peer => { s with peer := { s.peer with tx := s.peer.tx.drop 1 } }

/-- LARDER_BACKGROUND_PASS (R221, R656). -/
def execLarderBackgroundPass (r : LarderRead) (s : State) : Host.Outcome State Fault Refusal :=
  let s1 := s.bumpBy "LAR_CORR_CNT" 0 r.corrected
  match r.lost with
  | none => .next s1
  | some (b, w) =>
    if 2048 ≤ b || s1.larder.bad.contains b then .next s1
    else
      let s2 := { s1 with larder := { s1.larder with bad := insertNat b s1.larder.bad } }
      let act := match w with
        | .compare _ => 4
        | _ => 1
      let prt := match w with
        | .compare m => some (s2.owner .odo m)
        | _ => none
      .next (s2.report { cls := 8, detail := 0x51, part := prt, v1 := b } act (State.blockLost w))

/-! ### What MAP, CELLAR, LOG and LARDER show -/

/-- A read-only attribute of MAP, of CELLAR, of LOG and of LARDER. -/
def State.mapRead (s : State) (ix : Option Nat) (name : String) : String :=
  match ix with
  | none => if name = "STATE" then (if s.mapBusy then "BUSY" else "IDLE") else (if s.cellar.saved.isSome then "VALID" else "NONE")
  | some l =>
    let k := s.tilesIn (· = l)
    if name = "TILES" then toString k
    else if s.cellar.fullEv.contains l then "FULL" else if k = 0 then "EMPTY" else "USED"

def memWord (m : MemState) : String := match m with
  | .none_ => "NONE"
  | .ready => "READY"
  | .failed => "FAILED"

def State.cellarRead (s : State) (name : String) : String :=
  if name = "PSSTATE" then memWord s.cellar.psram
  else if name = "NORSTATE" then memWord s.cellar.nor
  else if name = "NORSIZE" then toString (s.cellar.norKiB / 1024)
  else toString s.cellar.scrubMs

def State.logRead (s : State) (name : String) : String :=
  if name = "OLDEST" then toString s.logOldest else if name = "NEWEST" then toString s.logNewest else toString (s.cnt "LOG_DROP_CNT")

/-- SHARED: blocks taken beyond the guarantees, out of the pool (DEDUCED). -/
def State.larderShared (s : State) : Nat := 1280 - (owners.map fun o => s.larderUsed o - larderQuota o).sum

def State.larderRead (s : State) (ix : Option Nat) (name : String) : String :=
  match ix with
  | none => if name = "FREE" then toString s.larderFree else toString s.larderShared
  | some o => if name = "USED" then toString (s.larderUsed o) else if name = "QUOTA" then toString (larderQuota o) else toString (s.cnt "LAR_REFUSE_CNT" o)

/-- SET of a map layer's cell size, or of the field origin (R22, R23, R230). -/
def mapSet (sess : Nat) (ph : Phrase) (s : State) : Ans :=
  match ph.ix with
  | none =>
    Ans.eff (errIf (s.nounRetired .map 0) .retired ++ s.accessErr sess .set .map none ++ setAttrErrs (mapAttrs none) (s.sessAt sess).super ph ++ errIf s.anyImpl .state)
      (storeAttrs (mapAttrs none) .map 0 "" ph)
  | some _ => perInst sess ph (fun l s =>
    Ans.eff (s.unitErrs sess ph .map (some l) ++ setAttrErrs (mapAttrs (some l)) (s.sessAt sess).super ph ++ errIf (s.tilesIn (· = l) ≠ 0) .state)
      (storeAttrs (mapAttrs (some l)) .map l "" ph)) s

/-- SET LOG (R232). -/
def logSet (sess : Nat) (ph : Phrase) (s : State) : Ans :=
  Ans.eff (errIf (s.nounRetired .log 0) .retired ++ s.accessErr sess .set .log none ++ setAttrErrs logAttrs (s.sessAt sess).super ph ++ errIf s.anyImpl .state)
    (storeAttrs logAttrs .log 0 "" ph)

end Sys2Proof.Machine
end

