-- ==== Sys2Proof/Machine/Faults.lean ====
section
/-!
DEFINITION. Sys2Proof/Machine/Faults.lean: the rows of the single-fault chapter (19_faults.md), and what FAULT shows.
-/
namespace Sys2Proof.Machine

/-! ### Classes and their consequences (Table FLT-2) -/

/-- Every unit of a die is off by the hardware path and waits for a new switch-on (R651, R658); with SAFEN low nothing changes (R678). -/
def State.dieOff (b : Bool) (s : State) : State :=
  if s.safenLow then s
  else
    let s1 := overList ((List.range 56).filter fun u => s.unitPresent u && unitDieB u = b) (fun u a =>
      let on := (a.unitAt u).on || (a.unitAt u).enabled || (a.unitAt u).waiting.isSome
      let a1 := a.setUnit u { a.unitAt u with held := false, safe := false, railHold := true }
      (if on then a1.directOffState u else a1).hardOff u) s
    s1.dieSecs b

/-- A DIELINK or PDREG fault of a die (R651, R658): units off; a second within 1 s retires its eight drive islands. -/
def State.dieFault (b : Bool) (d : Detection) (s : State) : State :=
  let k := if b then 1 else 0
  let again := match Tab.get none s.faults.dieLast k with
    | some t => decide (s.now ≤ t + nsS)
    | none => false
  let s1 := { s with faults := { s.faults with dieLast := Tab.set none s.faults.dieLast k (some s.now) } }
  if again then s1.report d 3 fun a => overList ((List.range 8).map (· + (if b then 56 else 48))) (fun i x => x.retireIsland i d.cls d.detail) (a.dieOff b)
  else s1.report d 6 (State.dieOff b)

/-- The lane check of a twin pair ends (R42, R50, R159, R652, R653): the failing lane is retired, and both where both fail or both pass; one detection, naming lane A's island where both or neither failed; the signatures are free values. -/
def State.laneReport (cls a b : Nat) (failA failB : Bool) (s : State) : State :=
  let val := if failA && failB then 2 else if failA then 0 else if failB then 1 else 3
  let f := s.free
  let g := f.2.free
  let d : Detection := { cls := cls, detail := 0x20, island := some (if failB && !failA then b else a), val := val
                         v1 := f.1.toNat % 2 ^ 32, v2 := g.1.toNat % 2 ^ 32 }
  g.2.detectIsland d (if val = 0 then [a] else if val = 1 then [b] else [a, b])

/-- An odometry unit enters FAULTED, and its partition with it (R306). -/
def State.odoFault (m : Nat) (cause : String) (s : State) : State :=
  (((s.odoDown m 2).ev "ODO" (toPart (s.owner .odo m)) ("ODO." ++ toString m ++ " FAULTED cause=" ++ (if cause = "ODO-VETO" then "VETO" else "PLAUS"))).faultPart
    (s.owner .odo m) cause)

/-- A detection of class DRIVE of one unit: it is retired, with its pair (R396, R649). -/
def State.unitFault (u : Nat) (d : Detection) (s : State) : State := s.report d 2 (State.retireUnits (s.withPair u) false true "DIAG")

/-- A possible sense fault (R650): a second on the unit within 600 s is a DRIVE fault. -/
def State.senseFault (u : Nat) (s : State) : State :=
  let again := match Tab.get none s.faults.sense u with
    | some t => decide (s.now ≤ t + 600 * nsS)
    | none => false
  let s1 := { s with faults := { s.faults with sense := Tab.set none s.faults.sense u (some s.now) } }
  if again then s1.unitFault u { cls := 1, detail := 0x05, island := some (unitIsland u), unit := some u, part := some (s.unitOwner u) } else s1

/-- FAULT_DETECTION (R662): a report reaches the collector; the class and its detail decide the consequence. -/
def execFaultDetection (d : Detection) (s : State) : Host.Outcome State Fault Refusal :=
  let isl := d.island.getD 255
  let lanes := if d.val = 2 then [isl, isl + 1] else if d.val = 3 then [] else [isl]
  .next (
    if d.cls = 0 || 14 < d.cls then s
    else if d.cls = 1 then
      (match d.detail, d.unit with
        | 0x01, _ => if 48 ≤ isl && isl < 64 then s.detectIsland d [isl] else s
        | _, some u => if u < 56 && s.unitPresent u then s.unitFault u d else s
        | _, none => s)
    else if d.cls = 2 || (d.cls = 11 && d.detail = 0x81) then s.dieFault (d.val = 1) d
    else if d.cls = 3 || d.cls = 4 || d.cls = 5 then (if lanes.isEmpty then s.report d 1 id else s.detectIsland d lanes)
    else if d.cls = 6 then
      (match d.unit with
        | some m => if m < 8 then s.report d 4 (State.odoFault m (if d.detail = 0x30 then "ODO-VETO" else "ODO-PLAUS")) else s
        | none => s)
    else if d.cls = 12 then
      (match d.part with
        | some n => if n < 4 then s.report d 4 (State.faultPart n "HOSTHB") else s
        | none => s)
    else if d.cls = 7 && d.detail = 0x40 then s.report d 1 (State.setFix false s.gnss.nsv)
    else if d.cls = 8 && d.detail ≠ 0x50 then s.report d 1 id
    else if d.cls = 9 then s.report d 1 id
    else if isl < 64 then s.detectIsland d [isl] else s)

/-! ### Drive path (R648, R679) -/

/-- The switch states a unit commands, as bits 0 to 2: high side, freewheel, low side (Table DRV-2). -/
def swBits (w : SwState) : Nat := match w with
  | .drive => 5
  | .slow => 6
  | .fast => 2
  | .off => 0

/-- STATUS_FRAME (R648, R679): at a SYSTIME multiple of 100 µs, which switches' feedback differs from their command. Within 20 µs of a command nothing is counted; a second consecutive
mismatch is a DRIVE fault. -/
def execStatusFrame (u : Nat) (hs fw ls : Bool) (ts : Nat) (s : State) : Host.Outcome State Fault Refusal :=
  let s0 := s.advanceTo ts
  let x := s0.unitAt u
  let last := max x.phStart (x.decaySince.getD 0)
  let bad := hs || fw || ls
  let clear : State := { s0 with faults := { s0.faults with mism := Tab.set 0 s0.faults.mism u 0 } }
  if 56 ≤ u || !s0.unitPresent u || x.retired then .next s0
  else if !bad then .next clear
  else if s0.now < last + 20000 then .next s0
  else if Tab.get 0 s0.faults.mism u = 0 then .next { s0 with faults := { s0.faults with mism := Tab.set 0 s0.faults.mism u 1 } }
  else
    let cmd := swBits x.sw
    let obs := Nat.xor cmd ((if hs then 1 else 0) + (if fw then 2 else 0) + (if ls then 4 else 0))
    .next (clear.unitFault u { cls := 1, detail := if hs then 0x02 else if fw then 0x03 else 0x04, island := some (unitIsland u), unit := some u
                               part := some (s0.unitOwner u), v1 := cmd, v2 := obs })

/-- SEQ_WATCHDOG (R648): no frame from a drive island for 300 µs. -/
def execSeqWatchdog (island : Nat) (s : State) : Host.Outcome State Fault Refusal :=
  if 48 ≤ island && island < 64 && !s.retired island && !s.islandAbsent island then
    .next (s.detectIsland { cls := 1, detail := 0x01, island := some island } [island])
  else .next s

/-- DIELINK_FRAME_TIMEOUT (R651): a frame not delivered within 50 µs. -/
def execDielinkFrameTimeout (dieB : Bool) (s : State) : Host.Outcome State Fault Refusal :=
  if dieB && !s.hasDieB then .next s else .next (s.dieFault dieB { cls := 2, detail := 0x10, val := if dieB then 1 else 0 })

/-- DIELINK_RETRY (R651): masked. -/
def execDielinkRetry (dieB : Bool) (s : State) : Host.Outcome State Fault Refusal :=
  if dieB && !s.hasDieB then .next s else .next (s.bump "DL_RETRY_CNT" (if dieB then 1 else 0))

/-! ### Phrase and grant lanes (R652, R653) -/

/-- PHRASE_LANE_COMPARE (R652): every 100 µs a signature, and before a phrase executes its decoding, of session `decode`; a difference starts the 500 µs check. -/
def execPhraseLaneCompare (differ : Bool) (decode : Option Nat) (s : State) : Host.Outcome State Fault Refusal :=
  let s1 := match decode with
    | none => s.tick "PHLANE" 0 100000
    | some _ => s
  if !differ || s1.retired 2 || s1.retired 3 then .next s1
  else
    let dis := match decode with
      | some i => if s1.faults.disputed.contains i then s1.faults.disputed else s1.faults.disputed ++ [i]
      | none => s1.faults.disputed
    .next { s1 with faults := { s1.faults with disputed := dis, laneChk := some (s1.faults.laneChk.getD (s1.now + 500000)) } }

/-- PHRASE_LANE_CHECK_DONE (R652, R42, R50). -/
def execPhraseLaneCheckDone (failA failB : Bool) (s : State) : Host.Outcome State Fault Refusal :=
  match s.faults.laneChk with
  | none => .next s
  | some t =>
    let s1 := s.advanceTo t
    .next ({ s1 with faults := { s1.faults with laneChk := none } }.laneReport 5 2 3 failA failB)

/-- GRANT_LANE_CHECK_DONE (R438, R653). -/
def execGrantLaneCheckDone (failA failB : Bool) (s : State) : Host.Outcome State Fault Refusal :=
  match s.grants.chkEnd with
  | none => .next s
  | some t =>
    let s1 := s.advanceTo t
    .next ({ s1 with grants := { s1.grants with chkEnd := none, disagree := none } }.laneReport 4 37 38 failA failB)

/-! ### Clocks, memories, regulators, checkers -/

/-- The nominal clock of an island in kHz (Table MAC-4). -/
def islandKhz (i : Nat) : Nat := if i = 24 || 48 ≤ i then 24552 else 98208

/-- CLOCK_MONITOR_FAULT (R657): no edge for 10 µs, or outside ±2 %. -/
def execClockMonitorFault (island : Nat) (stop : Bool) (khz : Nat) (s : State) : Host.Outcome State Fault Refusal :=
  let nom := islandKhz island
  let off := nom * 102 < khz * 100 || khz * 100 < nom * 98
  if island = 0 || 64 ≤ island || s.islandAbsent island || s.retired island || !(stop || off) then .next s
  else .next (s.detectIsland { cls := 10, detail := if stop then 0x70 else 0x71, island := some island, v1 := if stop then 0 else khz, v2 := nom } [island])

/-- SRAM_BACKGROUND_PASS (R655): a single-bit error is corrected; a multi-bit one is a MEMORY fault of the island. -/
def execSramBackgroundPass (island : Nat) (multi : Bool) (s : State) : Host.Outcome State Fault Refusal :=
  if 64 ≤ island || s.islandAbsent island || s.retired island || !multi then .next s
  else .next (s.detectIsland { cls := 8, detail := 0x50, island := some island } [island])

/-- A power-on reset (R612, R618): nothing before it, and BOOT begins with cause POWERON. -/
def State.powerOn (s : State) : State := s.bootCut.bootFrom .poweron

/-- REGULATOR_OUT (R658). -/
def execRegulatorOut (r : Regulator) (s : State) : Host.Outcome State Fault Refusal :=
  .next (match r with
    | .vcore => if s.power.dstate = .off || s.power.dstate = .standby then s else s.powerOn
    | .rf => if s.hasGps && !s.retired 24 then s.detectIsland { cls := 11, detail := 0x80, island := some 24 } [24] else s
    | .dieA => s.dieFault false { cls := 11, detail := 0x81, val := 0 }
    | .dieB => if s.hasDieB then s.dieFault true { cls := 11, detail := 0x81, val := 1 } else s)

/-- A checker that failed to report is a CHECKER fault of the island that holds it (R659). -/
def State.checkerMissing (missing : Option Nat) (s : State) : State :=
  match missing with
  | some i => if i < 64 && !s.islandAbsent i && !s.retired i then s.detectIsland { cls := 13, detail := 0xA0, island := some i } [i] else s
  | none => s

/-- CHECKER_TEST (R659), every 60 s. -/
def execCheckerTest (missing : Option Nat) (s : State) : Host.Outcome State Fault Refusal :=
  .next (((s.tick "CHECKER" 0 (60 * nsS)).bump "CHKTEST_CNT").checkerMissing missing)

/-- TEST_FAULT (R659, R670, R681): the reply precedes the consequence. -/
def execTestFault (sess : Nat) (ph : Phrase) (missing : Option Nat) (s : State) : Host.Outcome State Fault Refusal :=
  .next (runRow "TEST_FAULT" sess ph (fun s =>
    { errs := s.accessErr sess .test .fault none ++ errIf ph.ix.isSome .attr (some ph.verbTok) ++ extraAttrs ph []
      act := fun s => (s.bump "CHKTEST_CNT", [[("result", if missing.isSome then "FAIL" else "PASS"), ("checker", match missing with
        | some i => islName i
        | none => "NONE")]])
      post := State.checkerMissing missing }) s)

/-- RESET_FAULT (R665): every latched bit is cleared, with EV FAULT ACK. -/
def execResetFault (sess : Nat) (ph : Phrase) (s : State) : Host.Outcome State Fault Refusal :=
  .next (runRow "RESET_FAULT" sess ph (fun s =>
    Ans.eff (s.accessErr sess .reset .fault none ++ errIf ph.ix.isSome .attr (some ph.verbTok) ++ extraAttrs ph [])
      fun s => ({ s with faults := { s.faults with latch := [] } }).ev "FLT" .all ("FAULT ACK latched=" ++ s.latchedText)) s)

/-! ### Host heartbeat (R660, R661) -/

/-- HOSTHB_EXPIRY (R661): the first 1 ms tick at or after HBTIME. -/
def execHosthbExpiry (part : Nat) (s : State) : Host.Outcome State Fault Refusal :=
  let p := s.partAt part
  match p.state, s.natOpt .fault part "HBTIME" with
  | .running, some us =>
    let s1 := s.advanceTo (ceilDiv (p.hbStart + 1000 * us) nsMs * nsMs)
    let s2 := s1.report { cls := 12, detail := 0x90, part := some part } 4 (State.faultPart part "HOSTHB")
    .next (s2.setPart part { s2.partAt part with hbexp := (s2.partAt part).hbexp + 1 })
  | _, _ => .next s

/-- HBLEFT in ms, rounded up. -/
def State.hbLeft (s : State) (n : Nat) : Option Nat :=
  match (s.partAt n).state, s.natOpt .fault n "HBTIME" with
  | .running, some us => some (ceilDiv ((s.partAt n).hbStart + 1000 * us - s.now) nsMs)
  | _, _ => none

/-! ### Coverage (R669, Table FLT-5) -/

def gapWords : List String := ["HB", "CHECK", "SCRUB", "SINGLE", "ODO", "GPS", "SENSE", "CLAMP"]

/-- The gaps present, as numbers of Table FLT-5 from 0. -/
def State.gaps (s : State) : List Nat :=
  let run := (List.range 4).filter fun n => (s.implAt n).running
  let used := (List.range 56).filter fun u => s.unitPresent u && s.unitInUse u
  let low (u : Nat) : Bool := 48 ≤ u || s.uWord u "WIRING" = "LOWSIDE"
  let hb := (List.range 4).any fun n => (s.partAt n).state = .running && match s.natOpt .fault n "HBTIME" with
    | some us => decide (1000000 < us)
    | none => true
  let chk := allSessions.any fun i => match (s.sessAt i).unchecked with
    | some t => decide (s.now < t + 60 * nsS)
    | none => false
  let single := [(2, 3), (10, 11), (37, 38)].any fun p => s.lanes p.1 p.2 = "SINGLE"
  let odo := run.any fun n => match s.natOpt .impl n "ODO" with
    | some m => s.list .odo m "PLAUS" = [0] || (s.odoAt m).plst = 2
    | none => false
  let gps := s.word .gnss 0 "NEEDCHK" = "OFF" && run.any s.usesGnss
  let sense := used.any fun u => low u || !s.isOn .diag u "ONDIAG" || 1000 < s.nat .diag u "BLANK" + s.nat .diag u "ONFILT"
  let clamp := used.any fun u => !low u && 1000 * s.uNat u "CLAMP" < (if unitDieB u then s.power.vdrvB else s.power.vdrvA) + 2000
  let flags := [hb, chk, s.cellar.psram ≠ .ready || 60000 < s.cellar.scrubMs, single, odo, gps, sense, clamp]
  (List.range 8).filter fun k => flags.getD k false

def State.gapText (s : State) : String :=
  let g := s.gaps
  if g.isEmpty then "NONE" else joinWith "," (g.map fun k => gapWords.getD k "")
def State.coverText (s : State) : String := if s.gaps.isEmpty then "FULL" else "PARTIAL"

/-- The coverage now, as the next EV FAULT COVER compares it. -/
def State.coverNow (s : State) : Bool × List String := (s.gaps.isEmpty, s.gaps.map fun k => gapWords.getD k "")

/-- FAULT_COVER_EVENT (R669): a change since the last line or the baseline, at most once per second. -/
def execFaultCoverEvent (s : State) : Host.Outcome State Fault Refusal :=
  let s1 := match s.faults.coverAt with
    | some t => s.advanceTo (t + nsS)
    | none => s
  match s1.faults.coverBase with
  | none => .next s
  | some b =>
    if s1.coverNow = b then .next s
    else
      .next (({ s1 with faults := { s1.faults with coverBase := some s1.coverNow, coverAt := some s1.now } }).ev "FLT" .all
        ("FAULT COVER cover=" ++ s1.coverText ++ " gaps=" ++ s1.gapText))

/-! ### What FAULT shows (R670, R671) -/

/-- A read-only attribute of FAULT or FAULT.n. -/
def State.faultRead (s : State) (n : Nat) (name : String) : String :=
  if name = "COVER" then s.coverText
  else if name = "GAPS" then s.gapText
  else if name = "LATCHED" then s.latchedText
  else if name = "LAST" then (if s.faults.lastCls = 0 then "NONE" else classCode s.faults.lastCls)
  else if name = "FLTN" then (if s.fltn then "ASSERTED" else "RELEASED")
  else if name = "HBLEFT" then numOrNone (s.hbLeft n)
  else toString (s.partAt n).hbexp

end Sys2Proof.Machine
end

