-- ==== Sys2Proof/Machine/Diag.lean ====
section
/-!
DEFINITION. Sys2Proof/Machine/Diag.lean: diagnosis of the drive units (11_drive_diagnostics.md): on-state and off-state decisions, the cut-offs, findings, re-tests, sweeps, TEST and
RESET of DIAG, and what DIAG shows.
-/
namespace Sys2Proof.Machine

/-! ### Decisions (R400, R404) -/

/-- Current present: at least 20 mA. -/
def present (ma : Nat) : Bool := 20 ≤ ma

/-- Table DIA-2, its rows in order. -/
def onTwoTerm (pair : Bool) (r : OnReading) : Nat :=
  let hi := max r.ih r.il
  if !present r.ih && !present r.il then 1
  else if present r.ih && !present r.il then 3
  else if !present r.ih && present r.il then 4
  else if pair && (r.share < 300 || 700 < r.share) then 12
  else if hi + 500 < 10 * (hi - min r.ih r.il) then 9
  else 0

/-- The on-state result of unit u (R400); of a gate driver, its gate and its shunt current decide. -/
def State.onDecide (s : State) (u : Nat) (r : OnReading) : Nat :=
  if 48 ≤ u then (if !r.gateOk then 13 else if present r.ih then 0 else 10)
  else if s.uWord u "WIRING" = "LOWSIDE" then (if present r.il then 0 else 10)
  else onTwoTerm (s.pairEven u) r

/-- Table DIA-3, a TWOTERM channel. -/
def offTwoTerm (h l : Level3) : Nat :=
  match h, l with
  | .mid, .mid => 0
  | .high, .low => 1
  | .low, .low => 7
  | .high, .high => 8
  | _, _ => 9

/-- Table DIA-3, a LOWSIDE channel or a gate driver. -/
def offLow (l : Level3) : Nat :=
  match l with
  | .high => 0
  | .low => 10
  | .mid => 9

/-- The off-state result of unit u (R404): OVERTEMP goes first, and a gate left on. -/
def State.offDecide (s : State) (u : Nat) (r : OffReading) : Nat :=
  if 48 ≤ u then (if r.gateHigh then 13 else offLow r.outl)
  else if 170 ≤ r.temp then 6
  else if s.uWord u "WIRING" = "LOWSIDE" then offLow r.outl
  else offTwoTerm r.outh r.outl

/-! ### Findings (R409 to R412) -/

/-- TEMP of a channel, held within its range (Table DIA-4). -/
def heldTemp (t : Int) : Int := max (-40) (min 195 t)
/-- The code of a temperature: + 60 °C; 0 for a gate driver. -/
def tempCode (u : Nat) (t : Int) : Nat := if 48 ≤ u then 0 else (heldTemp t + 60).toNat

/-- The unit that is diagnosed for u: a linked pair by its even member. -/
def State.diagUnit (s : State) (u : Nat) : Nat := if s.pairOdd u then u - 1 else u

/-- Unit u is SUSPECT: within the 60 s (R409, R424). -/
def State.suspect (s : State) (u : Nat) : Bool :=
  match (s.unitAt u).suspectEnd with
  | some t => decide (s.now ≤ t)
  | none => false

/-- Retirement by diagnosis (R409, R412). -/
def State.diagRetire (u code : Nat) (s : State) : State :=
  let us := s.withPair u
  let x := s.unitAt u
  let s1 := overList us (fun v a => a.setUnit v { a.unitAt v with dcause := code }) s
  let s2 := s1.retireUnits us false false "DIAG"
  let s3 := s2.service 0x0205 43 255 255 4 ([u, code] ++ leBytes x.findih 2 ++ leBytes x.findil 2 ++ [tempCode u x.temp])
  if s.isOn .diag u "FLTNON" then s3.latch 15 else s3

/-- A unit becomes SUSPECT, or its 60 s begin again: it is switched off, unless a cut-off has done so; its latest command, `was`, is recorded, but that of a cut is discarded (R426). -/
def State.diagSuspect (u code src : Nat) (was : Bool) (s : State) : State :=
  let s1 := if src = 2 then s else s.offSwitch u
  let x := s1.unitAt u
  (s1.setUnit u { x with
    suspectEnd := some (s.now + 60 * nsS), blocked := true, enabled := false, retestAt := some (s.now + 10 * nsMs), dcause := code, findOn := src ≠ 1
    recorded := some (was && !x.cut) }).diagEv u false ("SUSPECT result=" ++ diagWord code)

/-- A finding (R409, R411): `src` 0 ON, 1 OFF, 2 CUT, `again` where it counts as the second confirmation in any case (R410). -/
def State.finding (u code src ih il : Nat) (was again : Bool) (s : State) : State :=
  let confirmed := s.suspect u || again
  let s1 := (s.setUnit u { s.unitAt u with findih := ih, findil := il }).bump "FIND_CNT" u
  let s2 := s1.diagEv u false ("FIND result=" ++ diagWord code ++ " src=" ++ ["ON", "OFF", "CUT"].getD src "ON" ++ " ih=" ++ toString ih ++ " il=" ++ toString il ++ " temp=" ++
    (if 48 ≤ u then "NONE" else toString (heldTemp (s1.unitAt u).temp)))
  if s.word .diag u "ACTION" = "REPORT" then s2
  else if confirmed then s2.diagRetire u code
  else s2.diagSuspect u code src was

/-- What a measurement leaves in the unit's readings. -/
def Unit_.measured (x : Unit_) (u : Nat) (r : OnReading) : Unit_ :=
  if u < 48 then { x with ihs := r.ih, ils := r.il, temp := r.temp } else { x with ish := r.ih, vds := r.il }

/-- ONSTATE_FINDING (R399, R400): a condition has held for ONFILT within the evaluation interval. With ONDIAG=OFF, SAFEN low, or a pulse that ends before, nothing is evaluated. -/
def execOnstateFinding (u : Nat) (r : OnReading) (s : State) : Host.Outcome State Fault Refusal :=
  let v := s.diagUnit u
  let x := s.unitAt v
  let t := x.onAt + s.ns .diag v "BLANK" + s.ns .diag v "ONFILT"
  let short := match x.pulseEnd with
    | some e => decide (e < t)
    | none => false
  if !x.on || s.safenLow || !s.isOn .diag v "ONDIAG" || short || x.retired then .next s
  else
    let s0 := s.advanceTo t
    let code := s0.onDecide v r
    let s1 := s0.setUnit v { x.measured v r with onres := code }
    .next (if code = 0 then s1 else s1.finding v code 0 r.ih r.il x.enabled false)

/-- The finding of an overcurrent cut-off, by the switches that trip (R401); of a gate driver SHORT-LOAD. -/
def tripCode (u : Nat) (hs fw ls : Bool) : Nat :=
  if 48 ≤ u || (hs && ls) then 11 else if hs then 2 else if fw then 4 else 5

/-- OVERCURRENT_TRIP (R401, R422). -/
def execOvercurrentTrip (u : Nat) (hs fw ls : Bool) (r : OnReading) (s : State) : Host.Outcome State Fault Refusal :=
  let v := s.diagUnit u
  let x := s.unitAt v
  let code := tripCode v hs fw ls
  if 56 ≤ u || !s.unitPresent v || x.retired || !(hs || fw || ls) then .next s
  else
    let s1 := (s.setUnit v { x.measured v r with onres := code }).hardOff v
    .next ((s1.bump "OC_CNT" v).finding v code 2 r.ih r.il x.enabled false)

/-- OVERTEMP_TRIP (R402). -/
def execOvertempTrip (u : Nat) (temp : Int) (s : State) : Host.Outcome State Fault Refusal :=
  let v := s.diagUnit u
  let x := s.unitAt v
  if 48 ≤ u || !s.unitPresent v || x.retired || x.otwait || temp < 170 then .next s
  else
    let s1 := (s.setUnit v { x with temp := temp, otwait := true, onres := 6 }).hardOff v
    .next ((s1.bump "OT_CNT" v).finding v 6 2 x.ihs x.ils x.enabled false)

/-! ### Acceptance after a re-test (R410) -/

/-- A finding of a kind that the off state can see (R410). -/
def offVisible (c : Nat) : Bool := 1 ≤ c && c ≤ 5

/-- The unit accepts commands again: EV DIAG.u OK, and a recorded switch-on takes effect; an on-state finding that the off state could see goes to the fault collector. -/
def State.diagAccept (u : Nat) (s : State) : State :=
  let x := s.unitAt u
  let s1 := (s.setUnit u { x with blocked := false, retestAt := none, recorded := if x.cut then x.recorded else none }).diagEv u false "OK"
  let s2 := if x.recorded = some true && !x.cut then (s1.unitOn u 0 none).1 else s1
  if x.findOn && offVisible x.dcause then s2.senseFault u else s2

/-- OVERTEMP_RELEASE (R402, R410): below 150 °C; a re-test already passed takes effect now. -/
def execOvertempRelease (u : Nat) (temp : Int) (s : State) : Host.Outcome State Fault Refusal :=
  let v := s.diagUnit u
  let x := s.unitAt v
  if !x.otwait || 150 ≤ temp then .next s
  else
    let s1 := s.setUnit v { x with temp := temp, otwait := false }
    .next (if x.blocked && x.retestAt.isNone && !x.retired then s1.diagAccept v else s1)

/-! ### Off-state tests (R405 to R408) -/

/-- A calibration of the unit runs. -/
def State.calRuns (s : State) (u : Nat) : Bool :=
  match (s.unitAt u).calStart with
  | some t => decide (s.now < t + 50000)
  | none => false

/-- Unit u is eligible for a test (R405). -/
def State.eligible (s : State) (u : Nat) : Bool :=
  let x := s.unitAt u
  u < 56 && s.unitPresent u && !x.on && x.decaySince.isNone && x.offDone + nsMs ≤ s.now && !s.onDueWithin u 300000 && !s.calRuns u && !s.safenLow && x.testing.isNone

/-- A test of unit u that no switch-on breaks off: 250 µs, then its result, or none where it is void. -/
def State.testRun (u : Nat) (r : OffReading) (s : State) : State × Option Nat :=
  let s1 := s.advanceTo (s.now + 250000)
  if !r.stable then (s1.bump "VOID_CNT" u, none)
  else
    let code := s1.offDecide u r
    let x := s1.unitAt u
    ((s1.setUnit u { x with offres := code, temp := if u < 48 then r.temp else x.temp }).bump "TEST_CNT" u, some code)

/-- The VDS or IL and the current that a finding of the off state reports. -/
def State.offFinding (u code : Nat) (again : Bool) (s : State) : State :=
  let x := s.unitAt u
  s.finding u code 1 0 (if u < 48 then 0 else x.vds) x.enabled again

/-- A test's result other than OK on a unit in use is a finding (R407). -/
def State.testJudged (u : Nat) (code : Option Nat) (s : State) : State :=
  match code with
  | some c => if c ≠ 0 && s.unitInUse u then s.offFinding u c false else s
  | none => s

/-- The units that a sweep tests. -/
def State.sweepUnits (s : State) : List Nat :=
  (List.range 56).filter fun u => s.unitPresent u && !s.pairOdd u && !(s.unitAt u).retired && s.isOn .diag u "SWEEP"

/-- DIAG_SWEEP_START (R407): each 100 ms, for units with SWEEP=ON; a sweep still without its grant's start, or refused, is skipped whole. -/
def execDiagSweepStart (s : State) : Host.Outcome State Fault Refusal :=
  let s0 := s.tick "SWEEP" 0 (100 * nsMs)
  if s0.sweepUnits.isEmpty then .next { s0 with grants := { s0.grants with sweep := none } }
  else
    let late := match s0.grants.sweep with
      | some t => decide (s0.now < t)
      | none => false
    let s1 := if late then (s0.dropGrants 103).bump "SWEEPSKIP_CNT" else s0
    let s2 := overList (List.range 56) (fun u a => if (a.unitAt u).swept then a.setUnit u { a.unitAt u with swept := false } else a) s1
    let r := s2.askHeavy 3
    .next (match r.2 with
      | some t => { r.1 with grants := { r.1.grants with sweep := some t } }
      | none => ({ r.1 with grants := { r.1.grants with sweep := none } }).bump "SWEEPSKIP_CNT")

/-- OFFSTATE_TEST_START (R407): in a sweep whose grant is issued, at the first 1 ms tick at which the unit is eligible. -/
def execOffstateTestStart (u : Nat) (s : State) : Host.Outcome State Fault Refusal :=
  match s.grants.sweep with
  | none => .next s
  | some t =>
    let s0 := s.advanceTo (ceilDiv (max s.now t) nsMs * nsMs)
    let x := s0.unitAt u
    if s0.sweepUnits.contains u && !x.swept && s0.eligible u then .next (s0.setUnit u { x with testing := some (s0.now, 0), swept := true }) else .next s

/-- OFFSTATE_TEST_COMPLETE (R405, R407). -/
def execOffstateTestComplete (u : Nat) (r : OffReading) (s : State) : Host.Outcome State Fault Refusal :=
  let x := s.unitAt u
  match x.testing with
  | none => .next s
  | some (t, _) =>
    let q := (s.setUnit u { x with testing := none }).testRun u r
    let s1 := { q.1 with times := s.times }.advanceTo (t + 250000)
    .next (s1.testJudged u q.2)

/-- DIAG_RETEST (R410): 10 ms after the switch-off completed, or after a void re-test, once the unit is eligible. -/
def execDiagRetest (u : Nat) (r : OffReading) (s : State) : Host.Outcome State Fault Refusal :=
  let x := s.unitAt u
  match x.blocked && !x.retired, x.retestAt with
  | true, some t =>
    let s0 := s.advanceTo (max t (x.offDone + 10 * nsMs))
    if !s0.eligible u then .next s
    else
      let q := s0.testRun u r
      .next (match q.2 with
        | none => q.1.setUnit u { q.1.unitAt u with retestAt := some (q.1.now + 10 * nsMs) }
        | some 0 =>
          if (q.1.unitAt u).dcause = 6 && (q.1.unitAt u).otwait then q.1.setUnit u { q.1.unitAt u with retestAt := none } else q.1.diagAccept u
        | some c => q.1.offFinding u c true)
  | _, _ => .next s

/-- SUSPECT_EXPIRY (R409, R423): the 60 s end. -/
def execSuspectExpiry (u : Nat) (s : State) : Host.Outcome State Fault Refusal :=
  match (s.unitAt u).suspectEnd with
  | some t =>
    let s1 := s.advanceTo t
    .next (s1.setUnit u { s1.unitAt u with suspectEnd := none })
  | none => .next s

/-- The tests of BOOT and of the wake sequence (R407, R408): each present unit once; with SAFEN low they are left for later. -/
def State.bootTests (safen : Bool) (rs : List (Nat × OffReading)) (s : State) : State :=
  overList ((List.range 56).filter s.unitPresent) (fun u a =>
    let x := a.unitAt u
    let r := ((rs.find? fun p => p.1 = u).map Prod.snd).getD {}
    if !safen then a.setUnit u { x with bootDue := true }
    else if r.stable then
      (a.setUnit u { x with bootres := a.offDecide u r, bootDue := false, temp := if u < 48 then r.temp else x.temp }).bump "TEST_CNT" u
    else a.bump "VOID_CNT" u) s

/-- DEFERRED_BOOTRES_TEST (R408): at the unit's first eligibility after SAFEN has gone high. -/
def execDeferredBootresTest (u : Nat) (r : OffReading) (s : State) : Host.Outcome State Fault Refusal :=
  if !(s.unitAt u).bootDue || !s.eligible u then .next s
  else
    let old := (s.unitAt u).offres
    let q := s.testRun u r
    .next (match q.2 with
      | some c => q.1.setUnit u { q.1.unitAt u with bootres := c, bootDue := false, offres := old }
      | none => q.1)

/-! ### TEST, RESET and SET of DIAG (R417 to R419) -/

/-- The first instant within 10 ms at which the unit is eligible as it stands: after 1 ms off, and after a calibration. -/
def State.eligibleAt (s : State) (u : Nat) : Option Nat :=
  let x := s.unitAt u
  let t := max s.now (max (x.offDone + nsMs) (match x.calStart with
    | some c => c + 50000
    | none => 0))
  if t ≤ s.now + 10 * nsMs && (s.advanceTo t).eligible u then some t else none

/-- The reading a TEST or RESET brings for a unit. -/
def readingOf (rs : List (Nat × OffReading)) (u : Nat) : OffReading := ((rs.find? fun p => p.1 = u).map Prod.snd).getD {}

/-- A test on demand: at the first eligibility within 10 ms, its state and its result. -/
def State.demandTest (u : Nat) (r : OffReading) (s : State) : State × Option Nat :=
  match s.eligibleAt u with
  | some t => (s.advanceTo t).testRun u r
  | none => (s, none)

/-- The phrase passes the checks made outside its own. -/
def State.passesOuter (s : State) (sess : Nat) (ph : Phrase) : Bool := (s.deviceErr ph).isEmpty && (ph.checked || !(s.sessAt sess).reqcheck)

/-- TEST_DIAG (R417): E-BUSY for a SUSPECT unit, where none is eligible within 10 ms, and for a void test. -/
def execTestDiag (sess : Nat) (ph : Phrase) (r : List (Nat × OffReading)) (s : State) : Host.Outcome State Fault Refusal :=
  .next (runRow "TEST_DIAG" sess ph (fun s => perInst sess ph (fun i s =>
    let u := s.diagUnit i
    let pre := s.unitErrs sess ph .diag (some i) ++ errIf (s.unitAt i).retired .retired ++ extraAttrs ph []
    let q := s.demandTest u (readingOf r i)
    match pre.isEmpty && !s.suspect u && !(s.unitAt u).blocked, q.2 with
    | true, some c => { act := fun s =>
        let q := s.demandTest u (readingOf r i)
        (q.1.testJudged u (some c), [[("unit", toString i), ("result", diagWord c)]]) }
    | run, _ => { errs := pre ++ errIf true .busy
                  onErr := some fun e s => if e = .busy && run && s.passesOuter sess ph then (s.demandTest u (readingOf r i)).1 else s }) s) s)

/-- The unit returns to ACTIVE with no suspicion (R418). -/
def State.diagRestore (u : Nat) (s : State) : State :=
  let s1 := overList (s.withPair u) (fun v a => a.setUnit v { a.unitAt v with
    retired := false, suspectEnd := none, blocked := false, retestAt := none, recorded := none, dcause := 15, otwait := false }) s
  (s1.diagEv u true "RESTORED").service 0x0206 43 255 255 4 [u]

/-- RESET_DIAG (R418, R668). -/
def execResetDiag (sess : Nat) (ph : Phrase) (r : List (Nat × OffReading)) (s : State) : Host.Outcome State Fault Refusal :=
  .next (runRow "RESET_DIAG" sess ph (fun s => perInst sess ph (fun i s =>
    let u := s.diagUnit i
    let x := s.unitAt u
    let pre := s.unitErrs sess ph .diag (some i) ++ errIf x.retIsland .retired ++ errIf (!(s.sessAt sess).super) .auth ++ extraAttrs ph []
      ++ errIf (s.unitInUse u || !x.retired || x.retFault) .state
    let q := s.demandTest u (readingOf r i)
    let ran (code : ECode) : ECode → State → State := fun e s =>
      if e = code && pre.isEmpty && s.passesOuter sess ph then (s.demandTest u (readingOf r i)).1 else s
    match q.2 with
    | some 0 => Ans.eff pre fun s => (s.demandTest u (readingOf r i)).1.diagRestore u
    | some _ => { errs := pre ++ errIf true .state, onErr := some (ran .state) }
    | none => { errs := pre ++ errIf true .busy, onErr := some (ran .busy) }) s) s)

/-- SET of DIAG (R419): while a pair is linked the odd member is read-only; only while the unit is not in use. -/
def diagSet (sess : Nat) (ph : Phrase) (s : State) : Ans :=
  perInst sess ph (fun i s =>
    Ans.eff (s.unitErrs sess ph .diag (some i) ++ errIf (s.unitAt i).retired .retired ++ errIf (s.pairOdd i) .attr (some ph.nounTok)
        ++ setAttrErrs diagAttrs (s.sessAt sess).super ph ++ errIf (s.unitInUse i) .state)
      (storeAttrs diagAttrs .diag i "" ph)) s

/-- LIFE as a code of Table DIA-7: 0 ACTIVE, 1 RETIRED, 2 ABSENT, 3 SUSPECT. -/
def State.lifeCode (s : State) (u : Nat) : Nat :=
  if !s.unitPresent u then 2 else if (s.unitAt u).retired then 1 else if (s.unitAt u).suspectEnd.isSome then 3 else 0

/-- A read-only attribute of DIAG.u. -/
def State.diagRead (s : State) (u : Nat) (name : String) : String :=
  let x := s.unitAt u
  if name = "LIFE" then ["ACTIVE", "RETIRED", "ABSENT", "SUSPECT"].getD (s.lifeCode u) "ACTIVE"
  else if name = "ONRES" then diagWord x.onres
  else if name = "OFFRES" then diagWord x.offres
  else if name = "BOOTRES" then diagWord x.bootres
  else if name = "CAUSE" then diagWord x.dcause
  else if 48 ≤ u then "NONE" else toString (heldTemp x.temp)

end Sys2Proof.Machine
end

