-- ==== Sys2Proof/Machine/Geo.lean ====
section
/-!
DEFINITION. Sys2Proof/Machine/Geo.lean: the geometry of R20, R21, R25 and R137 in integers: sine and cosine, courses, and the field frame on the WGS 84 ellipsoid.
Angles are in nanodegrees or microdegrees; sines carry the factor `trigOne`.
-/
namespace Sys2Proof.Machine

/-- The unit in which sines and cosines are given. -/
abbrev trigOne : Int := 1000000000000000000
/-- The same as a natural number. -/
abbrev trigNat : Nat := 1000000000000000000

/-- The terms of the series of sine and cosine: `t` is the term of order `k`, `sq` the square of the angle. -/
def trigTerms (sq : Int) : Nat → Int → Int → Int
  | 0, _, _ => 0
  | n + 1, k, t => t + trigTerms sq n (k + 2) (-(t * sq / trigOne / ((k + 1) * (k + 2))))

/-- Sine and cosine of an angle of at most 45 degrees, in nanodegrees. -/
def smallTrig (x : Int) : Int × Int :=
  let r := x * 17453292519943295769 / 1000000000000
  let sq := r * r / trigOne
  (trigTerms sq 11 1 r, trigTerms sq 12 0 trigOne)

/-- Sine and cosine of an angle in nanodegrees. -/
def sinCosN (x : Int) : Int × Int :=
  let q := (x + 45000000000) / 90000000000
  let s := smallTrig (x - q * 90000000000)
  match (q % 4).toNat with
  | 0 => s
  | 1 => (s.2, -s.1)
  | 2 => (-s.1, -s.2)
  | _ => (-s.2, s.1)

/-- Sine and cosine of an angle in microdegrees. -/
def sinCos (x : Int) : Int × Int := sinCosN (x * 1000)

/-- An integer square root, by its bits from `k` down. -/
def isqrtBits : Nat → Nat → Nat → Nat
  | 0, r, n => if (r + 1) * (r + 1) ≤ n then r + 1 else r
  | k + 1, r, n => isqrtBits k (if (r + 2 ^ (k + 1)) * (r + 2 ^ (k + 1)) ≤ n then r + 2 ^ (k + 1) else r) n
def isqrt (n : Nat) : Nat := isqrtBits 63 0 n

/-- The least angle in [0, 90°], in microdegrees, whose tangent reaches e over n, both not negative. -/
def quarterCourse (e n : Int) : Nat → Int → Int → Int
  | 0, _, hi => hi
  | k + 1, lo, hi =>
    let mid := (lo + hi) / 2
    let s := sinCos mid
    if e * s.2 ≤ n * s.1 then quarterCourse e n k lo mid else quarterCourse e n k mid hi

/-- The course of a displacement, clockwise from north, in microdegrees (R20). -/
def course (e n : Int) : Int :=
  let a := quarterCourse (if e < 0 then -e else e) (if n < 0 then -n else n) 27 0 90000000
  if 0 ≤ e then (if 0 ≤ n then a else 180000000 - a) % 360000000
  else if 0 ≤ n then (360000000 - a) % 360000000 else 180000000 + a

/-- An angle wrapped into ±180°, microdegrees. -/
def wrapAngle (x : Int) : Int := (x + 180000000) % 360000000 - 180000000

/-- Earth-centred coordinates in µm of a latitude and longitude in nanodegrees and a height in mm, on WGS 84 (R21). -/
def ecef (lat lon hgt : Int) : Int × Int × Int :=
  let p := sinCosN lat
  let l := sinCosN lon
  -- 1 - e² sin² φ, times 10^36
  let w := (10 : Int) ^ 36 - 6694379990141317 * (p.1 * p.1) / 1000000000000000000
  let n := (6378137000000 : Int) * trigOne / (isqrt w.toNat : Int)
  let h := hgt * 1000
  let r := (n + h) * p.2
  (r * l.2 / (trigOne * trigOne), r * l.1 / (trigOne * trigOne),
    (n * (trigOne - 6694379990141317) / trigOne + h) * p.1 / trigOne)

/-- East and north in µm of a position as seen from another at height 0 (R21), rounded to whole mm. -/
def eastNorth (lat lon hgt lat0 lon0 : Int) : Int × Int :=
  let a := ecef lat lon hgt
  let b := ecef lat0 lon0 0
  let dx := a.1 - b.1
  let dy := a.2.1 - b.2.1
  let dz := a.2.2 - b.2.2
  let p := sinCosN lat0
  let l := sinCosN lon0
  let e := (l.2 * dy - l.1 * dx) / trigOne
  let n := (p.2 * dz - p.1 * ((l.2 * dx + l.1 * dy) / trigOne)) / trigOne
  (1000 * divRound e 1000, 1000 * divRound n 1000)

/-- A position in the field frame whose origin is in millidegrees (R21, R22), µm. -/
def toField (lat lon hgt : Int) (o : Int × Int) : Int × Int := eastNorth lat lon hgt (o.1 * 1000000) (o.2 * 1000000)

/-- A machine point in µm at a pose in the field frame (R25): whole mm, in µm. -/
def machineToField (e n h x y : Int) : Int × Int :=
  let t := sinCos h
  (1000 * divRound (e * trigOne + x * t.1 - y * t.2) (1000 * trigNat), 1000 * divRound (n * trigOne + x * t.2 + y * t.1) (1000 * trigNat))

end Sys2Proof.Machine
end

