-- ==== Sys2Proof/Machine/Odometry.lean ====
section
/-!
DEFINITION. Sys2Proof/Machine/Odometry.lean: the rows of the odometry units and the serial sensor ports (08_odometry.md).
-/
namespace Sys2Proof.Machine

/-! ### Entries that fire (R294, R297) -/

/-- An event of ODO.n. -/
def State.odoEv (n : Nat) (t : String) (s : State) : State := s.ev "ODO" (toPart (s.owner .odo n)) ("ODO." ++ toString n ++ " " ++ t)

/-- `tag=<t> value=<v>`. -/
def Entry.keys (e : Entry) : String := " tag=" ++ toString e.tag ++ " value=" ++ toString e.value

/-- An entry delivers its action (R297): the trigger path, a directly operated unit, or an event; with PULSE=1 the CMP output becomes active. -/
def State.deliver (n : Nat) (e : Entry) (s : State) : State :=
  let s1 := (s.bump "CMPFIRE_CNT" n).traceLine 2 "ODO" ("ODO." ++ toString n ++ " FIRE")
  let s2 := if e.pulse then s1.setOdo n { s1.odoAt n with cmpOn := true, cmpEnd := s1.now + s1.ns .odo n "PULSEW" } else s1
  let unit (u : Nat) (on : Bool) : State := if (s2.unitAt u).direct then s2.directSet u on else s2
  match e.act with
  | 1 => s2.odoEv n ("CMP" ++ e.keys)
  | 2 => s2.fireTrig e
  | 3 => unit e.unit true
  | 4 => unit e.unit false
  | 5 => unit (48 + e.unit) true
  | 6 => unit (48 + e.unit) false
  | _ => s2

/-- The host or the planner writes an entry, which the refill promotes (R293). -/
def State.writeEntry (n : Nat) (e : Entry) (s : State) : State := s.setOdo n ((s.odoAt n).write e)

/-- CMP_LIST_REFILL (R293, R294): one entry in 0.5 µs; an entry passed in the queue fires late at its promotion. -/
def execCmpListRefill (unit : Nat) (s : State) : Host.Outcome State Fault Refusal :=
  match (s.odoAt unit).missing with
  | none => .next s
  | some _ =>
    let s1 := s.advanceTo (s.now + 500)
    let r := (s1.odoAt unit).refill
    let s2 := s1.setOdo unit r.1
    match r.2 with
    | none => .next s2
    | some e => .next (((s2.bump "LATEFIRE_CNT" unit).odoEv unit ("LATEFIRE" ++ e.keys)).deliver unit e)

/-- CMP_PULSE_END (R297). -/
def execCmpPulseEnd (unit : Nat) (s : State) : Host.Outcome State Fault Refusal :=
  let o := s.odoAt unit
  if o.cmpOn then .next ((s.advanceTo o.cmpEnd).setOdo unit { o with cmpOn := false }) else .next s

/-! ### Counting (R278 to R281) -/

/-- What an arriving edge counts by SRC, MODE, DIRIN and DIRPOL (Table ODO-1): up, down, both in one clock (unchanged), or nothing. -/
inductive CountAct
  | up | down | both | nothing
  deriving DecidableEq, Repr

/-- A direction as an act. -/
def dirAct (up : Bool) : CountAct := if up then .up else .down

/-- Table ODO-1. -/
def State.countAct (s : State) (n : Nat) (c : CountIn) : CountAct :=
  let step (high : Bool) : CountAct :=
    if s.word .odo n "DIRIN" = "FIXED" then .up else dirAct (high == (s.word .odo n "DIRPOL" == "HIGHUP"))
  match decide (s.word .odo n "SRC" = "INTERNAL"), decide (s.word .odo n "MODE" = "UPDOWN"), c with
  | true, _, .internal up => dirAct up
  | true, _, _ => .nothing
  | false, _, .internal _ => .nothing
  | false, true, .a _ => .up
  | false, true, .b => .down
  | false, true, .both _ => .both
  | false, false, .a h | false, false, .both h => step h
  | false, false, .b => .nothing

/-- Less than 200 ns after the last accepted edge on the same input: what the device does then is unspecified (R280). -/
def tooClose (last : Option Nat) (ts : Nat) : Bool :=
  match last with
  | some t => decide (ts < t + 200)
  | none => false

/-- The inputs an edge arrives on: CNTA, CNTB. -/
def edgeInputs (c : CountIn) : Bool × Bool :=
  match c with
  | .a _ => (true, false)
  | .b => (false, true)
  | .both _ => (true, true)
  | .internal _ => (false, false)

/-- A counted edge: count, rate and direction; entries that it fires deliver their actions in list order (R281, R283 to R285, R292, R293); a run of the wheel calibration counts
it, and ends where it is down (R302). -/
def State.countEdge (n ts : Nat) (up : Bool) (s : State) : State :=
  let o := s.odoAt n
  let r := o.edge ts (s.ns .odo n "ZEROTIME") (s.nat .odo n "CHGUP") up
  let s1 := if r.2 then s.bump "DIRCHG_CNT" n else s
  let o1 := if !o.calOn then r.1 else if up then { r.1 with calCnt := o.calCnt + 1 } else { r.1 with calCnt := 0, calDist := 0, calCourse := none }
  let f := o1.fire o.count
  overList f.2 (fun e a => a.deliver n e) (s1.setOdo n f.1)

/-- The instant and the direction of the next count of an INTERNAL unit (R279): when the integral of the speed passes a further 0.001 m. -/
def State.internalDue (s : State) (n : Nat) : Option (Nat × Bool) :=
  let o := s.odoAt n
  match s.countsFor n with
  | none => none
  | some k =>
    let v := (s.implAt k).speed
    if v = 0 then none
    else
      let left := 1000000000 - (if 0 < v then o.acc else -o.acc)
      some (o.accAt + ceilDiv left.toNat v.natAbs, 0 < v)

/-- ODO_COUNT_EDGE (R278 to R281): an accepted edge with its timestamp. Edges on one input less than 200 ns apart are a fault: the spec leaves open what the device does. A count of
an INTERNAL unit comes at the instant that the integrated speed gives. -/
def execOdoCountEdge (unit ts : Nat) (c : CountIn) (s : State) : Host.Outcome State Fault Refusal :=
  let o := s.odoAt unit
  if 8 ≤ unit || o.state = 0 || s.nounRetired .odo unit then .next s
  else match c with
    | .internal up =>
      (match decide (s.word .odo unit "SRC" = "INTERNAL"), s.internalDue unit with
        | true, some (t, u) =>
          if u ≠ up then .next s
          else
            let s1 := (s.advanceTo t).integrateInternal unit
            let x := s1.odoAt unit
            .next ((s1.setOdo unit { x with acc := if up then x.acc - 1000000000 else x.acc + 1000000000 }).countEdge unit s1.now up)
        | _, _ => .next s)
    | _ =>
      let i := edgeInputs c
      let act := s.countAct unit c
      let useB := s.word .odo unit "MODE" = "UPDOWN"
      if act = .nothing then .next s
      else if (i.1 && tooClose o.lastA ts) || (i.2 && useB && tooClose o.lastB ts) then .fault .edgesTooClose
      else
        let s0 := s.advanceTo ts
        let s1 := s0.setOdo unit { o with lastA := if i.1 then some ts else o.lastA, lastB := if i.2 && useB then some ts else o.lastB }
        .next (match act with
          | .up => s1.countEdge unit ts true
          | .down => s1.countEdge unit ts false
          | _ => s1)

/-- ODO_SNAPSHOT (R287), at each 1 ms. -/
def execOdoSnapshot (s : State) : Host.Outcome State Fault Refusal :=
  .next (overList (List.range 8) (fun n a =>
    let o := a.odoAt n
    if o.state = 0 then a
    else
      let v := a.odoSpeed n
      a.setOdo n { o with snap := some (o.count, a.odoRate n, v, o.down, o.lastEdge.getD 0), epoch := nextEpoch o.epoch, speeds := (v :: o.speeds).take 50 }) (s.tick "SNAP" 0 nsMs))

/-- ODO_WINDOW_GATE (R283, R284), every 10 ms. -/
def execOdoWindowGate (unit : Nat) (s : State) : Host.Outcome State Fault Refusal :=
  let s1 := s.tick "GATE" unit (10 * nsMs)
  if (s1.odoAt unit).state = 0 then .next s1 else .next (s1.setOdo unit ((s1.odoAt unit).gate (s1.nat .odo unit "CHGDN")))

/-- ODO_ZEROTIME (R283): r is 0. -/
def execOdoZerotime (unit : Nat) (s : State) : Host.Outcome State Fault Refusal :=
  let o := s.odoAt unit
  match o.lastEdge with
  | some e => if o.state = 0 then .next s else .next ((s.advanceTo (e + s.ns .odo unit "ZEROTIME")).setOdo unit { o with rate := 0 })
  | none => .next s

/-! ### Index (R288 to R290, R317, R318) -/

/-- ODO_INDEX_EDGE (R288 to R290): a count edge of the same clock has been counted already. In ARMED-ONCE an edge while not armed does nothing (DEDUCED). -/
def execOdoIndexEdge (unit ts : Nat) (s : State) : Host.Outcome State Fault Refusal :=
  let o := s.odoAt unit
  let mode := s.word .odo unit "IDXMODE"
  if 8 ≤ unit || o.state ≠ 1 || s.nounRetired .odo unit || mode = "OFF" || (mode = "ARMED-ONCE" && !o.armed) then .next s
  else
    let s0 := s.advanceTo ts
    let exp := s.int .odo unit "IDXEXP"
    let val := s.int .odo unit "IDXVAL"
    let slip := idxSlips o mode exp val (s.natOpt .odo unit "IDXTOL")
    let veto := slip && s.isOn .odo unit "VETO"
    let s1 := s0.setOdo unit { o with
      idx := some (o.count, slip), idxEpoch := nextEpoch o.idxEpoch, idxSeen := true, armed := false, count := if veto then o.count else val }
    let s2 := if slip then (s1.odoEv unit ("INDEX-SLIP count=" ++ toString o.count ++ " exp=" ++ toString (idxExpect mode exp val o.down))).bump "SLIP_CNT" unit else s1
    .next (if veto then s2.report { cls := 6, detail := 0x30, island := some (14 + unit), unit := some unit, part := some (s.owner .odo unit) } 4 (State.odoFault unit "ODO-VETO")
      else s2)

/-- The index of a unit is used only while it runs with IDXMODE ARMED-ONCE. -/
def State.armErrs (s : State) (sess : Nat) (ph : Phrase) (n : Nat) : List Err := s.unitErrs sess ph .odo (some n) ++ extraAttrs ph []

/-- ARM_ODO_IDX (R288, R318). -/
def execArmOdoIdx (sess : Nat) (ph : Phrase) (s : State) : Host.Outcome State Fault Refusal :=
  .next (runRow "ARM_ODO_IDX" sess ph (fun s => perInst sess ph (fun n s =>
    Ans.eff (s.armErrs sess ph n ++ errIf ((s.odoAt n).state ≠ 1 || s.word .odo n "IDXMODE" ≠ "ARMED-ONCE") .state)
      fun s => s.setOdo n { s.odoAt n with armed := true }) s) s)

/-- DISARM_ODO_IDX (R288, R318). -/
def execDisarmOdoIdx (sess : Nat) (ph : Phrase) (s : State) : Host.Outcome State Fault Refusal :=
  .next (runRow "DISARM_ODO_IDX" sess ph (fun s => perInst sess ph (fun n s =>
    Ans.eff (s.armErrs sess ph n) fun s => s.setOdo n { s.odoAt n with armed := false }) s) s)

/-- GET of the index latch (R288, R309). -/
def odoIdxGet (sess : Nat) (ph : Phrase) (n : Nat) (s : State) : Ans :=
  let o := s.odoAt n
  let x := o.idx.getD (0, false)
  { errs := s.accessErr sess .get .odo (some n) ++ keyErrs ph ["COUNT", "SLIP"] ++ s.latchErrs sess ph .odo n "IDX" o.idx.isSome o.idxEpoch
    act := fun s => (s.noteEpoch sess .odo n "IDX" o.idxEpoch,
      [pickKeys ph [("count", toString x.1), ("slip", yesNo x.2), ("epoch", toString o.idxEpoch)]]) }

/-- GET_ODO_IDX (R309). -/
def execGetOdoIdx (sess : Nat) (ph : Phrase) (s : State) : Host.Outcome State Fault Refusal :=
  .next (runRow "GET_ODO_IDX" sess ph (fun s => perInst sess ph (odoIdxGet sess ph) s) s)

/-! ### Plausibility (R304, R305, R320) -/

/-- The mean of the last snapshots' speeds. -/
def meanSpeed (xs : List Int) : Int := if xs.isEmpty then 0 else divRound xs.sum xs.length

/-- The implement that uses odometry unit n. -/
def State.usesOdo (s : State) (n : Nat) : Option Nat :=
  (List.range 4).find? fun k => k = s.owner .odo n && (s.implAt k).running && s.natOpt .impl k "ODO" = some n

/-- GPS velocity on the machine x axis of implement k, mm/s (R304, R137). -/
def State.gpsAlong (s : State) (k : Nat) : Int :=
  let a := sinCos (s.implAt k).hdg
  divRound (s.gnss.ve * a.1 + s.gnss.vn * a.2) trigNat

/-- The reference's speed, where it is valid. -/
def State.plausRef (s : State) (n : Nat) : Option Int :=
  match s.list .odo n "PLAUS" with
  | [1, m] => if (s.odoAt m).state = 1 && !s.retired (14 + m) then some (meanSpeed (s.odoAt m).speeds) else none
  | [2] => if s.gnss.running && s.gnss.fix then (s.usesOdo n).map s.gpsAlong else none
  | _ => none

/-- A comparison violates (R304). -/
def plausViolates (v ref : Int) (tol lo : Nat) (paired : Bool) : Bool :=
  let big := max v.natAbs ref.natAbs
  lo ≤ big && (tol * big < 1000 * (v - ref).natAbs || (paired && v * ref < 0))

/-- The units of an implausible pair enter FAULTED (R305, R306). -/
def State.implausible (n : Nat) (v ref : Int) (s : State) : State :=
  let s1 := (s.bump "IMPLAUS_CNT" n).odoEv n ("IMPLAUS v=" ++ toString v ++ " vref=" ++ toString ref)
  let s2 := s1.report { cls := 6, detail := 0x31, island := some (14 + n), unit := some n, part := some (s.owner .odo n) } 4 fun a =>
    match s.list .odo n "PLAUS" with
    | [1, m] => (a.odoFault n "ODO-PLAUS").odoFault m "ODO-PLAUS"
    | _ => a.odoFault n "ODO-PLAUS"
  s2.setOdo n { s2.odoAt n with plst := 3 }

/-- One unit's comparison. -/
def plausUnit (n : Nat) (s : State) : State :=
  let o := s.odoAt n
  if o.state ≠ 1 || s.list .odo n "PLAUS" = [0] then s
  else match s.plausRef n with
    | none => s.setOdo n { o with plst := 2, viol := 0 }
    | some ref =>
      let v := meanSpeed o.speeds
      let bad := plausViolates v ref (s.nat .odo n "PLAUSTOL") (s.nat .odo n "PLAUSMIN") (s.list .odo n "PLAUS" ≠ [2])
      if bad && 4 ≤ o.viol then (s.setOdo n { o with viol := 5 }).implausible n v ref
      else s.setOdo n { o with plst := 1, viol := if bad then o.viol + 1 else 0 }

/-- ODO_PLAUS_CHECK (R304), every 10 ms. -/
def execOdoPlausCheck (s : State) : Host.Outcome State Fault Refusal := .next (overList (List.range 8) plausUnit (s.tick "PLAUS" 0 (10 * nsMs)))

/-! ### START, STOP and SET of ODO (R302, R303, R307) -/

/-- MPC in units of 2^-32 m, rounded to the nearest (R282). -/
def mpcFixed (nm : Nat) : Nat := (2 * nm * 2 ^ 32 + 1000000000) / 2000000000

/-- What START ODO finds (R302, R304, R307). -/
def State.odoStartErrs (s : State) (n : Nat) : List Err :=
  let k := toString n
  let pins := s.word .odo n "SRC" = "PINS"
  let b := pins && (s.word .odo n "MODE" = "UPDOWN" || s.word .odo n "DIRIN" = "PIN")
  let cal := s.isOn .odo n "CALMODE"
  let pl := s.list .odo n "PLAUS"
  errIf ((cal || pl = [2]) && !s.hasGps) .absent
    ++ s.funcErrs ((if pins then ["CNTA" ++ k] else []) ++ (if b then ["CNTB" ++ k] else []) ++ (if s.word .odo n "IDXMODE" ≠ "OFF" then ["IDX" ++ k] else [])) ["CMP" ++ k]
    ++ (match pl with
      | [1, m] => errIf (m = n) .attr ++ errIf (s.owner .odo m ≠ s.owner .odo n) .owner
      | [2] => errIf (!pins) .attr
      | _ => [])
    ++ errIf (cal && !pins) .attr

/-- The unit begins (R281, R282, R303). -/
def State.beginOdo (n : Nat) (s : State) : State :=
  let o := s.odoAt n
  let s0 := match decide (s.word .odo n "CALAPPLY" = "AUTO"), o.prop with
    | true, some p => s.store .odo n "" "MPC" (.n p)
    | _, _ => s
  let auto := s.word .odo n "CALAPPLY" = "AUTO"
  let nm := s0.nat .odo n "MPC"
  (s0.setOdo n {
    state := 1, count := s0.int .odo n "PRESET", mpcNm := nm, mpcUse := if s0.word .odo n "SRC" = "INTERNAL" then mpcFixed 1000000 else mpcFixed nm
    prop := if auto then none else o.prop, calOn := s0.isOn .odo n "CALMODE", plst := if s0.list .odo n "PLAUS" = [0] then 0 else 1, accAt := s0.now }).clearEpochs .odo n

/-- START_ODO (R307). -/
def execStartOdo (sess : Nat) (ph : Phrase) (s : State) : Host.Outcome State Fault Refusal :=
  .next (runRow "START_ODO" sess ph (fun s => perInst sess ph (fun n s =>
    Ans.eff (s.unitErrs sess ph .odo (some n) ++ extraAttrs ph [] ++ s.odoStartErrs n ++ errIf ((s.odoAt n).state ≠ 0) .state ++ s.faultedErr (s.owner .odo n))
      fun s => (s.beginOdo n).updatePart (s.owner .odo n)) s) s)

/-- STOP_ODO (R307): not of a unit that drives a RUNNING implement or feeds a RUNNING product, nor of a FAULTED one (R306). -/
def execStopOdo (sess : Nat) (ph : Phrase) (s : State) : Host.Outcome State Fault Refusal :=
  .next (runRow "STOP_ODO" sess ph (fun s => perInst sess ph (fun n s =>
    Ans.eff (s.unitErrs sess ph .odo (some n) ++ extraAttrs ph [] ++ errIf (s.odoDrives n || s.odoFeeds n || (s.odoAt n).state = 2) .state)
      fun s => if (s.odoAt n).state = 1 then (s.odoDown n 0).updatePart (s.owner .odo n) else s) s) s)

/-- SET of ODO (R284, R303): all attributes stopped-only; MPC=PROPOSED copies a proposal, which is then cleared. -/
def odoSet (sess : Nat) (ph : Phrase) (s : State) : Ans :=
  perInst sess ph (fun n s =>
    let o := s.odoAt n
    let up := (s.newVal ph odoAttrs .odo n "CHGUP").int
    let dn := (s.newVal ph odoAttrs .odo n "CHGDN").int
    let prop := (ph.value "MPC").map upper = some "PROPOSED"
    Ans.eff (s.unitErrs sess ph .odo (some n) ++ setAttrErrs odoAttrs (s.sessAt sess).super ph
        ++ errIf (up ≤ dn) .range (ph.tok (if ph.has "CHGDN" then "CHGDN" else "CHGUP")) ++ errIf (o.state ≠ 0) .state ++ errIf (prop && o.prop.isNone) .notready)
      fun s =>
        let s1 := storeAttrs odoAttrs .odo n "" ph s
        match decide prop, o.prop with
        | true, some p => (s1.store .odo n "" "MPC" (.n p)).setOdo n { s1.odoAt n with prop := none }
        | _, _ => s1) s

/-- SET_ODO_MPC_PROPOSED (R303). -/
def execSetOdoMpcProposed (sess : Nat) (ph : Phrase) (s : State) : Host.Outcome State Fault Refusal :=
  .next (runRow "SET_ODO_MPC_PROPOSED" sess ph (odoSet sess ph) s)

/-! ### CMP (R298, R310) -/

/-- ACT of ARM CMP: its code and unit (Table ODO-2). -/
def parseAct (t : String) : Option (Nat × Nat) :=
  match splitStr ':' (upper t) with
  | ["NONE"] => some (0, 0)
  | ["EVENT"] => some (1, 0)
  | [k, n, w] =>
    match k = "CHAN" || k = "GDR", parseNat n, w = "ON" || w = "OFF" with
    | true, some i, true =>
      if k = "CHAN" then (if i < 48 then some (if w = "ON" then 3 else 4, i) else none) else (if i < 8 then some (if w = "ON" then 5 else 6, i) else none)
    | _, _, _ => none
  | _ => none

/-- The drive unit an action names. -/
def actUnit (a : Nat × Nat) : Option Nat := if a.1 = 3 || a.1 = 4 then some a.2 else if a.1 = 5 || a.1 = 6 then some (48 + a.2) else none

/-- ACT as a reply gives it. -/
def actText (e : Entry) : String :=
  match e.act with
  | 0 => "NONE"
  | 1 => "EVENT"
  | 3 => "CHAN:" ++ two e.unit ++ ":ON"
  | 4 => "CHAN:" ++ two e.unit ++ ":OFF"
  | 5 => "GDR:" ++ toString e.unit ++ ":ON"
  | 6 => "GDR:" ++ toString e.unit ++ ":OFF"
  | _ => "SECTION"

def dirWord (d : Nat) : String := ["NONE", "UP", "DOWN", "EITHER"].getD d "NONE"

/-- The entry that ARM CMP writes. -/
def armEntry (ph : Phrase) : Entry :=
  let a := (((ph.value "ACT").bind parseAct).getD (1, 0))
  { value := (attrInt ph "VALUE" (-2147483648) 2147483647).getD 0
    dir := match (ph.value "DIR").map upper with
      | some "DOWN" => 2
      | some "EITHER" => 3
      | _ => 1
    pulse := (ph.value "PULSE").map upper = some "ON", host := true, act := a.1, unit := a.2, tag := ((attrInt ph "TAG" 0 255).getD 0).toNat }

/-- A further host entry has no room (R293, R295): 4,096 entries with those reserved for the planner, or no block of the larder. -/
def State.cmpFull (s : State) (n : Nat) : Bool :=
  let need := ceilDiv (8 * (s.queueRoom n + 1)) 256 - ceilDiv (8 * s.queueRoom n) 256
  4096 ≤ s.queueRoom n || (need ≠ 0 && !s.larderGives (s.owner .odo n) need)

/-- ARM_CMP (R298, R295). -/
def execArmCmp (sess : Nat) (ph : Phrase) (s : State) : Host.Outcome State Fault Refusal :=
  .next (runRow "ARM_CMP" sess ph (fun s => perInst sess ph (fun n s =>
    let own := s.owner .odo n
    let act := (ph.value "ACT").bind parseAct
    { errs := s.unitErrs sess ph .cmp (some n) ++ extraAttrs ph ["VALUE", "DIR", "ACT", "PULSE", "TAG"] ++ needAttr ph "VALUE" (.int (-2147483648) 2147483647)
        ++ optAttr ph "DIR" (.words ["UP", "DOWN", "EITHER"]) ++ optAttr ph "PULSE" (.words ["ON", "OFF"]) ++ optAttr ph "TAG" (.int 0 255)
        ++ errIf (ph.has "ACT" && act.isNone) .range (ph.tok "ACT")
        ++ (match act.bind actUnit with
          | some u => errIf (!s.unitPresent u) .absent (ph.tok "ACT") ++ errIf ((s.unitAt u).retired) .retired ++ errIf (s.unitOwner u ≠ own) .owner
              ++ errIf (s.unitNamed u || s.pairOdd u) .state
          | none => [])
        ++ errIf ((s.odoAt n).state ≠ 1) .state ++ errIf (s.cmpFull n) .full
      act := fun s => (s.writeEntry n (armEntry ph), [])
      onErr := some fun e a => if e = .full && (s.queueRoom n < 4096) then a.larderRefused own else a }) s) s)

/-- DISARM_CMP (R298). -/
def execDisarmCmp (sess : Nat) (ph : Phrase) (s : State) : Host.Outcome State Fault Refusal :=
  .next (runRow "DISARM_CMP" sess ph (fun s => perInst sess ph (fun n s =>
    Ans.eff (s.unitErrs sess ph .cmp (some n) ++ extraAttrs ph ["TAG"] ++ optAttr ph "TAG" (.int 0 255))
      fun s =>
        let t := attrInt ph "TAG" 0 255
        s.setOdo n { s.odoAt n with entries := (s.odoAt n).entries.filter fun e => !(e.host && (t.isNone || t = some (e.tag : Int))) }) s) s)

/-- GET_CMP (R310). -/
def execGetCmp (sess : Nat) (ph : Phrase) (s : State) : Host.Outcome State Fault Refusal :=
  .next (runRow "GET_CMP" sess ph (fun s => perInst sess ph (fun n s =>
    let all := ["HW", "QUEUE", "HOST", "PLANNER"]
    let names := if ph.attrs.isEmpty then all else all.filter ph.has
    Ans.read (s.accessErr sess .get .cmp (some n) ++ extraAttrs ph all ++ (ph.attrs.filter fun a => a.value.isSome).map fun a => ⟨.attr, some a.tok⟩)
      fun s => [names.map fun a => (lower a, s.cmpRead n a)]) s) s)

/-- GET_CMP_LIST (R310). -/
def execGetCmpList (sess : Nat) (ph : Phrase) (s : State) : Host.Outcome State Fault Refusal :=
  .next (runRow "GET_CMP_LIST" sess ph (fun s => perInst sess ph (fun n s =>
    Ans.read (s.accessErr sess .get .cmp (some n) ++ extraAttrs ph ["LIST"] ++ (ph.attrs.filter fun a => a.value.isSome).map fun a => ⟨.attr, some a.tok⟩)
      fun s =>
        let o := s.odoAt n
        (sortEntries o.count (o.entries.filter Entry.host)).map fun e =>
          [("value", toString e.value), ("dir", dirWord e.dir), ("act", actText e), ("pulse", onOff e.pulse), ("tag", toString e.tag)]) s) s)

/-! ### Serial sensor ports (R299 to R301, R308, R315) -/

/-- The width of the check, and its polynomial (R300). -/
def sspCheck (w : String) : Nat × Nat := if w = "CRC6" then (6, 3) else if w = "CRC8" then (8, 7) else (0, 0)

/-- One step of R300. -/
def sspCrcStep (width poly : Nat) (crc : Nat) (b : Bool) : Nat :=
  let top := crc / 2 ^ (width - 1) % 2 = 1
  let c := 2 * crc % 2 ^ width
  if b != top then Nat.xor c poly else c

/-- The check of R300 over data bits in received order. -/
def sspCrc (w : String) (init : Nat) (inv : Bool) (bits : List Bool) : Nat :=
  let k := sspCheck w
  let c := bits.foldl (sspCrcStep k.1 k.2) init
  if inv then Nat.xor c (2 ^ k.1 - 1) else c

/-- A word, most significant bit first. -/
def bitsNat (bs : List Bool) : Nat := bs.foldl (fun a b => 2 * a + (if b then 1 else 0)) 0

/-- An event of SSP.p. -/
def State.sspEv (p : Nat) (t : String) (s : State) : State := s.ev "ODO" (toPart (s.owner .ssp p)) ("SSP." ++ toString p ++ " " ++ t)

/-- A cycle that failed or was skipped (R301). -/
def State.sspFail (p : Nat) (s : State) : State :=
  let x := s.sspAt p
  let f := x.fails + 1
  let s1 := s.setSsp p { x with fails := f, cycle := none }
  if s.nat .ssp p "FAILMAX" ≤ f && !x.lost then (s1.setSsp p { s1.sspAt p with lost := true }).sspEv p ("LOST fails=" ++ toString f) else s1

/-- SSP_CYCLE_DUE (R299): at each multiple of PERIOD from START. -/
def execSspCycleDue (port : Nat) (dataHigh : Bool) (s : State) : Host.Outcome State Fault Refusal :=
  let x := s.sspAt port
  if !x.running then .next s
  else
    let s0 := s.advanceTo x.nextDue
    let y := { x with nextDue := x.nextDue + s.ns .ssp port "PERIOD" }
    if x.cycle.isNone && dataHigh then .next (s0.setSsp port { y with cycle := some s0.now })
    else
      let s1 := ((s0.setSsp port y).bump "SKIP_CNT" port).sspFail port
      .next (s1.setSsp port { s1.sspAt port with cycle := x.cycle })

/-- SSP_TIMEOUT (R299, R315). -/
def execSspTimeout (port : Nat) (s : State) : Host.Outcome State Fault Refusal :=
  match (s.sspAt port).cycle with
  | some t => .next (((s.advanceTo (t + s.ns .ssp port "TIMEOUT")).bump "TIMEOUT_CNT" port).sspFail port)
  | none => .next s

/-- A word passes its check and is latched whole (R301). -/
def State.sspLatch (p : Nat) (data : List Bool) (s : State) : State :=
  let x := s.sspAt p
  let raw := bitsNat data
  let msb := s.nat .ssp p "POSMSB"
  let lsb := s.nat .ssp p "POSLSB"
  let err := match s.natOpt .ssp p "ERRBIT" with
    | some k => (raw / 2 ^ k % 2 = 1) == (s.word .ssp p "ERRPOL" == "HIGH")
    | none => false
  let s1 := s.setSsp p { x with raw := raw, value := raw / 2 ^ lsb % 2 ^ (msb + 1 - lsb), err := err, epoch := nextEpoch x.epoch, fails := 0, lost := false, cycle := none }
  let s2 := if err then s1.bump "ERRBIT_CNT" p else s1
  if x.lost then s2.sspEv p ("OK fails=" ++ toString x.fails) else s2

/-- SSP_CYCLE_COMPLETE (R299 to R301): the data bits and the check bits, each most significant first. -/
def execSspCycleComplete (port : Nat) (bits : List Bool) (s : State) : Host.Outcome State Fault Refusal :=
  let w := s.word .ssp port "CHK"
  let nb := s.nat .ssp port "WORDBITS"
  match (s.sspAt port).cycle with
  | none => .next s
  | some t =>
    if bits.length ≠ nb + (sspCheck w).1 then .next s
    else
      let s0 := s.advanceTo (t + (bits.length + 2) * 1000000 / s.nat .ssp port "FREQ")
      let data := bits.take nb
      let ok := w = "NONE" || sspCrc w (s.nat .ssp port "CRCINIT") (s.isOn .ssp port "CRCINV") data = bitsNat (bits.drop nb)
      .next (if ok then s0.sspLatch port data else (s0.bump "CRCFAIL_CNT" port).sspFail port)

/-- START_SSP (R308). -/
def execStartSsp (sess : Nat) (ph : Phrase) (s : State) : Host.Outcome State Fault Refusal :=
  .next (runRow "START_SSP" sess ph (fun s => perInst sess ph (fun p s =>
    let k := toString p
    let nb := s.nat .ssp p "WORDBITS"
    let e := match s.natOpt .ssp p "ERRBIT" with
      | some b => decide (nb ≤ b)
      | none => false
    let w := (sspCheck (s.word .ssp p "CHK")).1
    let bad := s.nat .ssp p "POSMSB" < s.nat .ssp p "POSLSB" || nb ≤ s.nat .ssp p "POSMSB" || nb ≤ s.nat .ssp p "POSLSB" || e
      || (w ≠ 0 && 2 ^ w ≤ s.nat .ssp p "CRCINIT")
    Ans.eff (s.unitErrs sess ph .ssp (some p) ++ extraAttrs ph [] ++ s.funcErrs ["SSPCLK" ++ k, "SSPDAT" ++ k] [] ++ errIf bad .attr
        ++ errIf (s.sspAt p).running .state ++ s.faultedErr (s.owner .ssp p))
      fun s => ((s.setSsp p { running := true, nextDue := s.now + s.ns .ssp p "PERIOD" }).clearEpochs .ssp p).updatePart (s.owner .ssp p)) s) s)

/-- STOP_SSP (R308). -/
def execStopSsp (sess : Nat) (ph : Phrase) (s : State) : Host.Outcome State Fault Refusal :=
  .next (runRow "STOP_SSP" sess ph (fun s => perInst sess ph (fun p s =>
    Ans.eff (s.unitErrs sess ph .ssp (some p) ++ extraAttrs ph []) fun s => (s.sspDown p).updatePart (s.owner .ssp p)) s) s)

/-- SET of SSP: all attributes stopped-only (R311). -/
def sspSet (sess : Nat) (ph : Phrase) (s : State) : Ans :=
  perInst sess ph (fun p s =>
    Ans.eff (s.unitErrs sess ph .ssp (some p) ++ setAttrErrs sspAttrs (s.sessAt sess).super ph ++ errIf (s.sspAt p).running .state)
      (storeAttrs sspAttrs .ssp p "" ph)) s

end Sys2Proof.Machine
end

