-- ==== Sys2Proof/Machine/Ports.lean ====
section
/-!
DEFINITION. Sys2Proof/Machine/Ports.lean: the rows of the UARTs, the SPI target and the I2C controllers (15_host_ports.md), OUTPUT_SPACE_RETURN of a port (R73, R520), and what
UART, SPI and I2C show.
-/
namespace Sys2Proof.Machine

def State.uartAt (s : State) (n : Nat) : Uart := Tab.get {} s.uarts n
def State.setUart (n : Nat) (x : Uart) (s : State) : State := { s with uarts := Tab.set {} s.uarts n x }
def State.i2cAt (s : State) (n : Nat) : I2c := Tab.get {} s.i2cs n
def State.setI2c (n : Nat) (x : I2c) (s : State) : State := { s with i2cs := Tab.set {} s.i2cs n x }

/-- UART n runs: UART1 always (Table HST-1). -/
def State.uartRuns (s : State) (n : Nat) : Bool := n < 3 && !s.retired (4 + n) && (n = 1 || (s.uartAt n).enabled)

/-- The session a UART carries. -/
def uartSess (n : Nat) : Option Nat := if n < 2 then some n else none

/-- Where the events of a UART go (R535). -/
def State.uartDest (s : State) (n : Nat) : EvDest :=
  .port (if n = 2 then (match s.natOpt .uart 2 "USEPART" with
    | some p => [p]
    | none => []) else []) (uartSess n)

/-! ### UART2's transmit queue (R522) -/

/-- One character at the rate in use, ns. -/
def State.charNs (s : State) (n : Nat) : Nat :=
  (9 + (if s.word .uart n "PARITY" = "NONE" then 0 else 1) + s.nat .uart n "STOP") * nsS / max 1 (s.uartAt n).rate

/-- The bytes sent by now leave the queue. -/
def State.txSettle (s : State) : State :=
  let u := s.uartAt 2
  if u.tx.isEmpty || u.paused then s
  else
    let c := max 1 (s.charNs 2)
    let k := (s.now - u.txAt) / c
    s.setUart 2 { u with tx := u.tx.drop k, txAt := u.txAt + k * c }

/-! ### ENABLE (R510, R513, R540) -/

/-- UART n begins: HUNT with AUTOBAUD=ON (R513). -/
def State.uartEnable (n : Nat) (s : State) : State :=
  let s1 := s.setUart n
    { enabled := true, hunt := n < 2 && s.isOn .uart n "AUTOBAUD", rate := s.nat .uart n "BAUD", flow := s.word .uart n "FLOW" = "XONXOFF", wire := (s.uartAt n).wire }
  match uartSess n with
  | some i => s1.openSession i
  | none => s1

/-- UART n ends with its session. -/
def State.uartDisable (n : Nat) (s : State) : State :=
  let s1 := s.setUart n { wire := (s.uartAt n).wire }
  match uartSess n with
  | some i => s1.closeSession i
  | none => s1

/-- The SPI target begins; its first transfer reports ACC (R540). -/
def State.spiEnable (s : State) : State := ({ s with spi := { enabled := true, mode := s.nat .spi 0 "SPIMODE" } }).openSession 2
def State.spiDisable (s : State) : State := ({ s with spi := {} }).closeSession 2

/-- An I2C controller begins or ends; a transfer is cut (R542). -/
def State.i2cEnable (n : Nat) (s : State) : State := s.setI2c n { s.i2cAt n with enabled := true, rate := s.nat .i2c n "RATE" }

/-- The transfer under way on controller n is cut; the phrase is answered E-STATE (DESIGN CHOICE). -/
def State.i2cCut (n : Nat) (s : State) : State :=
  match (s.i2cAt n).busy with
  | some (i, _, _) => (s.setI2c n { s.i2cAt n with busy := none, sda := false }).answerLater i (some ⟨.state, none⟩)
  | none => s
def State.i2cDisable (n : Nat) (s : State) : State := (s.i2cCut n).setI2c n { (s.i2cCut n).i2cAt n with enabled := false }

/-- A port of a noun is switched on or off. -/
def State.portEnable (n : Noun) (i : Nat) (s : State) : State := match n with
  | .uart => s.uartEnable i
  | .spi => s.spiEnable
  | _ => s.i2cEnable i
def State.portDisable (n : Noun) (i : Nat) (s : State) : State := match n with
  | .uart => s.uartDisable i
  | .spi => s.spiDisable
  | _ => s.i2cDisable i

/-- The functions a port needs (Table HST-1; UART2 without RAW only U2TX). -/
def portFuncs (n : Noun) (i : Nat) (raw : Bool) : List String := match n with
  | .uart => if i = 0 then ["U0TX", "U0RX"] else if raw then ["U2TX", "U2RX"] else ["U2TX"]
  | .spi => ["SPICSN", "SPICK", "SPIDI", "SPIDO", "ATTN"]
  | _ => ["I2CSCL" ++ toString i, "I2CSDA" ++ toString i]

/-- A changed setting waits for R523. -/
def State.portWaits (n : Noun) (i sess : Nat) (framing : Bool) (s : State) : State := match n with
  | .uart => if s.uartRuns i then s.setUart i { s.uartAt i with apply_ := some sess, rehunt := (s.uartAt i).rehunt || framing } else s
  | .spi => if s.spi.enabled then { s with spi := { s.spi with apply_ := some sess } } else s
  | _ => if (s.i2cAt i).enabled then s.setI2c i { s.i2cAt i with apply_ := some sess } else s

/-- The attribute tables of the ports. -/
def portAttrs (n : Noun) (i : Nat) : List AttrSpec := match n with
  | .uart => uartAttrs i
  | .spi => spiAttrs
  | _ => i2cAttrs

/-- Settings that wait for R523: those of framing, and the others. -/
def framingAttrs : List String := ["BAUD", "PARITY", "STOP"]
def waitingAttrs : List String := framingAttrs ++ ["AUTOBAUD", "FLOW", "SPIMODE", "RATE"]

/-- SET of a port (R510, R523). ENABLE=OFF ends its session after the OK. -/
def portSet (sess : Nat) (ph : Phrase) (s : State) : Ans :=
  perInst sess ph (fun i s =>
    let n := ph.nn.getD .uart
    let en := (ph.value "ENABLE").map upper
    let raw := (s.newVal ph (uartAttrs 2) .uart 2 "MODE").word = "RAW"
    { errs := s.unitErrs sess ph n (if n = .spi then none else some i) ++ setAttrErrs (portAttrs n i) (s.sessAt sess).super ph
        ++ (if en = some "ON" then (s.funcErrs (portFuncs n i raw) []).map (fun e => if e.code = .attr then { e with at_ := ph.tok "ENABLE" } else e) else [])
      act := fun s =>
        let s1 := storeAttrs (portAttrs n i) n i "" ph s
        let s2 := if ph.attrs.any fun a => waitingAttrs.contains a.name then s1.portWaits n i sess (ph.attrs.any fun a => framingAttrs.contains a.name) else s1
        (if en = some "ON" && !s.isOn n i "ENABLE" then s2.portEnable n i else s2, [])
      post := fun s => if en = some "OFF" then s.portDisable n i else s }) s

/-- SET_UART_ENABLE (R510, R513), of UART, SPI and I2C. -/
def execSetUartEnable (sess : Nat) (ph : Phrase) (s : State) : Host.Outcome State Fault Refusal :=
  .next (runRow "SET_UART_ENABLE" sess ph (portSet sess ph) s)

/-- The reply of the SET has gone: nothing waits in the session's output. -/
def State.replySent (s : State) (c : Nat) : Bool := (s.sessAt c).out.isEmpty && (s.sessAt c).owed.isEmpty

/-- The settings of UART n come into use (R513, R523); FLOW=NONE ends a pause (R518). -/
def State.uartApply (n : Nat) (s : State) : State :=
  let u := s.uartAt n
  let auto := n < 2 && s.isOn .uart n "AUTOBAUD"
  let flow := s.word .uart n "FLOW" = "XONXOFF"
  let hunt := auto && (u.rehunt || u.hunt)
  s.setUart n { u with
    apply_ := none, rehunt := false, hunt := hunt, armed := u.armed && !u.rehunt, flow := flow
    rate := if u.rehunt || (u.hunt && !auto) then s.nat .uart n "BAUD" else u.rate
    paused := u.paused && flow, xoffDue := u.xoffDue && flow, xonDue := u.xonDue && flow }

/-- PORT_SETTINGS_APPLY (R523): port 0 to 2 a UART, 3 the SPI target, 4 and 5 an I2C controller; once the reply is sent and the port is idle. -/
def execPortSettingsApply (n : Nat) (s : State) : Host.Outcome State Fault Refusal :=
  if n < 3 then
    let s1 := if n = 2 then s.txSettle else s
    match (s1.uartAt n).apply_ with
    | some c => if s1.replySent c && (match uartSess n with
        | some i => s1.replySent i
        | none => (s1.uartAt n).tx.isEmpty) then .next (s1.uartApply n) else .next s
    | none => .next s
  else if n = 3 then
    match s.spi.apply_ with
    | some c => if s.replySent c && s.spi.header.isNone && !s.spi.early then
        .next { s with spi := { s.spi with apply_ := none, mode := s.nat .spi 0 "SPIMODE" } } else .next s
    | none => .next s
  else
    match (s.i2cAt (n - 4)).apply_ with
    | some c => if s.replySent c && (s.i2cAt (n - 4)).busy.isNone then
        .next (s.setI2c (n - 4) { s.i2cAt (n - 4) with apply_ := none, rate := s.nat .i2c (n - 4) "RATE" }) else .next s
    | none => .next s

/-! ### Reception (R512 to R519, R537, R538) -/

/-- A due XOFF or XON goes out at a character boundary (R518, R519). -/
def State.flowSend (n : Nat) (s : State) : State :=
  let u := s.uartAt n
  if u.xoffDue then (s.setUart n { u with xoffDue := false, xoffOut := true }).bump "XOFFSENT_CNT" n
  else if u.xonDue then s.setUart n { u with xonDue := false, xoffOut := false }
  else s

/-- UART_XON_SEND (R518): the due XON, or XOFF, is sent. -/
def execUartXonSend (n : Nat) (s : State) : Host.Outcome State Fault Refusal :=
  if s.uartRuns n then .next (s.flowSend n) else .next s

/-- An entry is stored, or lost with OVERRUN (R516); the 192nd entry makes an XOFF due (R518). -/
def State.uartStore (n data tag : Nat) (s : State) : State :=
  let u := s.uartAt n
  if 256 ≤ u.rx.length then
    let s1 := (s.setUart n { u with ovr := true }).bump "OVERRUN_CNT" n
    if u.ovrAt.isNone || u.ovrAt.getD 0 + nsS ≤ s.now then
      (s1.setUart n { s1.uartAt n with ovrAt := some s.now }).ev "HST" (s.uartDest n)
        ("UART." ++ toString n ++ " OVERRUN cnt=" ++ toString (s1.cnt "OVERRUN_CNT" n))
    else s1
  else
    let rx := u.rx ++ [{ data := data % 256, tag := tag, ovr := u.ovr, inst := u.inst }]
    s.setUart n { u with rx := rx, ovr := false, inst := if 4294967295 ≤ u.inst then 1 else u.inst + 1
                         xoffDue := u.xoffDue || (u.flow && rx.length = 192 && !u.xoffOut), xonDue := u.xonDue && rx.length ≠ 192 }

/-- The entries of a partial line at the end of a receive queue are those after its last terminator. -/
def dropPartial (rx : List UartEnt) : List UartEnt :=
  (rx.reverse.dropWhile fun e => !(e.tag = 0 && !e.ovr && (e.data = 13 || e.data = 10))).reverse

/-- A BREAK starts HUNT: the partial input line is discarded and counted (R513, R517). -/
def State.breakHunt (n : Nat) (s : State) : State :=
  let u := s.uartAt n
  let rest := dropPartial u.rx
  let x := s.sessAt n
  let some_ := rest.length < u.rx.length || !x.line.isEmpty || x.tooLong
  let s1 := s.setUart n { u with rx := rest, hunt := true, armed := false }
  let s2 := if rest.isEmpty then s1.setSess n { x with line := [], tooLong := false } else s1
  if some_ then s2.bump "HUNTDROP_CNT" n else s2

/-- The rate that HUNT measures (R514). -/
def huntRate (clocks : Nat) : Nat := if clocks = 0 then 0 else (divRound (5 * 98208000) clocks).toNat

/-- The first character after the idle line in HUNT (R514). -/
def State.huntChar (n : Nat) (r : UartIn) (s : State) : State :=
  let u := s.uartAt n
  let rate := huntRate r.clocks
  if !u.armed then s
  else if r.pattern && 1200 ≤ rate && rate ≤ 921600 then
    (((s.setUart n { u with hunt := false, armed := false, rate := rate }).uartStore n 13 0).bump "LOCK_CNT" n).ev "HST" (s.uartDest n)
      ("UART." ++ toString n ++ " LOCK rate=" ++ toString rate)
  else (s.setUart n { u with armed := false }).bump "HUNTDROP_CNT" n

/-- The peer's XOFF or XON pauses or resumes transmission (R518). -/
def State.uartPause (n : Nat) (p : Bool) (s : State) : State :=
  let s1 := if n = 2 then s.txSettle else s
  s1.setUart n { s1.uartAt n with paused := p, txAt := if p then (s1.uartAt n).txAt else s.now }

/-- UART_FRAME_RECEIVED (R512 to R519, R521, R537, R538). -/
def execUartFrameReceived (n : Nat) (r : UartIn) (s : State) : Host.Outcome State Fault Refusal :=
  if !s.uartRuns n then .next s
  else
    let s0 := s.flowSend n
    let u := s0.uartAt n
    let raw := s0.word .uart 2 "MODE" = "RAW"
    let stores := n < 2 || raw
    if r.low then
      let s1 := (if u.paused then s0.uartPause n false else s0).bump "BREAK_CNT" n
      if n < 2 && (s.isOn .uart n "AUTOBAUD" || (n = 1 && r.longLow) || u.hunt) then .next (s1.breakHunt n)
      else if stores then .next (s1.uartStore n 0 3) else .next s1
    else if u.hunt then .next (s0.huntChar n r)
    else
      let tag := if !r.stopOk then 1 else if !r.parityOk && s.word .uart n "PARITY" ≠ "NONE" then 2 else 0
      let s1 := if tag = 1 then s0.bump "FRAMING_CNT" n else if tag = 2 then s0.bump "PARITY_CNT" n else s0
      if tag = 0 && u.flow && (r.data = 0x13 || r.data = 0x11) then .next (s1.uartPause n (r.data = 0x13))
      else if stores then .next (s1.uartStore n r.data tag) else .next s1

/-- UART_HUNT_IDLE (R513): the line has been high for 100 ms. -/
def execUartHuntIdle (n : Nat) (s : State) : Host.Outcome State Fault Refusal :=
  if s.uartRuns n && (s.uartAt n).hunt then .next (s.setUart n { s.uartAt n with armed := true }) else .next s

/-! ### The subs of UART2 (R522) -/

/-- Who may use UART.2.TX, UART.2.RX and I2C.n.XFER: a supervisor, and the partition that USEPART names. -/
def State.useErrs (s : State) (sess : Nat) (n : Noun) (i : Nat) : List Err :=
  errIf (!(s.sessAt sess).super && s.natOpt n i "USEPART" ≠ some (s.sessAt sess).part) .owner

/-- The subs draw E-STATE but in RAW mode, and while the port is off. -/
def State.rawErrs (s : State) : List Err := errIf (s.word .uart 2 "MODE" ≠ "RAW" || !(s.uartAt 2).enabled) .state

def State.uart2Errs (s : State) (sess : Nat) : List Err := errIf (s.retired 6) .retired ++ s.useErrs sess .uart 2 ++ s.rawErrs

/-- ARM_UART2_TX (R522). -/
def execArmUart2Tx (sess : Nat) (ph : Phrase) (s : State) : Host.Outcome State Fault Refusal :=
  .next (runRow "ARM_UART2_TX" sess ph (fun s0 =>
    let s := s0.txSettle
    let d := ((attrVal ph "D" (.bytes 1 64)).map Val.list).getD []
    let tx := (s.uartAt 2).tx
    let need := ceilDiv (tx.length + d.length) 256 - ceilDiv tx.length 256
    let lar := need ≠ 0 && !s.larderGives 4 need
    { errs := s.uart2Errs sess ++ extraAttrs ph ["D"] ++ needAttr ph "D" (.bytes 1 64) ++ errIf (1024 < tx.length + d.length || lar) .busy
      onErr := some fun e a => if e = .busy && lar then a.larderRefused 4 else a
      act := fun s0 =>
        let s := s0.txSettle
        let u := s.uartAt 2
        (s.setUart 2 { u with tx := u.tx ++ d, txAt := if u.tx.isEmpty then s.now else u.txAt }, []) }) s)

/-- One letter of tag=. -/
def tagLetter (t : Nat) : Char := ['N', 'F', 'P', 'B'].getD t 'N'

/-- Positions of the OVERRUN-BEFORE mark. -/
def ovrPositions (es : List UartEnt) : List Nat := ((List.range es.length).filter fun k => ((es.getD k { data := 0 }).ovr))

/-- GET_UART2_RX (R522). -/
def execGetUart2Rx (sess : Nat) (ph : Phrase) (s : State) : Host.Outcome State Fault Refusal :=
  .next (runRow "GET_UART2_RX" sess ph (fun s =>
    let k := ((attrInt ph "COUNT" 1 64).getD 64).toNat
    let es := (s.uartAt 2).rx.take k
    Ans.read (s.uart2Errs sess ++ extraAttrs ph ["COUNT"] ++ optAttr ph "COUNT" (.int 1 64) ++ errIf es.isEmpty .notready)
      fun _ => [[("first", toString ((es.head?.map UartEnt.inst).getD 0)), ("n", toString es.length), ("d", showBytes (es.map UartEnt.data)),
        ("tag", String.ofList (es.map fun e => tagLetter e.tag)), ("ovr", showList (ovrPositions es))]]) s)

/-- An instance number at or before another, modulo 2^32. -/
def instUpTo (upto i : Nat) : Bool := (upto + 2 ^ 32 - i) % 2 ^ 32 < 2 ^ 31

/-- RESET_UART2_RX (R522). -/
def execResetUart2Rx (sess : Nat) (ph : Phrase) (s : State) : Host.Outcome State Fault Refusal :=
  .next (runRow "RESET_UART2_RX" sess ph (fun s =>
    let gone := match attrInt ph "UPTO" 1 4294967295 with
      | some m => ((s.uartAt 2).rx.takeWhile fun e => instUpTo m.toNat e.inst).length
      | none => (s.uartAt 2).rx.length
    Ans.eff (s.uart2Errs sess ++ extraAttrs ph ["UPTO"] ++ optAttr ph "UPTO" (.int 1 4294967295))
      fun s => overList (List.range gone) (fun _ a => a.uartPop 2) s) s)

/-! ### SPI (R524 to R528, R539, R540) -/

/-- The bytes waiting in S2's output queue. -/
def State.spiWaiting (s : State) : Nat := outChars (s.sessAt 2)

/-- SPI_CS_FALL (R525, R527): the header is fixed; a transfer less than 2 µs after the last is ignored (R524). -/
def execSpiCsFall (ts : Nat) (s0 : State) : Host.Outcome State Fault Refusal :=
  let s := s0.advanceTo ts
  if !s.spi.enabled || s.spi.header.isSome then .next s
  else if (match s.spi.lastRise with
    | some t => decide (s.now < t + 2000)
    | none => false) then .next { s with spi := { s.spi with early := true } }
  else
    let w := s.spiWaiting
    let st := s.spi.status + (if (s.sessAt 2).opened then 128 else 0)
    .next { s with spi := { s.spi with sent := st % 16, header := some (st, min w 252, min 252 (512 - s.spi.rxbuf.length), min 255 (w - 252)), early := false } }

/-- What the text of a transfer of N bytes comes to (R525, R526): status bits, and the text accepted. -/
def spiJudge (bytes : List Nat) (room : Nat) : Nat × List Nat :=
  let n := bytes.length
  let wlen := bytes.getD 0 0
  let badLen := n < 4 || 256 < n || n < 4 + wlen
  let badHdr := 4 ≤ n && !(bytes.getD 1 0 = Nat.xor wlen 0xFF && bytes.getD 2 0 = 0 && bytes.getD 3 0 = 0 && wlen < 256)
  if badHdr || badLen then ((if badHdr then 2 else 0) + (if badLen then 4 else 0), [])
  else if room < wlen then (8, [])
  else (1, (bytes.drop 4).take wlen)

/-- The counter that a discarded transfer increments: the first that applies (R526). -/
def spiCounter (st : Nat) : Option String :=
  if st % 4 / 2 = 1 then some "BADHDR_CNT" else if st % 8 / 4 = 1 then some "LENERR_CNT" else if st / 8 % 2 = 1 then some "SPI_RXFULL_CNT" else none

/-- Room has returned to a session whose output queue lost `n` characters (R73). -/
def State.outDrained (i n : Nat) (s : State) : State := (s.setSess i { s.sessAt i with out := drainOut n (s.sessAt i).out }).afterDrain i

/-- SPI_CS_RISE (R526 to R528, R539): the transfer ends with the bytes clocked in; whole reply bytes clocked out are consumed. -/
def execSpiCsRise (ts : Nat) (bytes : List Nat) (s0 : State) : Host.Outcome State Fault Refusal :=
  let s := s0.advanceTo ts
  if !s.spi.enabled then .next s
  else match s.spi.header with
    | none => if s.spi.early then
        .next (({ s with spi := { s.spi with early := false, status := 4, lastRise := some s.now } }).bump "LENERR_CNT" 3) else .next s
    | some (_, rlen, _, _) =>
      let j := spiJudge bytes (512 - s.spi.rxbuf.length)
      let s1 := ({ s with spi := { s.spi with header := none, status := j.1, lastRise := some s.now, rxbuf := s.spi.rxbuf ++ j.2 } }).bump "SPI_XFER_CNT" 0
      let s2 := match spiCounter j.1 with
        | some c => s1.bump c 3
        | none => s1
      .next (s2.outDrained 2 (min rlen (bytes.length - 4)))

/-! ### Output of the UARTs (R73, R520) -/

/-- The bytes of a peer session's output, as reply lines of frames, are sent elsewhere; a paused UART sends none; S2's bytes leave with SPI transfers. -/
def State.portDrain (i n : Nat) (s : State) : State :=
  if !(s.sessAt i).opened then s
  else if i < 2 then (if s.uartRuns i && !(s.uartAt i).paused then s.outDrained i n else s)
  else s

/-! ### I2C (R529 to R532, R541, R542) -/

/-- The result words of R530. -/
def i2cWord (o : Nat) : String := ["ACK", "NACK", "TIMEOUT", "ARBLOST", "TIMEOUT"].getD o "ACK"
def i2cCounter (o : Nat) : Option String := match o with
  | 1 => some "NACK_CNT"
  | 2 | 4 => some "I2C_TIMEOUT_CNT"
  | 3 => some "ARBLOST_CNT"
  | _ => none

/-- The reply of a transfer. -/
def i2cReply (ph : Phrase) (b : I2cBus) : KVs :=
  [("addr", toString ((attrInt ph "ADDR" 8 0x77).getD 0)), ("result", i2cWord b.outcome), ("at", toString b.at_),
    ("r", showBytes (b.r.take ((attrInt ph "R" 0 64).getD 0).toNat))]

/-- What the check of the bus finds before a transfer (R532): SCL low, or SDA low after nine pulses. -/
def i2cStuck (b : I2cBus) : Option String :=
  if b.sclLow then some "SCL"
  else match b.sdaFree with
    | some k => if 9 < k || k = 0 then some "SDA" else none
    | none => none

/-- EV I2C.n STUCK (R532). -/
def State.i2cStuckEv (n : Nat) (line : String) (s : State) : State :=
  let s1 := if line = "SCL" then s.advanceTo (s.now + s.ns .i2c n "STRETCH") else s.bump "I2C_STUCK_CNT" n
  ((s1.setI2c n { s1.i2cAt n with sda := line ≠ "SDA", scl := line ≠ "SCL" })).ev "HST"
    (.port (match s.natOpt .i2c n "USEPART" with
      | some p => [p]
      | none => []) none) ("I2C." ++ toString n ++ " STUCK line=" ++ line)

/-- The end of a transfer: its counters and reply. -/
def State.i2cEnd (n : Nat) (b : I2cBus) (s : State) : State :=
  let s1 := s.setI2c n { s.i2cAt n with busy := none, sda := true, scl := true }
  match i2cCounter b.outcome with
  | some c => s1.bump c n
  | none => s1

/-- A transfer (R530 to R532); one that a target holds by SCL stays under way until I2C_STRETCH_TIMEOUT. -/
def i2cXfer (sess : Nat) (ph : Phrase) (b : I2cBus) (n : Nat) (s : State) : Ans :=
  let get := ph.verb = .get
  let stuck := i2cStuck b
  { errs := errIf (s.retired 41) .retired ++ s.useErrs sess .i2c n ++ extraAttrs ph (if get then ["ADDR", "W", "R"] else ["ADDR", "W"])
      ++ needAttr ph "ADDR" (.int 8 0x77) ++ (if get then optAttr ph "W" (.bytes 0 64) ++ optAttr ph "R" (.int 0 64) else needAttr ph "W" (.bytes 0 64))
      ++ errIf (!(s.i2cAt n).enabled) .state ++ errIf (s.i2cAt n).busy.isSome .busy ++ errIf stuck.isSome .i2cstuck
    onErr := some fun e a => if e = .i2cstuck then a.i2cStuckEv n (stuck.getD "SDA") else a
    act := fun s =>
      let s1 := (if b.sdaFree.isSome then s.bump "I2C_RECOV_CNT" n else s).bump "I2C_XFER_CNT" n
      if b.outcome = 4 && !ph.ranged then (s1.setI2c n { s1.i2cAt n with busy := some (sess, ph, b), scl := false, since := s1.now }, [])
      else
        let s2 := if b.outcome = 2 then s1.advanceTo (s1.now + s.ns .i2c n "STRETCH") else s1
        (s2.i2cEnd n b, [i2cReply ph b])
    await := b.outcome = 4 && !ph.ranged }

/-- I2C_XFER_READ (R530). -/
def execI2cXferRead (sess : Nat) (ph : Phrase) (b : I2cBus) (s : State) : Host.Outcome State Fault Refusal :=
  .next (runRow "I2C_XFER_READ" sess ph (perInst sess ph (i2cXfer sess ph b)) s)
/-- I2C_XFER_WRITE (R530). -/
def execI2cXferWrite (sess : Nat) (ph : Phrase) (b : I2cBus) (s : State) : Host.Outcome State Fault Refusal :=
  .next (runRow "I2C_XFER_WRITE" sess ph (perInst sess ph (i2cXfer sess ph b)) s)

/-- I2C_STRETCH_TIMEOUT (R531, R541): a low period of SCL has lasted longer than STRETCH. -/
def execI2cStretchTimeout (n : Nat) (s : State) : Host.Outcome State Fault Refusal :=
  match (s.i2cAt n).busy with
  | none => .next s
  | some (i, ph, b) =>
    let s1 := (s.advanceTo ((s.i2cAt n).since + s.ns .i2c n "STRETCH")).i2cEnd n b
    .next ((s1.putLines i (daLines ph.tag ph.checked false (i2cReply ph b))).answerLater i none)

/-! ### What UART, SPI and I2C show -/

def State.uartRead (s0 : State) (n : Nat) (name : String) : String :=
  let s := s0.txSettle
  let u := s.uartAt n
  if name = "STATE" then (if !s.uartRuns n then "OFF" else if u.hunt then "HUNT" else "RUN")
  else if name = "RATE" then toString u.rate
  else if name = "RXQ" then toString u.rx.length
  else yesNo u.paused

def State.spiRead (s : State) (name : String) : String :=
  if name = "STATE" then (if s.spi.enabled then "RUN" else "OFF")
  else if name = "RXROOM" then toString (512 - s.spi.rxbuf.length)
  else toString s.spiWaiting

def State.i2cRead (s : State) (n : Nat) (name : String) : String :=
  let x := s.i2cAt n
  if name = "STATE" then (if !x.enabled then "OFF" else if x.busy.isSome then "BUSY" else "IDLE")
  else if name = "SDA" then (if x.sda then "HIGH" else "LOW")
  else if x.scl then "HIGH" else "LOW"

end Sys2Proof.Machine
end

