-- ==== Sys2Proof/Machine/Times.lean ====
section
/-!
DEFINITION. Sys2Proof/Machine/Times.lean: the rows of the time bases, and what TIME shows (17_attic_time.md, R572 to R582, R598).
-/
namespace Sys2Proof.Machine

/-- GPS time, while valid (R575). -/
def State.gpsTime (s : State) : Option Nat := s.times.gpsOff.map fun o => ((s.now : Int) + o).toNat

/-- A TIME-SET record, with the stamp from before the step (R577, R578, R606); by a session's phrase, with the session and its partition. -/
def State.timeSetRecord (sess part after src : Nat) (s : State) : State :=
  s.fieldBy 0x0107 42 255 sess part (leBytes s.times.cal 8 ++ leBytes after 8 ++ [src])

def State.timeEv (t : String) (s : State) : State := s.ev "ATT" toSuper ("TIME " ++ t)

/-- The GPS second of the next comparison (R577). -/
def State.nextCompare (s : State) (g : Nat) : Nat := if s.times.gpsFirst then ceilDiv g nsS else s.times.lastCmp + 60

/-- CAL_COMPARE (R577): CAL is stepped to GPS time, or the trim of the RTC changes. -/
def execCalCompare (s : State) : Host.Outcome State Fault Refusal :=
  match s.gpsTime, s.times.gpsOff with
  | some g, some off =>
    let sec := s.nextCompare g
    let s0 := s.advanceTo (((sec * nsS : Nat) : Int) - off).toNat
    let s1 := { s0 with times := { s0.times with gpsFirst := false, lastCmp := sec } }
    let gps := ((s1.now : Int) + off).toNat
    let d := (gps : Int) - s1.times.cal
    if s1.times.calSrc ≠ .gps || nsMs < d.natAbs then
      let s2 := s1.timeSetRecord 255 4 gps 1
      let s3 := { s2 with times := { s2.times with cal := gps, calSrc := .gps } }
      .next ((s3.bump "TIMESTEP_CNT").timeEv ("STEP delta=" ++ toString d))
    else
      .next { s1 with times := { s1.times with rtctrim := max (-2000) (min 2000 (s1.times.rtctrim + divRound d 6000)) } }
  | _, _ => .next s

/-- SET of TIME (R578, R598). -/
def timeSet (sess : Nat) (ph : Phrase) (s : State) : Ans :=
  let cal := attrInt ph "CAL" 0 9223372036854775807
  Ans.eff (s.unitErrs sess ph .time none ++ setAttrErrs timeAttrs (s.sessAt sess).super ph ++ errIf (ph.has "LEAP" && !ph.has "CAL") .attr (ph.tok "LEAP")
      ++ errIf (ph.has "CAL" && s.times.gpsOff.isSome) .state)
    fun s =>
      let s1 := match cal with
        | some c =>
          let ns := c.toNat * nsMs
          let a := s.timeSetRecord sess (s.sessAt sess).part ns 2
          { a with times := { a.times with cal := ns, calSrc := .host } }
        | none => s
      let s2 := match attrInt ph "LEAP" 0 255 with
        | some l => { s1 with times := { s1.times with leap := l.toNat, leapv := true } }
        | none => s1
      match attrVal ph "ALARMIN" (.timeW 1000000 2592000000000 1 ["NONE"]) with
      | some (.n t) => { s2 with times := { s2.times with alarm := some (s2.now + 1000 * t.toNat), alarmIn := t.toNat } }
      | some _ => { s2 with times := { s2.times with alarm := none } }
      | none => s2

/-- SET_TIME (R578). -/
def execSetTime (sess : Nat) (ph : Phrase) (s : State) : Host.Outcome State Fault Refusal := .next (runRow "SET_TIME" sess ph (timeSet sess ph) s)
/-- SET_TIME_ALARMIN (R598). -/
def execSetTimeAlarmin (sess : Nat) (ph : Phrase) (s : State) : Host.Outcome State Fault Refusal := .next (runRow "SET_TIME_ALARMIN" sess ph (timeSet sess ph) s)

/-- The device's control die runs: not in STANDBY or OFF. -/
def State.awake (s : State) : Bool := s.power.dstate ≠ .standby && s.power.dstate ≠ .off

/-- RTC_ALARM_DUE (R640): outside STANDBY the alarm is consumed without effect, but one due during SHUTDOWN stays for the wake (R637); in STANDBY it is a condition that
STANDBY_WAKE finds. -/
def execRtcAlarmDue (s : State) : Host.Outcome State Fault Refusal :=
  match s.times.alarm with
  | some t =>
    if !s.awake || s.power.dstate = .shutdown then .next s
    else
      let s1 := s.advanceTo t
      .next { s1 with times := { s1.times with alarm := none } }
  | none => .next s

/-- RTC_STOP (R579): I00 runs on its RC oscillator and CAL is no longer valid; `ts` is the end of the 4 ms. -/
def execRtcStop (ts : Nat) (s : State) : Host.Outcome State Fault Refusal :=
  if s.times.rtcRC then .next s
  else
    let s0 := if s.awake then s.advanceTo ts else s
    let s1 := { s0 with times := { s0.times with rtcRC := true, calSrc := .none_ } }
    let s2 := s1.bump "RTCFAIL_CNT"
    .next (if s.awake then (s2.timeEv "RTCFAIL state=STOP").service 0x020C 0 255 255 4 [0] else s2)

/-- RTC_RUN (R579): the crystal has run again for 1 s. -/
def execRtcRun (ts : Nat) (s : State) : Host.Outcome State Fault Refusal :=
  if !s.times.rtcRC then .next s
  else
    let s0 := if s.awake then s.advanceTo ts else s
    let s1 := { s0 with times := { s0.times with rtcRC := false } }
    .next (if s.awake then (s1.timeEv "RTCFAIL state=RUN").service 0x020C 0 255 255 4 [1] else s1)

/-- LEAP_APPLY (R580, R607): at the end of the UTC day that the parameters name, on the GPS scale. -/
def execLeapApply (s : State) : Host.Outcome State Fault Refusal :=
  match s.times.leapSched with
  | none => .next s
  | some (t, new) =>
    let here := match s.gpsTime with
      | some g => some g
      | none => if s.calValid then some s.times.cal else none
    match here with
    | none => .next s
    | some g =>
      let s1 := s.advanceTo (s.now + (t * nsS - g))
      let s2 := s1.field 0x0108 42 255 4 [s1.times.leap, new]
      .next ({ s2 with times := { s2.times with leap := new, leapSched := none } }.timeEv ("LEAP leap=" ++ toString new))

/-- HOURS_SAVE (R581, R611): at every SYSTIME multiple of 60 s. -/
def execHoursSave (s : State) : Host.Outcome State Fault Refusal :=
  if !s.awake then .next s
  else
    let s1 := s.tick "HOURS" 0 (60 * nsS)
    .next (if s1.attic.committed then s1 else { s1 with times := { s1.times with mramHours := s1.hours } })

/-! ### UTC (R580, Table ATT-5) -/

/-- A date from the days since 1970-01-01: year, month, day. -/
def civil (z : Nat) : Nat × Nat × Nat :=
  let d := z + 719468
  let era := d / 146097
  let doe := d % 146097
  let yoe := (doe - doe / 1460 + doe / 36524 - doe / 146096) / 365
  let doy := doe - (365 * yoe + yoe / 4 - yoe / 100)
  let mp := (5 * doy + 2) / 153
  let m := if mp < 10 then mp + 3 else mp - 9
  (yoe + 400 * era + (if m ≤ 2 then 1 else 0), m, doy - (153 * mp + 2) / 5 + 1)

/-- A number with `k` digits. -/
def padNum (k n : Nat) : String := String.ofList (List.replicate (k - (toString n).length) '0') ++ toString n

/-- A UTC time in ms since 1980-01-06 without leap seconds; `leapSec` for the inserted second, which is 23:59:60. -/
def utcText (ms : Nat) (leapSec : Bool) : String :=
  let t := if leapSec then ms - 1000 else ms
  let c := civil (3657 + t / 86400000)
  let r := t % 86400000
  padNum 4 c.1 ++ "-" ++ padNum 2 c.2.1 ++ "-" ++ padNum 2 c.2.2 ++ "T" ++ padNum 2 (r / 3600000) ++ ":" ++ padNum 2 (r / 60000 % 60) ++ ":" ++
    padNum 2 (if leapSec then 60 else r / 1000 % 60) ++ "." ++ padNum 3 (r % 1000) ++ "Z"

/-- UTC, where CAL is valid and LEAP known. -/
def State.utc (s : State) : String :=
  if !s.calValid || !s.times.leapv then "NONE"
  else
    let cal := s.times.cal / nsMs
    let ins := match s.times.leapSched with
      | some (t, new) => s.times.leap < new && 1000 * t ≤ cal + 1000 && cal < 1000 * t
      | none => false
    utcText (cal - 1000 * s.times.leap) ins

def calWord : CalSrc → String
  | .none_ => "NONE" | .gps => "GPS" | .host => "HOST"

/-- What TIME shows (Table ATT-5). -/
def State.timeRead (s : State) (name : String) : String :=
  if name = "SYSTIME" then toString s.now
  else if name = "GPS" then numOrNone s.gpsTime
  else if name = "CAL" then toString (s.times.cal / nsMs)
  else if name = "CALSRC" then calWord s.times.calSrc
  else if name = "LEAP" then toString s.times.leap
  else if name = "LEAPV" then yesNo s.times.leapv
  else if name = "UTC" then s.utc
  else if name = "RTCTRIM" then toString s.times.rtctrim
  else if name = "RTC" then (if s.times.rtcRC then "RC" else "XTAL")
  else if name = "HOURS" then toString s.hours
  else if name = "BOOTS" then toString s.times.boots
  else if name = "ALARMIN" then (if s.times.alarm.isSome then showTime s.times.alarmIn else "NONE")
  else match s.times.alarm with
    | some t => toString (ceilDiv (t - s.now) nsS)
    | none => "NONE"

end Sys2Proof.Machine
end

