-- ==== Sys2Proof/Machine/Gnss.lean ====
section
/-!
DEFINITION. Sys2Proof/Machine/Gnss.lean: the rows of the GPS receiver and its aiding, and what GNSS, SAT and AID show (09_gnss.md, R321 to R355; R302 at a solution; R654).
-/
namespace Sys2Proof.Machine

/-! ### Antenna, notch filters, jamming (R324 to R327, R352, R353) -/

def antWords : List String := ["OFF", "OK", "OPEN", "SHORT"]
def notchWords : List String := ["IDLE", "TRACKING", "SATURATED"]
def jamWords : List String := ["NONE", "WARN", "ALARM"]

/-- The antenna bias changes state (R324). -/
def State.setAnt (st ma : Nat) (s : State) : State :=
  let s1 : State := { s with gnss := { s.gnss with ant := st, antMa := ma, shortAt := if st = 3 then some (s.now + nsS) else none } }
  if s.gnss.ant = st then s1
  else
    let s2 := if 2 ≤ st then s1.bump "ANTFLT_CNT" else s1
    (s2.gnssEv ("GNSS ANT state=" ++ antWords.getD st "" ++ " ma=" ++ toString ma)).field 0x0101 24 255 4 ([st, 0] ++ leBytes ma 2)

/-- The bias is supplied and monitored. -/
def State.antOn (s : State) : Bool := s.hasGps && !s.retired 24 && s.awake && s.word .gnss 0 "ANTV" ≠ "OFF"

/-- ANT_STATE_CHANGE (R324): a short is left only by a re-test. -/
def execAntStateChange (state ma : Nat) (s : State) : Host.Outcome State Fault Refusal :=
  .next (if s.antOn && 1 ≤ state && state ≤ 3 && s.gnss.ant ≠ 3 then s.setAnt state ma else s)

/-- ANT_SHORT_RETEST (R324, R353). -/
def execAntShortRetest (ma : Nat) (s : State) : Host.Outcome State Fault Refusal :=
  match s.gnss.shortAt with
  | none => .next s
  | some t =>
    if !s.antOn then .next s
    else
      let s1 := s.advanceTo t
      .next (if 60 < ma then { s1 with gnss := { s1.gnss with antMa := ma, shortAt := some (s1.now + nsS) } } else s1.setAnt 1 ma)

/-- Notch filter k: its state and offset (R326). With NOTCH=OFF every status reads IDLE (R325). -/
def State.notch (s : State) (k : Nat) : Nat × Int := if s.word .gnss 0 "NOTCH" = "OFF" then (0, 0) else Tab.get (0, 0) s.gnss.notch k

/-- The event and the record of a change (R326). -/
def State.notchReport (k : Nat) (st : Nat) (hz : Int) (s : State) : State :=
  (s.gnssEv ("GNSS NOTCH k=" ++ (if k < 4 then toString k else "NONE") ++ " state=" ++ notchWords.getD st "" ++ " hz=" ++ toString hz)).field 0x0102 24 255 4
    ([if k < 4 then k else 255, st, if s.gnss.notchFull then 1 else 0, 0] ++ leBytes (toTwos 32 hz) 4)

/-- NOTCH_STATE_CHANGE (R326): `full` when a fifth interferer waits while all four filters are locked; k above 3 for a change of NOTCHFULL alone. -/
def execNotchStateChange (k state : Nat) (hz : Int) (full : Bool) (s : State) : Host.Outcome State Fault Refusal :=
  if !s.gnss.running || s.word .gnss 0 "NOTCH" = "OFF" || 2 < state then .next s
  else
    let hz' := if state = 0 then 0 else hz
    let s1 : State := if k < 4 then { s with gnss := { s.gnss with notch := Tab.set (0, 0) s.gnss.notch k (state, hz') } } else s
    let full' := full && (List.range 4).all fun j => (s1.notch j).1 ≠ 0
    let s2 : State := { s1 with gnss := { s1.gnss with notchFull := full' } }
    let s3 := if k < 4 && s.notch k ≠ (state, hz') then s2.notchReport k state hz' else s2
    .next (if s.gnss.notchFull = full' then s3 else s3.notchReport 255 0 0)

/-- The JAMI that a level's threshold gives up (R327, R352): below the threshold minus 8. -/
def State.jamBelow (s : State) (l jami : Nat) : Bool := jami + 8 < s.nat .gnss 0 (if l = 2 then "JAMALARM" else "JAMWARN")

/-- JAM_EVAL (R327), every 100 ms. -/
def execJamEval (jami : Nat) (s : State) : Host.Outcome State Fault Refusal :=
  if !s.gnss.running then .next s
  else
    let s0 := s.tick "JAM" 0 (100 * nsMs)
    let j := min jami 255
    let since (l : Nat) : Option Nat := if s0.jamBelow l j then some ((Tab.get none s0.gnss.jamLow l).getD s0.now) else none
    let up := if s0.nat .gnss 0 "JAMALARM" ≤ j then 2 else if s0.nat .gnss 0 "JAMWARN" ≤ j then 1 else 0
    let cur := s0.gnss.jam
    let falls := match since cur with
      | some t => t + nsS ≤ s0.now
      | none => false
    let new := if cur < up then up else if 0 < cur && falls then cur - 1 else cur
    let s1 : State := { s0 with gnss := { s0.gnss with jami := j, jam := new, jamLow := Tab.set none (Tab.set none s0.gnss.jamLow 1 (since 1)) 2 (since 2) } }
    .next (if new = cur then s1
      else
        let s2 := if new = 0 then s1 else s1.bump "JAM_CNT"
        (s2.gnssEv ("GNSS JAM state=" ++ jamWords.getD new "" ++ " jami=" ++ toString j)).field 0x0103 24 255 4 [new, j])

/-! ### Aiding (R322, R328, R330, R331, R355, IS-GPS-200) -/

/-- The best knowledge of GPS time in ns, with its uncertainty in µs (R322, R328). -/
def State.knownGps (s : State) : Option (Nat × Nat) :=
  match s.gpsTime with
  | some g => some (g, 0)
  | none =>
    let rtc := if s.calValid then some (s.times.cal, 1000000) else none
    let aid := s.gnss.aid.time.map fun t => ((t.1 * 604800000 + t.2.1) * nsMs + (s.now - t.2.2.2), t.2.2.1)
    match rtc, aid with
    | some r, some a => some (if a.2 ≤ r.2 then a else r)
    | some r, none => some r
    | none, a => a

/-- IODE of an ephemeris subframe: the low byte of IODC in subframe 1 (IS-GPS-200). -/
def iodeOf (sf : Nat) (d : List Nat) : Nat := d.getD (if sf = 1 then 21 else if sf = 2 then 6 else 27) 0

/-- The reference time toe of subframe 2, s of the week. -/
def toeOf (d : List Nat) : Nat := (d.getD 27 0 * 256 + d.getD 28 0) * 16

/-- Distance of two times of week, s. -/
def weekDiff (a b : Int) : Nat := ((a - b + 302400) % 604800 - 302400).natAbs

/-- A subframe takes its place: only subframes of one IODE stay together (R355). -/
def putSub (prn sf : Nat) (d : List Nat) (l : List (Nat × Nat × Nat × List Nat)) : List (Nat × Nat × Nat × List Nat) :=
  l.filter (fun e => !(e.1 = prn && (e.2.1 = sf || e.2.2.1 ≠ iodeOf sf d))) ++ [(prn, sf, iodeOf sf d, d)]

/-- Subframes 1 to 3 of a satellite are held, of one IODE. -/
def subsWhole (prn : Nat) (l : List (Nat × Nat × Nat × List Nat)) : Bool := [1, 2, 3].all fun sf => l.any fun e => e.1 = prn && e.2.1 = sf

/-- The words 3 to 10 of a satellite's subframes. -/
def subWords (prn : Nat) (l : List (Nat × Nat × Nat × List Nat)) : List (List Nat) :=
  [1, 2, 3].map fun sf => ((l.find? fun e => e.1 = prn && e.2.1 = sf).map fun e => e.2.2.2.drop 6).getD []

/-- The ephemeris of a satellite is held and within 4 h of toe at time `g` (R328). -/
def Aid.ephValid (a : Aid) (prn g : Nat) : Bool :=
  match a.eph.find? fun e => e.1 = prn with
  | none => false
  | some e => match (if e.2.2 then a.sub else a.bsub).find? fun x => x.1 = prn && x.2.1 = 2 with
    | some x => weekDiff (g / nsS % 604800) (toeOf x.2.2.2) ≤ 14400
    | none => false

/-- The almanac of a satellite is held and within 90 days of its reference (R328). -/
def almValid (e : Nat × List Nat × Option Nat) (g : Nat) : Bool :=
  match e.2.2 with
  | some r => ((g / nsS : Nat) - (r : Int)).natAbs ≤ 7776000
  | none => false

/-- The reference of an almanac page: toa (word 4, bits 1 to 8) in the week nearest to the known time. -/
def almRef (d : List Nat) (g : Option Nat) : Option Nat :=
  g.map fun t =>
    let now : Int := (t / nsS : Nat)
    (now + (((d.getD 3 0 * 4096 : Nat) : Int) - now + 302400) % 604800 - 302400).toNat

/-- The aiding level (Table GNS-3): 0 HOT, 1 WARM, 2 COLD. -/
def State.aidLevel (s : State) : Nat :=
  let a := s.gnss.aid
  match s.knownGps, a.pos with
  | some t, some p =>
    if t.2 ≤ 1000 && p.2.2.2 ≤ 100 && 4 ≤ (a.eph.filter fun e => a.ephValid e.1 t.1).length then 0
    else if t.2 ≤ 10000000 && p.2.2.2 ≤ 1000 && a.alm.any (fun e => almValid e t.1) then 1 else 2
  | _, _ => 2
def aidWords : List String := ["HOT", "WARM", "COLD"]

/-- A satellite is healthy by what is held (Table GNS-1): the almanac health, the health of its almanac page (word 5, bits 17 to 24) and of its subframe 1 (word 3, bits 17 to 22). -/
def Aid.healthy (a : Aid) (prn : Nat) : Bool :=
  !a.bad.contains prn && !(a.alm.any fun e => e.1 = prn && e.2.1.getD 8 0 ≠ 0) && !((a.bsub ++ a.sub).any fun e => e.1 = prn && e.2.1 = 1 && e.2.2.2.getD 8 0 / 4 ≠ 0)

/-- An almanac page takes its place. -/
def State.putAlm (prn : Nat) (d : List Nat) (s : State) : State :=
  { s with gnss := { s.gnss with aid := { s.gnss.aid with
      alm := s.gnss.aid.alm.filter (fun e => e.1 ≠ prn) ++ [(prn, d, almRef d (s.knownGps.map Prod.fst))] } } }

/-- The 6-bit health words of an almanac health page, from a bit of its 30 bytes on (IS-GPS-200). -/
def healthBits (d : List Nat) (bit k : Nat) : List Nat :=
  (List.range k).map fun i => (d.take 30).foldl (fun a b => a * 256 + b % 256) 0 / 2 ^ (240 - bit - 6 * (i + 1)) % 64

/-- Satellites from `first` on take their health. -/
def State.putHealth (first : Nat) (hs : List Nat) (s : State) : State :=
  let new := (natsFrom first hs.length).filter fun p => hs.getD (p - first) 0 ≠ 0
  let kept := s.gnss.aid.bad.filter fun p => p < first || first + hs.length ≤ p
  { s with gnss := { s.gnss with aid := { s.gnss.aid with bad := kept ++ new } } }

/-- A broadcast subframe of the ephemeris (R330, R355). -/
def State.broadcastEph (prn sf : Nat) (d : List Nat) (s : State) : State :=
  let a := s.gnss.aid
  let bsub := putSub prn sf d a.bsub
  let s1 : State := { s with gnss := { s.gnss with aid := { a with bsub := bsub } } }
  if !subsWhole prn bsub then s1
  else
    let iode := iodeOf sf d
    let differs := a.eph.any (fun e => e.1 = prn && e.2.2 && e.2.1 = iode) && subWords prn a.sub ≠ subWords prn bsub
    let s2 : State := { s1 with gnss := { s1.gnss with aid := { s1.gnss.aid with
      eph := a.eph.filter (fun e => e.1 ≠ prn) ++ [(prn, iode, false)], sub := a.sub.filter fun e => e.1 ≠ prn } } }
    if differs then s2.gnssEv ("AID MISMATCH prn=" ++ toString prn) else s2

/-- NAV_SUBFRAME_DECODED (R321, R322, R330, R342): by subframe number and, in subframes 4 and 5, by the SV ID of word 3. -/
def execNavSubframeDecoded (r : NavIn) (s : State) : Host.Outcome State Fault Refusal :=
  let x := s.gch r.ch
  let d := r.data.map (· % 256)
  let sv := d.getD 6 0 % 64
  if !s.gnss.running || x.state ≠ 5 || d.length ≠ 30 then .next s
  else if 1 ≤ r.sf && r.sf ≤ 3 then .next (s.broadcastEph x.prn r.sf d)
  else if (r.sf = 4 || r.sf = 5) && 1 ≤ sv && sv ≤ 32 then .next (s.putAlm sv (d.drop 6))
  else if r.sf = 5 && sv = 51 then .next (s.putHealth 1 (healthBits d 72 24))
  else if r.sf = 4 && sv = 63 then .next (s.putHealth 25 (healthBits d 186 8))
  else if r.sf = 4 && sv = 56 then
    .next (({ s with gnss := { s.gnss with aid := { s.gnss.aid with iono := some (d.drop 6), utc := true } } } : State).setGpsTime s.times.gpsOff)
  else .next s

/-- What the pantry keeps of the aiding (R331). -/
def State.storeAid (s : State) : State :=
  { s with gnss := { s.gnss with stored := { s.gnss.aid with utc := s.gnss.aid.iono.isSome, time := none } } }

/-- AID_PERIODIC_SAVE (R331): 10 min in FIX. -/
def execAidPeriodicSave (s : State) : Host.Outcome State Fault Refusal :=
  match s.gnss.fixSince with
  | none => .next s
  | some t =>
    let s1 := (s.advanceTo (t + 600 * nsS)).storeAid
    .next { s1 with gnss := { s1.gnss with fixSince := some (t + 600 * nsS) } }

/-! ### Acquisition and tracking (R329, R332 to R334, R349, R353) -/

/-- The PRNs on channels. -/
def State.tracked (s : State) (prn : Nat) : Bool := gnssChans.any fun c => (s.gch c).state ≠ 0 && (s.gch c).prn = prn

/-- A satellite is assigned to the lowest IDLE channel (R332). -/
def State.assignSat (q : Nat × Option Int) (s : State) : State :=
  let low := match q.2 with
    | some e => e < s.int .gnss 0 "ELMASK"
    | none => false
  if q.1 = 0 || 32 < q.1 || low || s.tracked q.1 || !s.gnss.aid.healthy q.1 then s
  else match s.idleChans with
    | [] => s
    | c :: _ => s.setGch c { state := 1, prn := q.1, el := q.2.getD 0 }

/-- A satellite on a channel that awaits it is detected. -/
def State.foundSat (prn : Nat) (s : State) : State :=
  overList gnssChans (fun c a => if (a.gch c).state = 1 && (a.gch c).prn = prn then a.setGch c { a.gch c with state := 2 } else a) s

/-- ACQ_BURST (R329): a burst of 50 ms under a HEAVY grant; a DELAYED one waits, a REFUSED one is retried after 1 s. -/
def execAcqBurst (assign : List (Nat × Option Int)) (found : List Nat) (s : State) : Host.Outcome State Fault Refusal :=
  if !s.gnss.running || s.gnss.acqWait.isSome then .next s
  else
    let s0 := match s.gnss.acqEnd with
      | some t => s.advanceTo t
      | none => s
    match s0.askHeavy 0 with
    | (s1, some t) =>
      let s2 := overList found State.foundSat (overList assign State.assignSat (s1.advanceTo t))
      .next { s2 with gnss := { s2.gnss with acqEnd := some (t + 50 * nsMs) } }
    | (s1, none) => .next ({ s1 with gnss := { s1.gnss with acqWait := some (s1.now + nsS) } }.bump "ACQREF_CNT")

/-- ACQ_RETRY (R329): the next burst asks again. -/
def execAcqRetry (s : State) : Host.Outcome State Fault Refusal :=
  match s.gnss.acqWait with
  | some t =>
    let s1 := s.advanceTo t
    .next { s1 with gnss := { s1.gnss with acqWait := none } }
  | none => .next s

/-- CHANNEL_STATE_ADVANCE (R332): PULL, CODE, CARRIER, NAV. -/
def execChannelStateAdvance (c cn0 : Nat) (dop : Int) (s : State) : Host.Outcome State Fault Refusal :=
  let x := s.gch c
  if !s.gnss.running || 24 ≤ c || x.state = 0 || 5 ≤ x.state then .next s
  else
    let st := x.state + 1
    .next (s.setGch c { x with state := st, cn0 := min cn0 1023, dop := dop, lockAt := if st = 3 then s.now else x.lockAt, half := if st = 4 then true else if st = 5 then false else x.half })

/-- CHANNEL_LOCK_LOST (R332, R334). -/
def execChannelLockLost (c : Nat) (s : State) : Host.Outcome State Fault Refusal :=
  .next (if s.gnss.running && c < 24 && (s.gch c).state ≠ 0 then s.dropChan c else s)

/-- CARRIER_CYCLE_SLIP (Table GNS-6). -/
def execCarrierCycleSlip (c ts : Nat) (s : State) : Host.Outcome State Fault Refusal :=
  let x := s.gch c
  if !s.gnss.running || 24 ≤ c || x.state < 4 then .next s
  else
    let s1 := s.advanceTo ts
    .next (s1.setGch c { x with slip := (x.slip + 1) % 256, lockAt := s1.now })

/-- A copy begins on channel c (R333, R334). -/
def State.satCopyBegin (c : Nat) (off db : Int) (s : State) : State :=
  let x := s.gch c
  let s1 := s.setGch c { x with copy := true, hits := 0, miss := 0, copyOff := off, copyDb := db }
  let s2 := ((s1.gnssEv ("SAT." ++ toString c ++ " COPY prn=" ++ toString x.prn ++ " off=" ++ toString off ++ " db=" ++ toString db)).copyRecord c 1).bump "COPY_CNT"
  match s2.idleChans with
  | [] => s2.bump "COPYNOCH"
  | k :: _ => (s2.setGch k { state := 1, prn := x.prn, isCopy := true, el := x.el, az := x.az }).setGch c { s2.gch c with copyCh := some k }

/-- WATCH_CORRELATOR_SCAN (R333, R349): every 100 ms; `db` is the excess of the second peak over prompt in 0.1 dB. -/
def execWatchCorrelatorScan (c : Nat) (off db : Int) (s : State) : Host.Outcome State Fault Refusal :=
  let x := s.gch c
  if !s.gnss.running || 24 ≤ c || x.state < 3 || x.isCopy then .next s
  else
    let s0 := s.tick "SCAN" c (100 * nsMs)
    let off' := max (-1536) (min 1536 off)
    if x.copy then
      .next (if 30 < db then s0.setGch c { x with miss := 0 } else if 9 ≤ x.miss then s0.satCopyEnd c false else s0.setGch c { x with miss := x.miss + 1 })
    else
      .next (if db ≤ 30 then s0.setGch c { x with hits := 0 } else if 2 ≤ x.hits then s0.satCopyBegin c off' db else s0.setGch c { x with hits := x.hits + 1 })

/-! ### The epoch latch (R335, R336, R351, R354) -/

def chanWords : List String := ["IDLE", "ACQ", "PULL", "CODE", "CARRIER", "NAV"]

/-- A channel's satellite is excluded from the solution (R334, R338). -/
def State.chanExcluded (s : State) (c : Nat) : Bool :=
  let x := s.gch c
  x.copy || x.isCopy || (match x.exclEnd with
    | some t => s.now < t
    | none => false)

/-- One channel line (Table GNS-6), without its epoch. -/
def State.rawLine (s : State) (c : Nat) (m : ChanMeas) : KVs :=
  let x := s.gch c
  let car := 4 ≤ x.state
  let flags := (if x.half then 1 else 0) + (if x.copy || x.isCopy then 2 else 0) + (if s.chanExcluded c then 4 else 0) + (if x.state = 5 then 8 else 0) + (if car then 16 else 0)
  [("ch", toString c), ("prn", toString x.prn), ("state", chanWords.getD x.state ""), ("flags", showHex 2 flags), ("cn0", toString x.cn0), ("dop", toString x.dop),
   ("adr", if car then toString m.adr else "0"), ("slip", if car then toString x.slip else "0"), ("lock", toString ((s.now - x.lockAt) / nsMs % 4294967296)),
   ("pr", if x.state = 5 then toString m.pr else "0")]

/-- The instant of the next epoch (R335, R354): a multiple of the period in GPS time while it is valid, else in SYSTIME. -/
def State.nextEpochAt (s : State) : Nat :=
  let p := 1000 / s.nat .gnss 0 "EPOCHRATE" * nsMs
  let off := s.times.gpsOff.getD 0
  let g := ((s.now : Int) + off).toNat
  let t (k : Nat) : Nat := (((ceilDiv g p + k) * p : Nat) - off : Int).toNat
  if s.lastTick.find ("EPOCH", 0) = some (t 0) then t 1 else t 0

/-- GNSS_EPOCH_LATCH (R335, R336). -/
def execGnssEpochLatch (meas : List ChanMeas) (bias drift : Int) (s : State) : Host.Outcome State Fault Refusal :=
  if !s.gnss.running then .next s
  else
    let t := s.nextEpochAt
    let s0 : State := { s.advanceTo t with lastTick := AMap.put ("EPOCH", 0) t s.lastTick }
    let ms (c : Nat) : ChanMeas := (meas.find? fun m => m.ch = c).getD { ch := c, cn0 := (s0.gch c).cn0, dop := (s0.gch c).dop, adr := 0, pr := 0, half := (s0.gch c).half }
    let on := gnssChans.filter fun c => 3 ≤ (s0.gch c).state
    let s1 := overList on (fun c a =>
      let m := ms c
      let held := a.gnss.aid.eph.any (fun e => e.1 = (a.gch c).prn) || a.gnss.aid.alm.any fun e => e.1 = (a.gch c).prn
      a.setGch c { a.gch c with cn0 := min m.cn0 1023, dop := m.dop, half := m.half, el := if held then m.el else 0, az := if held then m.az else 0 }) s0
    let e := nextEpoch s1.gnss.rawEpoch
    let tag (l : KVs) : KVs := ("epoch", toString e) :: l
    let lines (cs : List Nat) : List KVs := cs.map fun c => tag (s1.rawLine c (ms c))
    let keep := on.filter fun c => !(s1.gch c).isCopy
    let follow := on.filter fun c => (s1.gch c).copyCh.isNone
    let g := (s1.gpsTime.getD 0) / nsMs
    let header (n : Nat) : KVs := tag [("week", toString (g / 604800000)), ("tow", toString (g % 604800000)), ("systime", toString s1.now), ("bias", toString bias), ("drift", toString drift),
      ("timevalid", yesNo s1.gnss.gpsV), ("nch", toString n)]
    .next { s1 with gnss := { s1.gnss with rawEpoch := e, raw := some { keep := header keep.length :: lines keep, follow := header follow.length :: lines follow } } }

/-! ### NMEA (R341) -/

/-- The NMEA checksum: the exclusive or of the characters. -/
def nmeaSum (t : String) : Nat := t.toList.foldl (fun a c => Nat.xor a c.toNat) 0
/-- A whole sentence. -/
def nmeaLine (t : String) : String := "$" ++ t ++ "*" ++ String.ofList (hexDigits (nmeaSum t) 2) ++ crlf

/-- Hundredths as a decimal number. -/
def cents (x : Int) : String := (if x < 0 then "-" else "") ++ toString (x.natAbs / 100) ++ "." ++ padNum 2 (x.natAbs % 100)

/-- A coordinate in nanodegrees as ddmm.mmmmm with `k` digits of degrees, and its letter. -/
def nmeaCoord (k : Nat) (x : Int) (pos neg : String) : String :=
  let m := x.natAbs % 1000000000 * 6 / 1000
  padNum k (x.natAbs / 1000000000) ++ padNum 2 (m / 100000) ++ "." ++ padNum 5 (m % 100000) ++ "," ++ (if x < 0 then neg else pos)

/-- One sentence of a solution: fields the spec does not give are empty. -/
def State.nmeaText (s : State) (r : GnssSol) (nsv : Nat) (cog : Int) (hgt : Int) (prns : List Nat) (w : String) : String :=
  let fix := s.gnss.fix
  let ms := r.gps / nsMs - 1000 * s.times.leap
  let d := civil (3657 + ms / 86400000)
  let time := if s.gnss.utcV then padNum 2 (ms / 3600000 % 24) ++ padNum 2 (ms / 60000 % 60) ++ padNum 2 (ms / 1000 % 60) ++ "." ++ padNum 2 (ms / 10 % 100) else ""
  let date := if s.gnss.utcV then padNum 2 d.2.2 ++ padNum 2 d.2.1 ++ padNum 2 (d.1 % 100) else ""
  let pos := if fix then nmeaCoord 2 r.lat "N" "S" ++ "," ++ nmeaCoord 3 r.lon "E" "W" else ",,,"
  let v := isqrt (r.ve * r.ve + r.vn * r.vn).toNat
  let kn := if fix then cents (divRound (v * 90) 463) else ""
  let kmh := if fix then cents (divRound (v * 36) 100) else ""
  let c := if fix then cents (divRound cog 10) else ""
  let mode := if fix then "A" else "N"
  if w = "GGA" then "GPGGA," ++ time ++ "," ++ pos ++ "," ++ (if fix then "1" else "0") ++ "," ++ padNum 2 nsv ++ "," ++ cents r.hdop ++ "," ++ (if fix then cents (divRound hgt 10) else "")
      ++ ",M,,M,,"
  else if w = "RMC" then "GPRMC," ++ time ++ "," ++ (if fix then "A" else "V") ++ "," ++ pos ++ "," ++ kn ++ "," ++ c ++ "," ++ date ++ ",,," ++ mode
  else if w = "VTG" then "GPVTG," ++ c ++ ",T,,M," ++ kn ++ ",N," ++ kmh ++ ",K," ++ mode
  else "GPGSA,A," ++ ["1", "2", "3"].getD s.gnss.dim "1" ++ "," ++ joinWith "," ((List.range 12).map fun i => match prns[i]? with
      | some p => padNum 2 p
      | none => "") ++ "," ++ cents r.pdop ++ "," ++ cents r.hdop ++ "," ++ cents r.vdop

/-- Bit times of one character on UART2. -/
def State.uartBits (s : State) (n : Nat) : Nat := 9 + s.nat .uart n "STOP" + (if s.word .uart n "PARITY" = "NONE" then 0 else 1)

/-- The sentences that would be sent in time, in order, and how many would not (R341). -/
def fitNmea (room : Nat) : List String → Nat → List String × Nat
  | [], _ => ([], 0)
  | l :: ls, used =>
    if used + l.length ≤ room then
      let r := fitNmea room ls (used + l.length)
      (l :: r.1, r.2)
    else
      let r := fitNmea room ls used
      (r.1, r.2 + 1)

/-- NMEA after a solution (R341). -/
def State.nmeaOut (r : GnssSol) (nsv : Nat) (cog hgt : Int) (prns : List Nat) (s : State) : State :=
  let pr := s.nat .gnss 0 "POSRATE"
  let nr := s.nat .gnss 0 "NMEARATE"
  let k := r.gps / nsMs % 1000 / (1000 / pr)
  let ws := ["GGA", "RMC", "VTG", "GSA"].filter (splitStr ',' (s.word .gnss 0 "NMEA")).contains
  if ws.isEmpty || k % (pr / nr) ≠ 0 || !s.uartRuns 2 || s.word .uart 2 "MODE" ≠ "NMEA" then s
  else
    let room := if (s.uartAt 2).paused then 0 else (s.uartAt 2).rate / (nr * s.uartBits 2)
    let f := fitNmea room (ws.map fun w => nmeaLine (s.nmeaText r nsv cog hgt prns w)) 0
    (s.setUart 2 { s.uartAt 2 with wire := f.1 }).bumpBy "NMEADROP_CNT" 0 f.2

/-! ### Calibration of a wheel against GPS (R302) -/

/-- A completed run; a set of CALRUNS runs gives the proposal. A run without counts has no result in the spec: it is a free value. -/
def State.calRunDone (n : Nat) (s : State) : State :=
  let o := s.odoAt n
  let f := s.free
  let res := if o.calCnt = 0 then f.1.toNat else o.calDist * 1000000 / o.calCnt
  let s0 := if o.calCnt = 0 then f.2 else s
  let rs := o.calRes ++ [res]
  let o1 := { o with calCnt := 0, calDist := 0, calRes := rs }
  if rs.length < s.nat .odo n "CALRUNS" then s0.setOdo n o1
  else
    let mean := (2 * rs.sum + 1000 * rs.length) / (2000 * rs.length)
    let hi := rs.foldl max 0
    let lo := rs.foldl min hi
    let spread := (2 * 1000 * (hi - lo) * rs.length + rs.sum) / (2 * max 1 rs.sum)
    (s0.setOdo n { o1 with calRes := [], prop := some mean }).odoEv n ("CALREADY mpc=" ++ toString mean ++ " spread=" ++ toString spread)

/-- One unit at a solution of horizontal speed `v` in mm/s and course `cog` in millidegrees. -/
def calUnit (fix : Bool) (v : Nat) (cog : Int) (n : Nat) (s : State) : State :=
  let o := s.odoAt n
  if !o.calOn || o.state ≠ 1 then s
  else
    let pr := s.nat .gnss 0 "POSRATE"
    let turn := match o.calCourse with
      | some c => 2000 ≤ ((cog - c + 180000) % 360000 - 180000).natAbs * pr
      | none => false
    if !fix || v < 1000 || 15000 < v || turn then s.setOdo n { o with calCnt := 0, calDist := 0, calCourse := none }
    else
      let dist := o.calDist + v * 1000 / pr
      let s1 := s.setOdo n { o with calDist := dist, calCourse := some cog }
      if s.nat .odo n "CALDIST" * 1000 ≤ dist then s1.calRunDone n else s1

/-! ### The solution (R337 to R339, R342, R654) -/

/-- A channel may serve the solution (R337). -/
def State.serves (s : State) (g : Nat) (q : Nat × Nat) : Bool :=
  let x := s.gch q.1
  q.1 < 24 && x.state = 5 && x.prn = q.2 && s.nat .gnss 0 "CN0MASK" ≤ x.cn0 && s.int .gnss 0 "ELMASK" ≤ x.el && !s.chanExcluded q.1 && s.gnss.aid.ephValid q.2 g

/-- A satellite is excluded for 30 s (R338); a channel excluded three times in 60 s with three PRNs is at fault (R654). -/
def State.excludeSat (q : Nat × Nat) (s : State) : State :=
  let s1 := s.setGch q.1 { s.gch q.1 with exclEnd := some (s.now + 30 * nsS) }
  let l := (s1.faults.chanExcl.filter fun e => s1.now < e.2.2 + 60 * nsS) ++ [(q.1, q.2, s1.now)]
  let s2 : State := { s1 with faults := { s1.faults with chanExcl := l } }
  let mine := l.filter fun e => e.1 = q.1
  if 3 ≤ mine.length && 3 ≤ (mine.foldl (fun (a : List Nat) e => insertNat e.2.1 a) []).length then
    s2.detectIsland { cls := 7, detail := 0x41, island := some (chanIsland q.1) } [chanIsland q.1]
  else s2

def dimWord (d : Nat) : String := ["NONE", "2D", "3D"].getD d ""

/-- GNSS_SOLUTION (R337): at its instant. -/
def execGnssSolution (r : GnssSol) (s : State) : Host.Outcome State Fault Refusal :=
  if !s.gnss.running then .next s
  else
    let s0 := s.advanceTo r.sys
    let used0 := r.used.filter (s0.serves r.gps)
    let n0 := used0.length
    let drop := 6 ≤ n0 && !r.testOk
    let used := if drop then used0.filter fun q => q.2 ≠ r.worst else used0
    let s1 := if drop then overList (used0.filter fun q => q.2 = r.worst) State.excludeSat s0 else s0
    let n := used.length
    let chk := 5 ≤ n
    let good := n0 < 5 || r.testOk || (drop && r.test2Ok)
    let held := match s1.gnss.last3d with
      | some (t, _) => s1.now ≤ t + 30 * nsS
      | none => false
    let dim := if 4 ≤ n then 2 else if n = 3 && held then 1 else 0
    let fix := dim ≠ 0 && good && (chk || !s1.isOn .gnss 0 "NEEDCHK")
    let hgt := if dim = 1 then (s1.gnss.last3d.map Prod.snd).getD 0 else r.hgt
    let v := isqrt (r.ve * r.ve + r.vn * r.vn).toNat
    let cog := if v < 100 then s1.gnss.cog / 1000 else r.cog % 360000
    let ms := r.gps / nsMs
    let e := nextEpoch s1.gnss.solEpoch
    let dop (x : Nat) : String := toString (if dim = 0 then 9999 else min x 9999)
    let line : KVs := [("epoch", toString e), ("tov", toString (r.sys / 1000)), ("week", toString (ms / 604800000)), ("tow", toString (ms % 604800000)), ("fix", if fix then "STD" else "NONE"),
      ("dim", dimWord dim), ("chk", yesNo chk), ("lat", toString r.lat), ("lon", toString r.lon), ("hgt", toString hgt), ("ve", toString r.ve), ("vn", toString r.vn), ("vu", toString r.vu),
      ("cog", toString cog), ("nsv", toString n), ("pdop", dop r.pdop), ("hdop", dop r.hdop), ("vdop", dop r.vdop)]
    let g := s1.gnss
    let s2 : State := { s1 with gnss := { g with
      dim := dim, chk := chk, week := ms / 604800000, tow := ms % 604800000, solEpoch := e, sol := line
      nav := if fix then some ({ lat := r.lat, lon := r.lon, hgt := some hgt, fix := 1, tov := r.sys } : Sample) else g.nav
      ve := if fix then r.ve else g.ve, vn := if fix then r.vn else g.vn, cog := cog * 1000
      lastFix := if fix then s1.now else g.lastFix
      last3d := if fix && dim = 2 then some (s1.now, hgt) else g.last3d
      aid := if fix then { g.aid with pos := some (r.lat, r.lon, hgt, 0), week := some (ms / 604800000) } else g.aid } }
    let s3 := s2.setFix fix n
    let s4 := if good then s3
      else
        let a := (s3.bump "RESID_CNT").gnssEv ("GNSS RESID prn=" ++ showList (used.foldl (fun (l : List Nat) q => insertNat q.2 l) []))
        a.report { cls := 7, detail := 0x40, island := some 30 } 1 id
    let s5 := if fix then s4.setGpsTime (some ((r.gps : Int) - r.sys)) else s4
    let s6 := overList (List.range 8) (calUnit fix v cog) s5
    .next (s6.nmeaOut r n cog hgt (used.map Prod.snd))

/-- GPS_TIME_TIMEOUT (R342): 60 s without a fix. -/
def execGpsTimeTimeout (s : State) : Host.Outcome State Fault Refusal :=
  .next (if s.gnss.gpsV && !s.gnss.fix then (s.advanceTo (s.gnss.lastFix + 60 * nsS)).setGpsTime none else s)

/-! ### Phrases (R323, R339, R340, R346) -/

/-- The receiver starts (R323, R336, R339). -/
def State.startGnssNow (s : State) : State :=
  let s1 : State := { s with gnss := { s.gnss with running := true, solEpoch := 0, sol := [], rawEpoch := 0, raw := none, acqWait := none, acqEnd := none, last3d := none } }
  overList (List.range 4) (fun n a => a.clearEpochs .gnss n) s1

/-- What START GNSS finds (R341). -/
def State.gnssStartErrs (s : State) : List Err := errIf (s.nat .gnss 0 "POSRATE" % s.nat .gnss 0 "NMEARATE" ≠ 0) .range (some "NMEARATE")

/-- START_GNSS (R323). -/
def execStartGnss (sess : Nat) (ph : Phrase) (s : State) : Host.Outcome State Fault Refusal :=
  .next (runRow "START_GNSS" sess ph (fun s =>
    Ans.eff (s.unitErrs sess ph .gnss none ++ extraAttrs ph [] ++ s.gnssStartErrs ++ errIf s.gnss.running .state) State.startGnssNow) s)

/-- STOP_GNSS (R323, R331, R575). -/
def execStopGnss (sess : Nat) (ph : Phrase) (s : State) : Host.Outcome State Fault Refusal :=
  .next (runRow "STOP_GNSS" sess ph (fun s =>
    Ans.eff (s.unitErrs sess ph .gnss none ++ extraAttrs ph []) fun s => if s.gnss.running then s.storeAid.gnssDown else s) s)

/-- The lines of GNSS.n.POS or GNSS.n.RAW (R336, R339): RAW as the partition's COPY has it (R334). -/
def State.gnssLines (s : State) (n : Nat) (sub : String) : List KVs :=
  if sub = "POS" then (if s.gnss.sol.isEmpty then [] else [s.gnss.sol])
  else match s.gnss.raw with
    | some r => if s.word .gnss n "COPY" = "FOLLOW" then r.follow else r.keep
    | none => []

/-- The subscription delivers the result (R340). -/
def State.subscribed (s : State) (n : Nat) (sub : String) : Bool := s.word .gnss n "OUT" = "BOTH" || s.word .gnss n "OUT" = sub

/-- The epoch of a result. -/
def State.gnssEpoch (s : State) (sub : String) : Nat := if sub = "POS" then s.gnss.solEpoch else s.gnss.rawEpoch

/-- GET of GNSS.n.POS or GNSS.n.RAW (R79 to R81, R336, R339, R340). -/
def gnssGet (sess : Nat) (ph : Phrase) (n : Nat) (s : State) : Ans :=
  { errs := s.unitErrs sess ph .gnss (some n) ++ keyErrs ph (if ph.sub = "POS" then posKeys else []) ++ errIf (!s.subscribed n ph.sub) .state
      ++ s.latchErrs sess ph .gnss n ph.sub (!(s.gnssLines n ph.sub).isEmpty) (s.gnssEpoch ph.sub)
    act := fun s => (s.noteEpoch sess .gnss n ph.sub (s.gnssEpoch ph.sub), (s.gnssLines n ph.sub).map (pickKeys ph)) }

/-- GET_GNSS_POS (R339). -/
def execGetGnssPos (sess : Nat) (ph : Phrase) (s : State) : Host.Outcome State Fault Refusal :=
  .next (runRow "GET_GNSS_POS" sess ph (fun s => perInst sess ph (gnssGet sess ph) s) s)
/-- GET_GNSS_RAW (R336). -/
def execGetGnssRaw (sess : Nat) (ph : Phrase) (s : State) : Host.Outcome State Fault Refusal :=
  .next (runRow "GET_GNSS_RAW" sess ph (fun s => perInst sess ph (gnssGet sess ph) s) s)

/-- SET_GNSS_SUBSCRIPTION (R340, R344): at any time. -/
def execSetGnssSubscription (sess : Nat) (ph : Phrase) (s : State) : Host.Outcome State Fault Refusal :=
  .next (runRow "SET_GNSS_SUBSCRIPTION" sess ph (fun s => perInst sess ph (fun n s =>
    Ans.eff (s.unitErrs sess ph .gnss (some n) ++ (if ph.sub = "" then setAttrErrs (gnssAttrs true) (s.sessAt sess).super ph else [⟨.attr, some ph.nounTok⟩]))
      (storeAttrs (gnssAttrs true) .gnss n "" ph)) s) s)

/-- A SET of one AID sub (R346): every attribute of the sub is required. -/
def aidSet (sess : Nat) (ph : Phrase) (f : State → Aid → Aid) (s : State) : Ans :=
  let sp := aidAttrs ph.sub
  Ans.eff (s.unitErrs sess ph .aid none ++ setAttrErrs sp (s.sessAt sess).super ph ++ (sp.map fun a => errIf (!ph.has a.name) .attr (some a.name)).flatten)
    fun s => { s with gnss := { s.gnss with aid := f s s.gnss.aid } }

def aidNum (ph : Phrase) (name : String) : Int := match (specFind name (aidAttrs ph.sub)).bind fun a => attrVal ph name a.form with
  | some v => v.int
  | none => 0
def aidBytes (ph : Phrase) : List Nat := ((attrVal ph "D" (.bytes 0 30)).map Val.list).getD []

/-- SET_AID_TIME (R346). -/
def execSetAidTime (sess : Nat) (ph : Phrase) (s : State) : Host.Outcome State Fault Refusal :=
  .next (runRow "SET_AID_TIME" sess ph (aidSet sess ph fun s a => { a with time := some ((aidNum ph "WEEK").toNat, (aidNum ph "TOW").toNat, (aidNum ph "TUNC").toNat, s.now) }) s)
/-- SET_AID_POS (R346). -/
def execSetAidPos (sess : Nat) (ph : Phrase) (s : State) : Host.Outcome State Fault Refusal :=
  .next (runRow "SET_AID_POS" sess ph (aidSet sess ph fun _ a => { a with pos := some (aidNum ph "LAT", aidNum ph "LON", aidNum ph "HGT", (aidNum ph "PUNC").toNat) }) s)
/-- A host ephemeris subframe (R330, R355): the three of one IODE form an ephemeris, unless the broadcast one of that IODE is held. -/
def hostEph (prn sf : Nat) (d : List Nat) (a : Aid) : Aid :=
  let sub := putSub prn sf d a.sub
  let same := a.eph.any fun e => e.1 = prn && !e.2.2 && e.2.1 = iodeOf sf d
  { a with sub := sub, eph := if subsWhole prn sub && !same then a.eph.filter (fun e => e.1 ≠ prn) ++ [(prn, iodeOf sf d, true)] else a.eph }
/-- SET_AID_EPH (R346, R355). -/
def execSetAidEph (sess : Nat) (ph : Phrase) (s : State) : Host.Outcome State Fault Refusal :=
  .next (runRow "SET_AID_EPH" sess ph (aidSet sess ph fun _ a => hostEph (aidNum ph "PRN").toNat (aidNum ph "SF").toNat (aidBytes ph) a) s)
/-- SET_AID_ALM (R346). -/
def execSetAidAlm (sess : Nat) (ph : Phrase) (s : State) : Host.Outcome State Fault Refusal :=
  .next (runRow "SET_AID_ALM" sess ph (aidSet sess ph fun s _ => (s.putAlm (aidNum ph "PRN").toNat (aidBytes ph)).gnss.aid) s)
/-- SET_AID_IONO (R346): UTC becomes valid from broadcast or the pantry only (R342). -/
def execSetAidIono (sess : Nat) (ph : Phrase) (s : State) : Host.Outcome State Fault Refusal :=
  .next (runRow "SET_AID_IONO" sess ph (aidSet sess ph fun _ a => { a with iono := some (aidBytes ph), utc := false }) s)

/-- GET of AID (R346). -/
def aidGet (sess : Nat) (ph : Phrase) (s : State) : Ans :=
  let a := s.gnss.aid
  let prns (l : List Nat) : String := showList (l.foldl (fun (x : List Nat) p => insertNat p x) [])
  Ans.read (s.unitErrs sess ph .aid none ++ extraAttrs ph [] ++ errIf (ph.sub ≠ "") .attr (some ph.nounTok))
    fun _ => [[("level", aidWords.getD s.aidLevel ""), ("eph", prns (a.eph.map Prod.fst)), ("alm", prns (a.alm.map Prod.fst)), ("iono", yesNo a.iono.isSome), ("utc", yesNo a.iono.isSome),
      ("pos", yesNo a.pos.isSome)]]

/-- GET_AID (R346). -/
def execGetAid (sess : Nat) (ph : Phrase) (s : State) : Host.Outcome State Fault Refusal := .next (runRow "GET_AID" sess ph (aidGet sess ph) s)

/-- SAVE_AID (R331). -/
def execSaveAid (sess : Nat) (ph : Phrase) (s : State) : Host.Outcome State Fault Refusal :=
  .next (runRow "SAVE_AID" sess ph (fun s => Ans.eff (s.unitErrs sess ph .aid none ++ extraAttrs ph []) State.storeAid) s)
/-- LOAD_AID (R331). -/
def execLoadAid (sess : Nat) (ph : Phrase) (s : State) : Host.Outcome State Fault Refusal :=
  .next (runRow "LOAD_AID" sess ph (fun s => Ans.eff (s.unitErrs sess ph .aid none ++ extraAttrs ph [])
    fun s => ({ s with gnss := { s.gnss with aid := s.gnss.stored } } : State).setGpsTime s.times.gpsOff) s)
/-- RESET_AID (R331). -/
def execResetAid (sess : Nat) (ph : Phrase) (s : State) : Host.Outcome State Fault Refusal :=
  .next (runRow "RESET_AID" sess ph (fun s => Ans.eff (s.unitErrs sess ph .aid none ++ extraAttrs ph [])
    fun s => { s with gnss := { s.gnss with aid := {}, stored := {} } }) s)

/-- SET of GNSS (R323, R327, R343): stopped-only. ANTV=OFF ends the monitoring (Table GNS-2). -/
def gnssSet (sess : Nat) (ph : Phrase) (s : State) : Ans :=
  let sp := gnssAttrs false
  let num (n : String) : Int := (s.newVal ph sp .gnss 0 n).int
  Ans.eff (s.unitErrs sess ph .gnss none ++ setAttrErrs sp (s.sessAt sess).super ph
      ++ errIf (num "JAMALARM" ≤ num "JAMWARN") .range (if ph.has "JAMALARM" then ph.tok "JAMALARM" else ph.tok "JAMWARN") ++ errIf s.gnss.running .state)
    fun s =>
      let s1 := storeAttrs sp .gnss 0 "" ph s
      if s1.word .gnss 0 "ANTV" = "OFF" then s1.setAnt 0 0 else s1

/-! ### What is shown (R343 to R345) -/

/-- The activity of the receiver: STOPPED, SEARCH, TRACK, FIX. -/
def State.gnssState (s : State) : Nat :=
  if !s.gnss.running then 0 else if s.gnss.fix then 3 else if gnssChans.any fun c => 3 ≤ (s.gch c).state then 2 else 1

def State.gnssRead (s : State) (name : String) : String :=
  let k := ((natOf (name.toList.drop (name.length - 1))).getD 0)
  if name = "STATE" then ["STOPPED", "SEARCH", "TRACK", "FIX"].getD s.gnssState ""
  else if name = "FIX" then (if s.gnss.fix then "STD" else "NONE")
  else if name = "NSV" then toString s.gnss.nsv
  else if name = "AIDLEVEL" then aidWords.getD s.aidLevel ""
  else if name = "JAMI" then toString s.gnss.jami
  else if name = "JAM" then jamWords.getD s.gnss.jam ""
  else if name = "ANT" then antWords.getD s.gnss.ant ""
  else if name = "NOTCHFULL" then yesNo s.gnss.notchFull
  else if name = "GPSTIME" then yesNo s.gnss.gpsV
  else if name = "UTC" then yesNo s.gnss.utcV
  else if (name.take 7).toString = "NOTCHHZ" then toString (s.notch k).2
  else notchWords.getD (s.notch k).1 ""

def State.satRead (s : State) (c : Nat) (name : String) : String :=
  let x := s.gch c
  if name = "PRN" then toString x.prn
  else if name = "STATE" then chanWords.getD x.state ""
  else if name = "CN0" then toString x.cn0
  else if name = "DOP" then toString x.dop
  else if name = "LOCK" then toString (if 3 ≤ x.state then (s.now - x.lockAt) / nsMs % 4294967296 else 0)
  else if name = "COPY" then yesNo (x.copy || x.isCopy)
  else if name = "EXCL" then yesNo (s.chanExcluded c)
  else if name = "EL" then toString x.el
  else toString x.az

end Sys2Proof.Machine
end

