-- ==== Sys2Proof/Machine/ImplCore.lean ====
section
/-!
DEFINITION. Sys2Proof/Machine/ImplCore.lean: the pose and the motion of an implement (R137 to R146), where its section points lie (R144, R145, R147), and what the maps hold there
(R148, R149). Lengths are in µm, angles in microdegrees, yaw rates in microdegrees per second, speeds in mm/s.
-/
namespace Sys2Proof.Machine

/-- One radian in 10^-6 microdegrees. -/
abbrev radian : Int := 57295779513082

/-- The words of FIX (Table PLN-2). -/
def fixWords : List String := ["NONE", "STD", "DGPS", "FLOAT", "FIXED"]
def fixRank (w : String) : Nat := fixWords.idxOf w

/-- The event of IMPL.n (R164). -/
def State.implEv (n : Nat) (t : String) (s : State) : State := s.ev "PLN" (toPart n) ("IMPL." ++ toString n ++ " " ++ t)

/-! ### Sources (R137, R138) -/

/-- The latest position at or above MINFIX that the source has delivered (R143). -/
def State.goodPos (s : State) (n : Nat) : Option Sample :=
  let old := (s.implAt n).good
  if s.word .impl n "POSSRC" = "EXT" then old
  else match s.gnss.nav with
    | some p => if fixRank (s.word .impl n "MINFIX") ≤ p.fix then some p else old
    | none => old

/-- The heading its source gives, before the reverse rule of R138. -/
def State.srcHeading (s : State) (n : Nat) : Option Int :=
  let x := s.implAt n
  if s.word .impl n "HDGSRC" = "EXT" then x.hdgExt.map fun h => h.1 * 1000
  else if s.word .impl n "POSSRC" = "EXT" then x.track
  else if s.gnss.nav.isSome then some s.gnss.cog else none

/-- The speed its source gives (R137, R138): with a heading taken from the track, GPS velocity counts as forward. No odometer, no sample and no receiver read 0. -/
def State.srcSpeed (s : State) (n : Nat) : Int :=
  let x := s.implAt n
  let w := s.word .impl n "SPDSRC"
  if w = "EXT" then (x.spdExt.map Prod.fst).getD 0
  else if w = "ODO" then (match s.natOpt .impl n "ODO" with
    | some d => s.odoSpeed d
    | none => 0)
  else if !s.gnss.running || s.gnss.nav.isNone then 0
  else
    let a := sinCos ((s.srcHeading n).getD x.hdg)
    let v := divRound (s.gnss.ve * a.1 + s.gnss.vn * a.2) trigNat
    if s.word .impl n "HDGSRC" = "TRACK" then v.natAbs else v

/-- STOP, FWD or REV (R139). -/
def motionOf (v : Int) : Nat := if 100 ≤ v then 1 else if v ≤ -100 then 2 else 0

/-! ### The arithmetic of R142 and R145 -/

/-- v·dt along a heading. -/
def travel (v dt h : Int) : Int × Int :=
  let a := sinCos h
  (v * dt * a.1 / (1000000 * trigOne), v * dt * a.2 / (1000000 * trigOne))

/-- A pose a time dt in ns later (R142): east, north, heading. -/
def propagate (e n h v w dt : Int) : Int × Int × Int :=
  let d := travel v dt (h - w * dt / 2000000000)
  (e + d.1, n + d.2, (h - w * dt / 1000000000) % 360000000)

/-- wI, the yaw rate of a trailed implement (R145). -/
def State.implYaw (s : State) (n : Nat) (v w g : Int) : Int :=
  let a := sinCos g
  (-v * a.1 * radian / 1000000 + w * s.int .impl n "HITCHX" * a.2) / (s.int .impl n "AXLE" * trigOne)

def State.trailed (s : State) (n : Nat) : Bool := s.word .impl n "MODEL" = "TRAILED"

/-- The section speed at across offset c, in µm/s (R144, R145). -/
def State.secSpeed (s : State) (n : Nat) (v w g c : Int) : Int :=
  if s.trailed n then
    let a := sinCos g
    let u := v * 1000 * a.2 / trigOne + w * s.int .impl n "HITCHX" * a.1 * 1000000000 / (radian * trigOne)
    u - s.implYaw n v w g * c * 1000000 / radian
  else v * 1000 - w * c * 1000000 / radian

/-- A section point in machine coordinates (R144, R145). -/
def State.machinePoint (s : State) (n : Nat) (g a c : Int) : Int × Int :=
  if s.trailed n then
    let t := sinCos g
    (s.int .impl n "HITCHX" * 1000 + (a * t.2 - c * t.1) / trigOne, s.int .impl n "HITCHY" * 1000 + (a * t.1 + c * t.2) / trigOne)
  else (a, c)

/-! ### The cycle's pose (R139, R142, R143, R146) -/

/-- Heading in this cycle, as its source gives it or as it is held (R45, R138). -/
def State.cycleHeading (s : State) (n : Nat) (v : Int) : Int :=
  let x := s.implAt n
  if motionOf v = 0 && x.moved then x.hdg
  else match s.srcHeading n with
    | none => x.hdg
    | some h => (if s.word .impl n "HDGSRC" = "TRACK" && v < 0 then h + 180000000 else h) % 360000000

/-- The heading of 100 ms ago. -/
def oldHeading (hist : List (Nat × Int)) (now : Nat) : Option Int := (hist.find? fun p => p.1 + 100 * nsMs ≤ now).map Prod.snd

/-- The yaw rate (R137, R139). -/
def State.cycleYaw (s : State) (n : Nat) (v h : Int) : Int :=
  let x := s.implAt n
  if s.word .impl n "YAWSRC" = "EXT" then (x.yawExt.map fun y => y.1 * 1000).getD 0
  else if motionOf v = 0 then 0
  else match oldHeading x.hist s.now with
    | some o => -(wrapAngle (h - o)) * 10
    | none => 0

/-- A position sets the field origin where none is set (R22, R46). -/
def State.autoOrigin (n : Nat) (s : State) : State :=
  match s.origin, s.goodPos n with
  | none, some p => s.setOrigin (some (divRound p.lat 1000000, divRound p.lon 1000000))
  | _, _ => s

/-- The drawbar angle of this cycle, and whether it is held at its limit (R146). -/
def State.cycleGamma (s : State) (n : Nat) (v w : Int) : Int × Bool :=
  let x := s.implAt n
  if !s.trailed n || !x.cycled then (x.gamma, x.jack)
  else
    let g := x.gamma + (s.implYaw n v w x.gamma - w) * 5 / 1000
    if 85000000 < g then (85000000, true) else if g < -85000000 then (-85000000, true) else (g, false)

/-- An event where a condition begins to hold. -/
def State.evIf (c : Bool) (n : Nat) (t : String) (s : State) : State := if c then s.implEv n t else s

/-- The pose and the motion of implement n at its cycle start. -/
def State.takePose (n : Nat) (s0 : State) : State :=
  let s := s0.autoOrigin n
  let x := s.implAt n
  let v := s.srcSpeed n
  let m := motionOf v
  let h0 := s.cycleHeading n v
  let w := s.cycleYaw n v h0
  let good := s.goodPos n
  let fld := match good, s.origin with
    | some p, some o =>
      let f := toField p.lat p.lon (p.hgt.getD 0) o
      some (propagate f.1 f.2 h0 v (if m = 0 then 0 else w) ((s.now : Int) - p.tov))
    | _, _ => none
  let e := (fld.map fun f => f.1).getD x.east
  let nn := (fld.map fun f => f.2.1).getD x.north
  let h := if m = 0 then h0 else (fld.map fun f => f.2.2).getD h0
  let out := fld.isSome && (20000000000 < e.natAbs || 20000000000 < nn.natAbs)
  let age := (good.map fun p => s.now - p.tov).getD 0
  let ok := fld.isSome && !out && age ≤ s.ns .impl n "MAXAGE" && (!s.usesGnss n || s.gnss.running)
  let g := s.cycleGamma n v w
  let s1 := s.setImpl n { x with
    good := good, speed := v, motion := m, hdg := h, yaw := w, hist := ((s.now, h0) :: x.hist).take 21, moved := x.moved || m ≠ 0
    east := e, north := nn, outfield := out, posOk := ok, gamma := g.1, jack := g.2, cycled := true, mapErr := false
    rev := if m = 1 then false else x.rev || m = 2
    stopAt := if m ≠ 0 then none else if x.motion ≠ 0 then some s.now else x.stopAt
    lostAt := if ok then none else some (x.lostAt.getD s.now), lostDone := x.lostDone && !ok }
  let s2 := s1.evIf (out && !x.outfield) n ("OUTFIELD east=" ++ toString (divRound e 1000) ++ " north=" ++ toString (divRound nn 1000))
  let s3 := s2.evIf (!ok && x.posOk) n ("POSLOST age=" ++ toString (age / nsMs))
  let s4 := s3.evIf (ok && !x.posOk) n ("POSOK fix=" ++ fixWords.getD ((good.map Sample.fix).getD 0) "NONE")
  s4.evIf (g.2 && !x.jack) n ("JACKKNIFE gamma=" ++ toString (divRound g.1 1000))

/-! ### Where a footprint lies (R147, R148) -/

/-- The look-ahead: reference pose and drawbar angle dt ns after the cycle start. -/
structure Look where
  e : Int
  n : Int
  h : Int
  g : Int
  deriving DecidableEq, Repr

def State.lookAt (s : State) (n : Nat) (dt : Int) : Look :=
  let x := s.implAt n
  let w := if x.motion = 0 then 0 else x.yaw
  let p := propagate x.east x.north x.hdg x.speed w dt
  { e := p.1, n := p.2.1, h := p.2.2
    g := if s.trailed n then x.gamma + (s.implYaw n x.speed x.yaw x.gamma - x.yaw) * dt / 1000000000 else 0 }

/-- The field point of an offset (along a, across c) of implement n (R25). -/
def State.fieldPoint (s : State) (n : Nat) (l : Look) (a c : Int) : Int × Int :=
  let p := s.machinePoint n l.g a c
  machineToField l.e l.n l.h p.1 p.2

/-- The centre of section k's footprint. -/
def State.centre (s : State) (k : Nat) (l : Look) : Int × Int :=
  s.fieldPoint (s.owner .sec k) l (s.int .sec k "ALONG" * 1000) (s.int .sec k "ACROSS" * 1000)

/-- The centres of its eight sub-strips (R147). -/
def State.strips (s : State) (k : Nat) (l : Look) : List (Int × Int) :=
  let c := s.int .sec k "ACROSS" * 1000
  let w := s.int .sec k "WIDTH"
  (List.range 8).map fun (j : Nat) => s.fieldPoint (s.owner .sec k) l (s.int .sec k "ALONG" * 1000) (c + (7 - 2 * (j : Int)) * w * 125 / 2)

/-- What the maps hold at a look-ahead: the eight cells, an undeliverable one counting as no-go; the prescription cell, none for NONE; and how many were undeliverable. -/
structure Sampled where
  cells : List Nat
  rx    : Option Nat
  bad   : Nat
  deriving DecidableEq, Repr

/-- A cell of a layer at a field point. -/
def State.cellOf (s : State) (l : Nat) (p : Int × Int) : Option Nat := s.cellAt l (s.cellIx l p.1) (s.cellIx l p.2)

/-- The sample of section k at dt ns after the cycle start (R148, R149). -/
def State.sampleSec (s : State) (k : Nat) (dt : Int) : Sampled :=
  let n := s.owner .sec k
  let l := s.lookAt n dt
  let cs := (s.strips k l).map (s.cellOf n)
  let rx := (s.natOpt .sec k "PROD").map fun p => s.cellOf (10 + p) (s.centre k l)
  { cells := cs.map fun c => c.getD 3
    rx := match rx with
      | some (some v) => if v = 0xFFFF then none else some v
      | _ => none
    bad := (cs.filter Option.isNone).length + (if rx = some none then 1 else 0) }

/-- Undeliverable cells (R149). -/
def State.mapErrs (n k bad : Nat) (s : State) : State :=
  if bad = 0 then s
  else
    let x := s.implAt n
    let due := match x.mapErrAt with
      | some t => decide (t + nsS ≤ s.now)
      | none => true
    let s1 := (s.setImpl n { x with mapErr := true, mapErrAt := if due then some s.now else x.mapErrAt }).bumpBy "MAPERR_CNT" n bad
    s1.evIf due n ("MAPERR sec=" ++ toString k)

/-! ### What IMPL shows (Table PLN-3) -/

/-- A number held in a range. -/
def clampInt (lo hi x : Int) : Int := max lo (min hi x)

def motionWord (m : Nat) : String := ["STOP", "FWD", "REV"].getD m "STOP"

/-- A read-only attribute of IMPL.n, as a number where it is one. -/
def State.implNum (s : State) (n : Nat) (name : String) : Int :=
  let x := s.implAt n
  if name = "SPEED" then clampInt (-30000) 30000 x.speed
  else if name = "HDG" then divRound x.hdg 1000 % 360000
  else if name = "YAW" then clampInt (-180000) 180000 (divRound x.yaw 1000)
  else if name = "GAMMA" then divRound x.gamma 1000
  else if name = "EAST" then clampInt (-20000000) 20000000 (divRound x.east 1000)
  else clampInt (-20000000) 20000000 (divRound x.north 1000)

def State.implRead (s : State) (n : Nat) (name : String) : String :=
  let x := s.implAt n
  if name = "STATE" then (if x.running then "RUNNING" else "STOPPED")
  else if name = "POSOK" then yesNo x.posOk
  else if name = "MOTION" then motionWord x.motion
  else if name = "LANES" then s.lanes 10 11
  else toString (s.implNum n name)

end Sys2Proof.Machine
end

