-- ==== Sys2Proof/Machine/Planner.lean ====
section
/-!
DEFINITION. Sys2Proof/Machine/Planner.lean: the decision of a section, its triggers, coverage marking and the planner cycle (04_planner.md, 05_switch_timing.md), and SAFEN as the
planner takes it (R384).
-/
namespace Sys2Proof.Machine

/-! ### The decision (R150) -/

/-- Rules 1 to 5 of R150 on one sample, for the decided state `cur`: the new state and its reason. -/
def decideRule (strict rxClose : Bool) (onPct offPct : Nat) (x : Sampled) (cur : Bool) : Bool × Nat :=
  let nogo := (x.cells.filter (· = 3)).length
  let share := 125 * (x.cells.filter (· ≠ 0)).length
  if strict && nogo ≠ 0 then (false, 2)
  else if rxClose && x.rx = some 0 then (false, 3)
  else if !cur && share < onPct then (true, 0)
  else if cur && offPct < share then (false, 1)
  else (cur, if cur then 0 else 1)

def State.rule (s : State) (k : Nat) (x : Sampled) (cur : Bool) : Bool × Nat :=
  let n := s.owner .sec k
  decideRule (s.word .impl n "NOGO" = "STRICT") (s.word .impl n "RXZERO" = "CLOSE") (s.nat .sec k "ONPCT") (s.nat .sec k "OFFPCT") x cur

/-- Three samples halve the interval from t0 (old state) to t1 (new state), in eighths (R151): the time of the first sampled point at which the new state holds, and the
state with the map errors of the samples. -/
def bisect (k : Nat) (old new : Bool) (t0 t1 : Int) : Nat → Int → Int → State → Int × State
  | 0, _, hi, s => (t0 + (t1 - t0) * hi / 8, s)
  | i + 1, lo, hi, s =>
    let mid := (lo + hi) / 2
    let x := s.sampleSec k (t0 + (t1 - t0) * mid / 8)
    let s1 := s.mapErrs (s.owner .sec k) k x.bad
    if (s.rule k x old).1 = new then bisect k old new t0 t1 i lo mid s1 else bisect k old new t0 t1 i mid hi s1

/-- The lead time (R148): by the decided state. -/
def State.lead (s : State) (k : Nat) : Nat := s.delayOf k (!(s.secAt k).decided) + s.allow (s.owner .sec k)

/-! ### The trigger count (R174, R175, R179, R187) -/

/-- Counts ahead of c0 in the direction of travel that a time reaches at a rate in 0.001 count/s, halves towards c0 (R175). -/
def countsAhead (r : Nat) (t : Int) : Int := -((1000000000000 - 2 * ((r : Int) * t)) / 2000000000000)

/-- The time in ns that counts take; none while the count stands. -/
def countTime (r : Nat) (d : Int) : Option Nat := if r = 0 then none else some ((d.toNat * 1000000000000) / r)

/-- Where the trigger of a boundary goes: counts ahead, remaining time, and whether it had to be set to the next count (R175, R194, R195). `ahead` are the distances of the
committed triggers of its direction; the new one lies beyond them. -/
def placeTrig (r : Nat) (t : Int) (ahead : List Int) : Int × Option Nat × Bool :=
  let d := countsAhead r t
  let late := r = 0 || d < 1
  let d1 := if late then 1 else d
  let d2 := ahead.foldl (fun a x => if a ≤ x then x + 1 else a) d1
  (d2, if late || d2 ≠ d1 then countTime r d2 else some t.toNat, late)

/-- The distance of a count from c0 along a direction. -/
def along (c0 value : Int) (dir : Nat) : Int := if dir = 2 then wrap32 (c0 - value) else wrap32 (value - c0)

/-- The count d counts away. -/
def countAt (c0 d : Int) (dir : Nat) : Int := wrap32 (if dir = 2 then c0 - d else c0 + d)

/-- Distances of the committed triggers of section k in a direction. -/
def State.committedAhead (s : State) (k dir : Nat) (c0 : Int) : List Int :=
  ((s.trigsOf k).filter fun e => e.commit && e.dir = dir).map fun e => along c0 e.value dir

/-- The trigger path uses the direction of travel: UP forward, DOWN in reverse (R175). -/
def State.travelDir (s : State) (n : Nat) : Nat := if (s.implAt n).motion = 2 then 2 else 1

/-- A remaining time commits a trigger (R179), where the section has no other committed one (R173). -/
def commits (remain : Option Nat) (other : Bool) : Bool := match remain with
  | some t => decide (t ≤ 10 * nsMs) && !other
  | none => false

/-- A newly committed trigger books its grant for the predicted release (R180). -/
def State.commitTrig (k : Nat) (remain : Option Nat) (e : Entry) (s : State) : State × Entry :=
  s.bookTrig k (s.now + remain.getD 0 + s.allow (s.owner .sec k)) { e with commit := true }

/-- The fire time of a remote trigger, rounded to 1 µs (R187). -/
def State.remoteTime (s : State) (n tp : Nat) : Nat := (s.now + max tp (12 * nsMs) + s.allow n + 500) / 1000 * 1000

/-- A remote trigger: the fire command leaves, and the entry stays as a shadow (R187, R188); unsynced, a switch-on counts as refused and a switch-off leaves at once (R462). -/
def State.remoteTrig (k d : Nat) (e : Entry) (remain : Option Nat) (s : State) : State :=
  if !s.synced then
    if e.opens then s.setSec k { s.secAt k with refused := true } else s.secOffNow k
  else
    let n := s.owner .sec k
    let tp := remain.getD 0
    let f := s.remoteTime n tp
    let r := s.sendFire k (if e.opens then 1 else 0) f
    let s1 := if tp < 12 * nsMs then r.1.bump "REMLATE_CNT" n else r.1
    s1.writeEntry d { e with shadow := true, commit := true, fire := f, cseq := r.2, remain := remain }

/-- A boundary becomes a trigger (R173 to R175, R179, R187, R192): the uncommitted one gives way. -/
def State.formTrig (k d : Nat) (opens : Bool) (t : Int) (pt : Int × Int) (s0 : State) : State :=
  let s := s0.dropTrigs k fun e => !e.commit
  let n := s.owner .sec k
  let dir := s.travelDir n
  let c0 := (s.odoAt d).count
  let p := placeTrig (s.odoRate d) t (s.committedAhead k dir c0)
  let s1 := if p.2.2 then s.bump "LATE_CNT" n else s
  let e : Entry := { value := countAt c0 p.1 dir, dir := dir, act := 2, unit := k, opens := opens, be := pt.1, bn := pt.2, remain := p.2.1 }
  if (s1.secRemote k).isSome then s1.remoteTrig k d e p.2.1
  else if commits p.2.1 ((s1.trigsOf k).any Entry.commit) then
    let r := s1.commitTrig k p.2.1 e
    r.1.writeEntry d r.2
  else s1.writeEntry d e

/-- A closure, or a refused opening, at the next count without lead time (R177, R436): committed when written, an opening with its grant booked for the predicted crossing. -/
def State.nextCount (k d : Nat) (opens : Bool) (s0 : State) : State :=
  let s := s0.dropTrigs k fun e => !e.commit
  let n := s.owner .sec k
  let dir := s.travelDir n
  let c0 := (s.odoAt d).count
  let dist := (s.committedAhead k dir c0).foldl (fun a x => if a ≤ x then x + 1 else a) 1
  let remain := countTime (s.odoRate d) dist
  let e : Entry := { value := countAt c0 dist dir, dir := dir, act := 2, unit := k, opens := opens, nolead := true, commit := true, remain := remain }
  if (s.secRemote k).isSome then s.remoteTrig k d e (if opens then some 0 else remain)
  else
    let r := s.bookTrig k (s.now + remain.getD 0) e
    r.1.writeEntry d r.2

/-- An entry of odometry unit d is replaced. -/
def State.putTrig (d : Nat) (e : Entry) (s : State) : State :=
  s.setOdo d { s.odoAt d with entries := (s.odoAt d).entries.map fun x => if x.order = e.order then e else x }

/-- The refresh of an uncommitted trigger (R174, R175, R179): `t` is the predicted time of the boundary less the lead time. -/
def State.refreshTrig (k d : Nat) (t : Int) (e : Entry) (s : State) : State :=
  let n := s.owner .sec k
  let dir := s.travelDir n
  let c0 := (s.odoAt d).count
  let p := placeTrig (s.odoRate d) t (s.committedAhead k dir c0)
  let s1 := if p.2.2 then s.bump "LATE_CNT" n else s
  let e1 := { e with value := countAt c0 p.1 dir, dir := dir, remain := p.2.1 }
  if commits p.2.1 ((s1.trigsOf k).any Entry.commit) then
    let r := s1.commitTrig k p.2.1 e1
    r.1.putTrig d r.2
  else s1.putTrig d e1

/-- The remaining time of committed triggers, as the registers show it (Table SWT-6). -/
def State.noteRemain (k d : Nat) (s : State) : State :=
  let c0 := (s.odoAt d).count
  let r := s.odoRate d
  s.setOdo d { s.odoAt d with entries := (s.odoAt d).entries.map fun e => if e.ofSec k && e.commit then { e with remain := countTime r (along c0 e.value e.dir) } else e }

/-- The time from the cycle start until the footprint reaches a field point (R174): along the line from its present centre to its look-ahead position. -/
def State.reachTime (s : State) (k : Nat) (l : Int) (pt : Int × Int) : Option Int :=
  let n := s.owner .sec k
  let a := s.centre k (s.lookAt n 0)
  let b := s.centre k (s.lookAt n l)
  let dx := b.1 - a.1
  let dy := b.2 - a.2
  let q := dx * dx + dy * dy
  if q = 0 then none else some (l * ((pt.1 - a.1) * dx + (pt.2 - a.2) * dy) / q)

/-! ### Closures that override the decision (R153 to R157, R249, R251, R384) -/

/-- How an overriding closure acts. -/
inductive Closing
  | now        -- at once
  | count      -- at the next count
  deriving DecidableEq, Repr

/-- The product of section k runs, or it has none (R249). -/
def State.prodRuns (s : State) (k : Nat) : Bool := match s.natOpt .sec k "PROD" with
  | some p => (s.prodAt p).state = 1
  | none => true

/-- The position is lost and the sections' states are no longer held (R157). -/
def State.lostCloses (s : State) (n : Nat) : Bool :=
  let x := s.implAt n
  s.word .impl n "LOSTPOS" = "CLOSE" || x.lostDone || match x.lostAt with
    | some t => decide (t + s.ns .impl n "LOSTHOLD" ≤ s.now)
    | none => false

/-- The closure that overrides the decision of section k, with its reason; the precedence among several is a DESIGN CHOICE. -/
def State.forced (s : State) (k : Nat) : Option (Nat × Closing) :=
  let n := s.owner .sec k
  let x := s.implAt n
  let sec := s.secAt k
  if s.safenLow then some (10, .now)
  else if !s.prodRuns k then some (10, .count)
  else if x.jack then some (10, .count)
  else if x.cycled && !x.posOk then (if s.lostCloses n then some (7, .count) else none)
  else if x.rev && s.word .sec k "REVERSE" = "CLOSE" then some (6, .count)
  else if sec.stopDone then some (5, .now)
  else if sec.turn then some (4, .count)
  else if sec.rxClose then some (3, .count)
  else if s.word .sec k "MANUAL" = "OFF" then some (8, .now)
  else none

/-- The latest command of section k opens it: its pending trigger, a held command, or what was released. -/
def State.wantsOpen (s : State) (k : Nat) : Bool :=
  match (s.trigsOf k).foldl (fun a e => match a with
      | none => some e
      | some (b : Entry) => if b.order < e.order then some e else some b) (none : Option Entry) with
  | some e => e.opens
  | none => match (s.secAt k).held.getLast? with
    | some h => h.on
    | none => (s.secAt k).cmdOn

/-- Section k's unit is on, or a switch-on has fired. -/
def Sec.opened (x : Sec) : Bool := x.cmdOn || x.held.any Held.on

/-- Section k closes (R153 to R157): MANUAL=OFF and SAFEN discard its pending boundaries (R154, R170); a closure at the next count waits for motion (R171); VIRTUAL
sections, which have no trigger, close at once. -/
def State.closeSec (k reason : Nat) (how : Closing) (s0 : State) : State :=
  let s := s0.setSec k { s0.secAt k with decided := false, reason := reason, refused := false }
  let n := s.owner .sec k
  if (s.secAt k).unserved.isSome then s
  else match how with
    | .now =>
      let s1 := if reason = 8 || reason = 10 then s.dropTrigs k fun _ => true else s
      if (s1.secAt k).opened then s1.secNow k false else s1
    | .count =>
      if !s.wantsOpen k then s
      else match s.secVirtual k, s.secOdo k with
        | true, _ => s.secNow k false
        | false, some d => if (s.implAt n).motion = 0 then s else s.nextCount k d false
        | false, none => s

/-- MANUAL=ON holds the section open (R154, R157); pending boundaries are discarded. -/
def State.openManual (k : Nat) (s0 : State) : State :=
  let s := s0.setSec k { s0.secAt k with decided := true, reason := 8 }
  if (s.secAt k).unserved.isSome || s.wantsOpen k || (s.secAt k).refused then s
  else
    let s1 := s.dropTrigs k fun _ => true
    if s1.wantsOpen k then s1 else s1.secNow k true

/-- A refused switch-on is asked again while the decided state is open (R436). -/
def State.retry (k : Nat) (s : State) : State :=
  let sec := s.secAt k
  if !sec.refused then s
  else
    let s1 := s.setSec k { sec with refused := false }
    if !sec.decided || sec.unserved.isSome then s1
    else if (s.implAt (s.owner .sec k)).motion = 0 then s
    else match s1.secOdo k with
      | some d => if s1.wantsOpen k then s1 else s1.nextCount k d true
      | none => s1

/-! ### Prescription samples (R250, R251) -/

/-- The prescription sample of section k passes to its product's metering. -/
def State.passRx (k : Nat) (l : Nat) (v : Option Nat) (s : State) : State :=
  match s.natOpt .sec k "PROD" with
  | none => s
  | some p =>
    if s.word .prod p "TARGETSRC" ≠ "RX" then s
    else
      let sec := s.secAt k
      let none_ := s.word .prod p "RXNONE"
      let rate := match v with
        | some x => 100 * x
        | none => if none_ = "CLOSE" then 0 else if none_ = "HOLD" then (match sec.rx with
          | some x => 100 * x
          | none => s.nat .prod p "TARGET") else s.nat .prod p "TARGET"
      let at_ := s.now + l - min (s.now + l) (s.ns .prod p "RXLEAD")
      let keep := sec.samples.filter fun y => y.1 < at_
      let new := { sec with rx := v.or sec.rx, rxClose := v.isNone && none_ = "CLOSE" }
      let s1 := s.setSec k (if at_ ≤ s.now then { new with samples := [], rate := rate, hasRate := true } else { new with samples := keep ++ [(at_, rate)] })
      let due := match (s.prodAt p).rxEv with
        | some t => decide (t + nsS ≤ s.now)
        | none => true
      if v.isNone && due && (s.prodAt p).state = 1 then
        (s1.setProd p { s1.prodAt p with rxEv := some s.now }).ev "MET" (toPart (s.owner .prod p)) ("PROD." ++ toString p ++ " RXNONE sec=" ++ toString k)
      else s1

/-! ### One section's cycle -/

/-- Section speed, speed factor and TURN (R153). -/
def State.turnComp (k : Nat) (s : State) : State :=
  let n := s.owner .sec k
  let x := s.implAt n
  let sec := s.secAt k
  let vs := s.secSpeed n x.speed x.yaw x.gamma (s.int .sec k "ACROSS" * 1000)
  let vspd := clampInt (-60000) 60000 (divRound vs 1000)
  if x.motion = 0 then s.setSec k { sec with vspd := vspd, sf := 1000 }
  else
    let fwd := if 0 < x.speed then vs else -vs
    let lim := (s.int .impl n "MINSPD" + (if sec.turn then 50 else 0)) * 1000
    s.setSec k { sec with vspd := vspd, sf := (clampInt 0 2000 (divRound fwd x.speed.natAbs)).toNat, turn := fwd < lim }

/-- A change of the decided state (R151): the boundary is found and goes to the trigger path; for VIRTUAL it changes the effective state when the footprint reaches it
(R158); an UNSERVED section only reports it (R172). -/
def State.changeDecision (k : Nat) (new : Bool) (reason : Nat) (prev : Option Nat) (l : Nat) (s : State) : State :=
  let n := s.owner .sec k
  let old := (s.secAt k).decided
  let t := s.lead k
  let b := match prev with
    | some p => bisect k old new ((p : Int) - 5 * nsMs) l 3 0 8 s
    | none => ((l : Int), s)
  let pt := b.2.centre k (b.2.lookAt n b.1)
  let s1 := b.2.setSec k { b.2.secAt k with decided := new, reason := reason, refused := false }
  if (s1.secAt k).unserved.isSome then s1
  else match s1.secVirtual k, s1.secOdo k with
    | true, _ => (s1.setSec k { s1.secAt k with cmdOn := new }).dueEff k new (s1.now + b.1.toNat)
    | false, some d => s1.formTrig k d new (b.1 - t) pt
    | false, none => s1

/-- The automatic decision in motion with a valid position (R150, R174, R178). -/
def State.autoSec (k : Nat) (x : Sampled) (prev : Option Nat) (l : Nat) (s : State) : State :=
  let r := s.rule k x (s.secAt k).decided
  if r.1 ≠ (s.secAt k).decided then s.changeDecision k r.1 r.2 prev l
  else
    let s1 := s.setSec k { s.secAt k with reason := r.2 }
    match s1.secOdo k with
    | none => s1
    | some d =>
      let s2 := match (s1.trigsOf k).find? fun e => !e.commit with
        | some e => (match s1.reachTime k l (e.be, e.bn) with
          | some tb => s1.refreshTrig k d (tb - (s1.delayOf k e.opens + s1.allow (s1.owner .sec k) : Nat)) e
          | none => s1)
        | none => s1
      s2.retry k

/-- A switch-off that drew no REPORT leaves again as OFF-NOW (R462). -/
def State.offAgain (k : Nat) (s : State) : State :=
  if s.peer.sent.any fun c => c.sec = k && c.again then
    let r := { s with peer := { s.peer with sent := s.peer.sent.filter fun c => !(c.sec = k && c.again) } }.sendFire k 2 s.now
    { r.1 with peer := { r.1.peer with sent := r.1.peer.sent.map fun c => if c.sec = k && c.cseq = r.2 then { c with again := true } else c } }
  else s

/-- One section in one cycle. -/
def secCycle (k : Nat) (s0 : State) : State :=
  let n := s0.owner .sec k
  let s := (s0.offAgain k).turnComp k
  let x := s.implAt n
  let l := s.lead k + 20 * nsMs
  let prev := (s.secAt k).prevL
  let smp := s.sampleSec k l
  let s1 := if x.posOk then
      let a := s.mapErrs n k smp.bad
      (a.setSec k { a.secAt k with cells := smp.cells, prevL := some l }).passRx k l smp.rx
    else s.setSec k { s.secAt k with prevL := none, touched := [] }
  let s2 := match s1.secOdo k with
    | some d => if x.motion = 0 then s1 else s1.noteRemain k d
    | none => s1
  match s2.forced k with
  | some (reason, how) => s2.closeSec k reason how
  | none =>
    if !x.posOk then s2
    else if s2.word .sec k "MANUAL" = "ON" then (s2.openManual k).retry k
    else if x.motion = 0 then s2
    else s2.autoSec k smp prev l

/-! ### Coverage marking (R158) -/

/-- The cells of a range of rows. -/
def rowCells (i : Int) (j0 : Int) (m : Nat) : List (Int × Int) := (List.range m).map fun (d : Nat) => (i, j0 + (d : Int))

/-- The cells of one column that a segment from (x0, y0) to (x1, y1) with x0 ≤ x1 lies in. -/
def columnCells (c x0 y0 x1 y1 i : Int) : List (Int × Int) :=
  let a := max x0 (i * c)
  let b := min x1 ((i + 1) * c)
  let yAt (x : Int) : Int := if x1 = x0 then y0 else y0 + (y1 - y0) * (x - x0) / (x1 - x0)
  let ya := if x1 = x0 then min y0 y1 else min (yAt a) (yAt b)
  let yb := if x1 = x0 then max y0 y1 else max (yAt a) (yAt b)
  rowCells i (ya / c) ((yb / c - ya / c) + 1).toNat

/-- The cells, of size c µm, that a path from p to q lies in. -/
def pathCells (c : Int) (p q : Int × Int) : List (Int × Int) :=
  let u := if p.1 ≤ q.1 then p else q
  let v := if p.1 ≤ q.1 then q else p
  ((List.range ((v.1 / c - u.1 / c) + 1).toNat).map fun (d : Nat) => columnCells c u.1 u.2 v.1 v.2 (u.1 / c + (d : Int))).flatten

/-- Without repeats. -/
def dedup (l : List (Int × Int)) : List (Int × Int) := l.foldl (fun a x => if a.contains x then a else a ++ [x]) []

/-- Section k marks its path of this cycle (R158). A pass over a cell ends when two cell widths of travel have gone by since the section last lay in it (DESIGN CHOICE). -/
def markSec (k : Nat) (s0 : State) : State :=
  let n := s0.owner .sec k
  let sec := s0.secAt k
  if !(s0.implAt n).posOk then s0.setSec k { sec with prevMark := [], touched := [] }
  else
    let pts := s0.strips k (s0.lookAt n 0)
    let s := s0.setSec k { sec with prevMark := pts }
    if sec.prevMark.isEmpty || !sec.eff || sec.unserved.isSome then s.setSec k { s.secAt k with touched := [] }
    else
      let mm := s.cellMm n
      let cells := dedup ((sec.prevMark.zip pts).map fun p => pathCells ((mm * 1000 : Nat) : Int) p.1 p.2).flatten
      let step := ((sec.prevMark.zip pts).map fun p => max (p.2.1 - p.1.1).natAbs (p.2.2 - p.1.2).natAbs).foldl max 0
      let run := sec.run + step
      let new := cells.filter fun c => !(sec.touched.any fun t => t.1 = c)
      let s1 := overList new (fun c a => a.mark n c.1 c.2) s
      let bad := (new.filter fun c => (s1.cellAt n c.1 c.2).isNone).length
      let old := sec.touched.filter fun t => run < t.2 + 2 * mm * 1000 && !cells.contains t.1
      (s1.setSec k { s1.secAt k with run := run, touched := old ++ cells.map fun c => (c, run) }).mapErrs n k bad

/-! ### The cycle (R135, R159) -/

/-- The sections of implement n that take part in planning (R136). -/
def State.planned (s : State) (n : Nat) : List Nat := (s.sectionsOf n).filter fun k => s.list .sec k "BIND" ≠ [0]

/-- The lanes differ in this cycle (R159): counted; after two in a row, the check of both begins. -/
def State.lanesDiffer (n : Nat) (s : State) : State :=
  let s1 := s.bump "LANE_CNT" n
  let x := s1.implAt n
  let busy := (List.range 4).any fun m => (s1.implAt m).laneEnd.isSome
  let s2 := s1.setImpl n { x with laneDiff := x.laneDiff + 1, laneEnd := if x.laneDiff = 1 && !busy then some (s1.now + nsMs) else x.laneEnd }
  s2.evIf (x.laneDiff = 1) n ("LANE cnt=" ++ toString (s2.cnt "LANE_CNT" n))

/-- Sections whose STOPTIME no longer counts, when motion leaves STOP (R155). -/
def State.leaveStop (n : Nat) (s : State) : State := overList (s.planned n) (fun k a => if (a.secAt k).stopDone then a.setSec k { a.secAt k with stopDone := false } else a) s

/-- The cycle of implement n. -/
def implCycle (differ : Bool) (n : Nat) (s0 : State) : State :=
  if !(s0.implAt n).running then s0
  else if (s0.implAt n).stopDue then (s0.stopImpl n).updatePart n
  else
    let sa := match s0.natOpt .impl n "ODO" with
      | some d => if s0.word .odo d "SRC" = "INTERNAL" then s0.integrateInternal d else s0
      | none => s0
    let s := sa.takePose n
    let s1 := if (s.implAt n).motion ≠ 0 then s.leaveStop n else s
    let s2 := if differ then s1.lanesDiffer n
      else overList (s1.planned n) secCycle (s1.setImpl n { s1.implAt n with laneDiff := 0 })
    let num (k : String) : String := toString (s2.implNum n k)
    let s3 := s2.traceLine 3 "PLN" ("IMPL." ++ toString n ++ " CYCLE east=" ++ num "EAST" ++ " north=" ++ num "NORTH" ++ " hdg=" ++ num "HDG" ++ " spd=" ++ num "SPEED" ++
      " yaw=" ++ num "YAW")
    overList (s3.planned n) markSec s3

/-- PLANNER_CYCLE (R135), every 5 ms; implements in ascending order (R46). With one lane in service nothing is compared (R42). -/
def execPlannerCycle (differ : Bool) (s : State) : Host.Outcome State Fault Refusal :=
  .next (overList (List.range 4) (implCycle (differ && s.lanes 10 11 = "TWIN")) (s.tick "PLAN" 0 (5 * nsMs)))

/-- PLANNER_LANE_CHECK_DONE (R159). -/
def execPlannerLaneCheckDone (failA failB : Bool) (s : State) : Host.Outcome State Fault Refusal :=
  match (List.range 4).filterMap fun n => (s.implAt n).laneEnd with
  | [] => .next s
  | t :: _ =>
    let s1 := overList (List.range 4) (fun n a => if (a.implAt n).laneEnd.isSome || (a.implAt n).laneDiff ≠ 0 then a.setImpl n { a.implAt n with laneEnd := none, laneDiff := 0 } else a)
      (s.advanceTo t)
    .next (s1.laneReport 3 10 11 failA failB)

/-- SEC_STOPTIME_EXPIRY (R155): a section with STOP=CLOSE closes at once; its pending boundaries stay. -/
def execSecStoptimeExpiry (sec : Nat) (s : State) : Host.Outcome State Fault Refusal :=
  let n := s.owner .sec sec
  match (s.implAt n).stopAt with
  | some t =>
    if (s.implAt n).running && s.list .sec sec "BIND" ≠ [0] && s.word .sec sec "STOP" = "CLOSE" && !(s.secAt sec).stopDone then
      let s1 := s.advanceTo (t + s.ns .sec sec "STOPTIME")
      let x := s1.secAt sec
      let s2 := s1.setSec sec { x with stopDone := true }
      .next (if x.opened || x.decided then s2.closeSec sec 5 .now else s2)
    else .next s
  | none => .next s

/-- LOSTHOLD_EXPIRY (R157): sections still open close at the next count. -/
def execLostholdExpiry (impl : Nat) (s : State) : Host.Outcome State Fault Refusal :=
  let x := s.implAt impl
  match x.lostAt with
  | some t =>
    if x.running && s.word .impl impl "LOSTPOS" = "HOLD" && !x.lostDone then
      let s1 := s.advanceTo (t + s.ns .impl impl "LOSTHOLD")
      let s2 := s1.setImpl impl { x with lostDone := true }
      .next (overList (s2.planned impl) (fun k a => match a.forced k with
        | some (r, how) => a.closeSec k r how
        | none => a) s2)
    else .next s
  | none => .next s

/-! ### SAFEN (R31, R384) -/

/-- SAFEN_LOW (R384): the hardware path switches everything off; sections close at once with reason SAFE. -/
def execSafenLow (ts : Nat) (s : State) : Host.Outcome State Fault Refusal :=
  if s.safenLow then .next s
  else
    let s1 := { s.advanceTo ts with safenLow := true }
    let s2 := ((overList ((List.range 56).filter s.unitPresent) safenUnit s1).safenNote false).bump "SAFEN_CNT"
    .next (overList s2.plannedSecs (fun k a => a.closeSec k 10 .now) s2)

/-- SAFEN_HIGH (R384). -/
def execSafenHigh (ts : Nat) (s : State) : Host.Outcome State Fault Refusal :=
  if s.safenLow then .next ({ s.advanceTo ts with safenLow := false }.safenNote true) else .next s

end Sys2Proof.Machine
end

