-- ==== Sys2Proof/Machine/Implements.lean ====
section
/-!
DEFINITION. Sys2Proof/Machine/Implements.lean: the rows of IMPL and SEC (R119, R140, R141, R154, R160 to R163, R458).
-/
namespace Sys2Proof.Machine

/-! ### Injected samples (R140, R141, R464) -/

/-- The last accepted sample on a sub. -/
def State.lastSample (s : State) (n : Nat) (pos : Bool) : Option Sample := if pos then (s.implAt n).pos else (s.implAt n).mot

/-- A sample is refused by its time of validity (R141, R166). -/
def State.staleSample (s : State) (n : Nat) (pos : Bool) (tov : Nat) : Bool :=
  s.now + nsMs < tov || (match s.lastSample n pos with
    | some x => decide (tov ≤ x.tov)
    | none => false) || tov + s.ns .impl n "MAXAGE" < s.now

/-- The later of two injected values (R142). -/
def laterOf (old : Option (Int × Nat)) (new : Option Int) (tov : Nat) : Option (Int × Nat) :=
  match new, old with
  | none, _ => old
  | some v, some (w, t) => if t ≤ tov then some (v, tov) else some (w, t)
  | some v, none => some (v, tov)

/-- The track: the course to this position from the last one it was taken at, once 100 mm away (R137). -/
def trackStep (p : Sample) (x : Impl) : Impl :=
  match x.trackPt with
  | none => { x with trackPt := some (p.lat, p.lon) }
  | some (la, lo) =>
    let d := eastNorth p.lat p.lon 0 la lo
    if 100000 * 100000 ≤ d.1 * d.1 + d.2 * d.2 then { x with trackPt := some (p.lat, p.lon), track := some (course d.1 d.2) } else x

/-- The POS frame of a sample (Table PEER-3, R464). -/
def State.posFrame (s : State) (k : Nat) (pos : Bool) (x : Sample) : List Nat :=
  let bit (c : Bool) (v : Nat) : Nat := if c then v else 0
  let i32 (v : Option Int) : List Nat := leBytes (toTwos 32 (v.getD 0)) 4
  [k, if pos then x.fix else 0, bit pos 1 + bit x.hdg.isSome 2 + bit x.yaw.isSome 4 + bit x.spd.isSome 8, 0] ++
    leBytes (toTwos 64 x.lat) 8 ++ leBytes (toTwos 64 x.lon) 8 ++ i32 x.hgt ++ i32 x.hdg ++ i32 x.yaw ++ i32 x.spd ++ leBytes (toTwos 64 (s.syncOf x.tov)) 8

/-- Every accepted sample of IMPL.n leaves in a POS frame where POSOUT says so (R464). -/
def State.sendPos (n : Nat) (pos : Bool) (x : Sample) (s : State) : State :=
  match s.list .peer 0 "POSOUT" with
  | [m, a, k] => if m = n then s.peerTo 0x0C a (s.posFrame k pos x) else s
  | _ => s

/-- A sample is accepted (R140, R121): one whose FIX is below MINFIX is stored, but is no valid position (R141). -/
def State.acceptSample (n : Nat) (pos : Bool) (p : Sample) (s : State) : State :=
  let x := s.implAt n
  let y := { x with hdgExt := laterOf x.hdgExt p.hdg p.tov, yawExt := laterOf x.yawExt p.yaw p.tov, spdExt := laterOf x.spdExt p.spd p.tov }
  let z := if pos then
      trackStep p { y with pos := some p, good := if s.word .impl n "POSSRC" = "EXT" && fixRank (s.word .impl n "MINFIX") ≤ p.fix then some p else x.good }
    else { y with mot := some p }
  (s.setImpl n z).sendPos n pos p

/-- The sample that a phrase gives. -/
def State.phraseSample (s : State) (ph : Phrase) (pos : Bool) : Sample :=
  let v (a : String) : Option Int := (specFind a (sampleAttrs pos)).bind fun x => (attrVal ph a x.form).map Val.int
  { lat := (v "LAT").getD 0, lon := (v "LON").getD 0, hgt := v "HGT", fix := fixRank (((ph.value "FIX").map upper).getD "NONE"), hdg := v "HDG", yaw := v "YAW", spd := v "SPD"
    tov := if ph.has "TOV" then 1000 * ((v "TOV").getD 0).toNat else s.now - 1000 * ((v "AGE").getD 0).toNat }

/-- SET IMPL.n.POS or .MOT (R140, R141). -/
def sampleSet (pos : Bool) (sess : Nat) (ph : Phrase) (s : State) : Ans :=
  perInst sess ph (fun n s =>
    let sp := sampleAttrs pos
    let tov := ph.has "TOV"
    let x := s.phraseSample ph pos
    let form := s.unitErrs sess ph .impl (some n) ++ setAttrErrs sp (s.sessAt sess).super ph
      ++ errIf (tov == ph.has "AGE") .attr (if tov then ph.tok "AGE" else some "TOV")
      ++ (if pos then (["LAT", "LON", "FIX"].filter fun a => !ph.has a).map fun a => ⟨.attr, some a⟩
        else errIf (!(ph.has "HDG" || ph.has "YAW" || ph.has "SPD")) .attr (some ph.nounTok))
    let stale := s.staleSample n pos x.tov
    { errs := form ++ errIf stale .range (ph.tok (if tov then "TOV" else "AGE")) ++ errIf (!(s.implAt n).running) .state
      act := fun s => (s.acceptSample n pos x, [])
      onErr := some fun e a => if form.isEmpty && stale && e = .range then a.bump "STALE_CNT" n else a }) s

/-- SET_IMPL_POS (R140). -/
def execSetImplPos (sess : Nat) (ph : Phrase) (s : State) : Host.Outcome State Fault Refusal := .next (runRow "SET_IMPL_POS" sess ph (sampleSet true sess ph) s)
/-- SET_IMPL_MOT (R140). -/
def execSetImplMot (sess : Nat) (ph : Phrase) (s : State) : Host.Outcome State Fault Refusal := .next (runRow "SET_IMPL_MOT" sess ph (sampleSet false sess ph) s)

/-- The attributes of a sample as GET gives them (R162); none where the sample carried no such value. -/
def Sample.show (x : Sample) (pos : Bool) : List (String × Option String) :=
  (if pos then [("LAT", some (toString x.lat)), ("LON", some (toString x.lon)), ("HGT", x.hgt.map toString), ("FIX", some (fixWords.getD x.fix "NONE"))] else []) ++
  [("HDG", x.hdg.map toString), ("YAW", x.yaw.map toString), ("SPD", x.spd.map toString), ("TOV", some (toString (x.tov / 1000)))]

/-- GET of a sample (R162): the attributes that the last accepted sample carried, or those named, NONE where it did not carry one. -/
def sampleGet (sess : Nat) (ph : Phrase) (n : Nat) (s : State) : Ans :=
  let pos := ph.sub = "POS"
  let all := (Sample.show {} pos).map Prod.fst
  Ans.read (s.accessErr sess .get .impl (some n) ++ extraAttrs ph all ++ ((ph.attrs.filter fun a => a.value.isSome).map fun a => ⟨.attr, some a.tok⟩)
      ++ errIf (s.lastSample n pos).isNone .notready)
    fun s =>
      let kv := ((s.lastSample n pos).getD {}).show pos
      [if ph.attrs.isEmpty then kv.filterMap fun p => p.2.map fun v => (lower p.1, v)
        else (kv.filter fun p => ph.has p.1).map fun p => (lower p.1, p.2.getD "NONE")]

/-- GET_IMPL_SAMPLE (R162). -/
def execGetImplSample (sess : Nat) (ph : Phrase) (s : State) : Host.Outcome State Fault Refusal :=
  .next (runRow "GET_IMPL_SAMPLE" sess ph (fun s => perInst sess ph (sampleGet sess ph) s) s)

/-! ### START IMPL (R119, R160) -/

/-- A section of the set, in noun form. -/
def secTok (k : Nat) : String := "SEC." ++ toString k

/-- The modes a section's unit may have (R372). -/
def secModes : List String := ["ONOFF", "PWM"]

/-- A local unit is retired, or its partner in a pair. -/
def State.bindRetired (s : State) (b : List Nat) : Bool := match unitOfBind b with
  | some u => (s.withPair u).any fun v => (s.unitAt v).retired
  | none => false

/-- What START finds about a section's binding or spare (R27, R364, R372, R413); a retired one is not checked (R425). -/
def State.secBindErrs (s : State) (n k : Nat) (name : String) : List Err :=
  let b := s.list .sec k name
  match unitOfBind b with
  | none => []
  | some u => if s.bindRetired b then [] else s.bindErrs b n secModes ++ errIf (s.unitInUse u) .state

/-- Local units named twice by the sections of an implement (R27, R160): the later sections. -/
def State.twiceNamed (s : State) : List Nat → List (List Nat) → List Nat
  | [], _ => []
  | k :: ks, seen =>
    let b := s.list .sec k "BIND"
    let p := s.list .sec k "SPARE"
    let mine := ([b, p].filter fun x => x ≠ [0] && x ≠ [1])
    let bad := mine.any seen.contains || (b ≠ [1] && b ≠ [0] && b = p)
    (if bad then [k] else []) ++ State.twiceNamed s ks (seen ++ mine)

/-- What START IMPL finds, the remote bindings apart. -/
def State.implStartErrs (s : State) (n : Nat) (tok : String) : List Err :=
  let secs := s.planned n
  let spd := s.word .impl n "SPDSRC"
  errIf (!s.hasGps && s.usesGnss n) .absent (some tok)
    ++ ((secs.map fun k => (match s.natOpt .sec k "PROD" with
        | some p => errIf (s.owner .prod p ≠ n) .owner
        | none => []) ++ s.secBindErrs n k "BIND" ++ s.secBindErrs n k "SPARE").flatten)
    ++ (match s.natOpt .impl n "ODO" with
      | none => errIf (secs.any fun k => !s.secVirtual k) .attr (some tok)
      | some d => errIf (s.owner .odo d ≠ n) .owner
          ++ errIf (s.word .odo d "SRC" = "INTERNAL" && spd = "ODO") .attr (some tok)
          ++ errIf (s.word .odo d "IDXMODE" ≠ "OFF") .attr (some ("ODO." ++ toString d))
          ++ errIf ((s.odoAt d).state ≠ 1 || s.odoDrives d) .state)
    ++ ((s.twiceNamed secs []).map fun k => ⟨.attr, some (secTok k)⟩)
    ++ errIf ((s.implAt n).running || (s.implAt n).bindWait.isSome || !s.psReady) .state ++ s.faultedErr n

/-- The reserve of R295 needs blocks that the larder refuses. -/
def State.reserveRefused (s : State) (n : Nat) : Bool :=
  match s.natOpt .impl n "ODO" with
  | none => false
  | some d =>
    let q := s.queueRoom d
    let after := max q (((s.odoAt d).entries.filter fun e => !e.hw && e.host).length + 2 * (s.planned n).length)
    let need := ceilDiv (8 * after) 256 - ceilDiv (8 * q) 256
    4096 < after || (need ≠ 0 && !s.larderGives (s.owner .odo d) need)

/-- The remote bindings and spares of an implement: section, whether a spare, node, UTYPE, unit. -/
def State.remotes (s : State) (n : Nat) : List (Nat × Bool × Nat × Nat × Nat) :=
  ((s.planned n).map fun k => (["BIND", "SPARE"].filterMap fun a => (remoteOf (s.list .sec k a)).map fun r => (k, a == "SPARE", r))).flatten

/-- What START finds about them before it sends (R458). -/
def State.remoteErrs (s : State) (n : Nat) : List Err :=
  (s.remotes n).flatMap fun r =>
    errIf (s.peer.state ≠ 1) .state (some (secTok r.1))
      ++ errIf (s.peer.state = 1 && !(s.node r.2.2.1).present) .node (some (secTok r.1))
      ++ errIf (s.allow n < (s.node r.2.2.1).hops * 500000) .range (some (secTok r.1))

/-- A section begins with its implement (R160, R425): its local units are taken into use; one whose binding is retired takes its spare, or is UNSERVED. -/
def beginSec (k : Nat) (s0 : State) : State :=
  let s := s0.setSec k {}
  let take (b : List Nat) (a : State) : State := match unitOfBind b with
    | some u => if a.bindRetired b then a else a.engage u
    | none => a
  let s1 := take (s.list .sec k "SPARE") (take (s.list .sec k "BIND") s)
  let s2 := if s1.bindRetired (s1.list .sec k "SPARE") then s1.setSec k { s1.secAt k with spareGone := true } else s1
  match unitOfBind (s2.list .sec k "BIND") with
  | some u => if s2.bindRetired (s2.list .sec k "BIND") then s2.bindGone k (if (s2.unitAt u).retIsland then "ISLAND" else "DIAG") else s2
  | none => s2

/-- The implement runs (R160): γ is 0, every section closed, no boundary pending; an INTERNAL odometer counts from now (R279). -/
def State.beginImpl (n : Nat) (s : State) : State :=
  let s1 := s.setImpl n { running := true }
  let s2 := match s1.natOpt .impl n "ODO" with
    | some d => s1.setOdo d { s1.odoAt d with accAt := s1.now, acc := 0 }
    | none => s1
  (overList (s2.planned n) beginSec s2).updatePart n

/-- BIND for one remote binding (R458, Table PEER-3). -/
def State.askBind (n : Nat) (r : Nat × Bool × Nat × Nat × Nat) (s : State) : State :=
  let a := r.2.2.1
  let x := s.node a
  let ref := x.ref
  let s1 := s.setNode a { x with ref := nextSeq ref }
  let old := s1.peer.leadBinds.filter fun b => !(!b.held && b.node = a && b.utype = r.2.2.2.1 && b.unit = r.2.2.2.2)
  let s2 := { s1 with peer := { s1.peer with leadBinds := old ++
    [{ impl := n, node := a, utype := r.2.2.2.1, unit := r.2.2.2.2, spare := r.2.1, sec := r.1, ref := ref : LeadBind }] } }
  s2.peerAsk 0x04 a ref ([n, r.2.2.2.1, r.2.2.2.2, if r.2.1 then 1 else 0, r.1, 0] ++ leBytes ref 2)

/-- START_IMPL (R119, R160, R458): the remote bindings are validated last, and the reply waits for their answers. -/
def execStartImpl (sess : Nat) (ph : Phrase) (s : State) : Host.Outcome State Fault Refusal :=
  .next (runRow "START_IMPL" sess ph (fun s => perInst sess ph (fun n s =>
    let tok := ph.nounTok
    let loc := s.unitErrs sess ph .impl (some n) ++ extraAttrs ph [] ++ s.implStartErrs n tok
    let full := errIf (s.reserveRefused n) .full
    let rem := s.remotes n
    { errs := if !loc.isEmpty then loc else if !full.isEmpty then full else s.remoteErrs n
      act := fun s =>
        if rem.isEmpty then (s.beginImpl n, [])
        else (overList rem (State.askBind n) (s.setImpl n { s.implAt n with bindWait := some (sess, s.now) }), [])
      onErr := some fun e a => if e = .full then a.larderRefused (a.owner .odo ((a.natOpt .impl n "ODO").getD 0)) else a
      await := !rem.isEmpty }) s) s)

/-- IMPL_BIND_TIMEOUT (R458): 100 ms after START an answer is missing. -/
def execImplBindTimeout (impl : Nat) (s : State) : Host.Outcome State Fault Refusal :=
  match (s.implAt impl).bindWait with
  | some (_, t) =>
    let missing := s.peer.leadBinds.find? fun b => b.impl = impl && b.held && b.done.isNone
    .next ((s.advanceTo (t + 100 * nsMs)).failStart impl ⟨.node, missing.map fun b => secTok b.sec⟩)
  | none => .next s

/-- STOP_IMPL (R160): at the next planner cycle, or at once with NOW (R61, R135). -/
def execStopImpl (sess : Nat) (ph : Phrase) (s : State) : Host.Outcome State Fault Refusal :=
  .next (runRow "STOP_IMPL" sess ph (fun s => perInst sess ph (fun n s =>
    Ans.eff (s.unitErrs sess ph .impl (some n) ++ extraAttrs ph [])
      fun s =>
        let s1 := s.failStart n ⟨.state, none⟩
        if (s1.implAt n).running && !ph.adv .now then s1.setImpl n { s1.implAt n with stopDue := true } else (s1.stopImpl n).updatePart n) s) s)

/-! ### SET of IMPL and SEC -/

/-- Local units that attributes of a SET name: absent on the variant (R4), or of a RETIRED island (R43). -/
def State.namedUnitErrs (s : State) (ph : Phrase) (sp : List AttrSpec) (names : List String) : List Err :=
  names.flatMap fun a => match ((specFind a sp).bind fun x => (ph.value a).bind (parseVal x.form)).bind fun v => unitOfBind v.list with
    | some u => errIf (!s.unitPresent u) .absent (ph.tok a) ++ errIf (s.unitPresent u && s.retired (unitIsland u)) .retired
    | none => []

/-- SET of IMPL: no attribute is run-time (R161). -/
def implSet (sess : Nat) (ph : Phrase) (s : State) : Ans :=
  perInst sess ph (fun n s =>
    Ans.eff (s.unitErrs sess ph .impl (some n) ++ setAttrErrs implAttrs (s.sessAt sess).super ph ++ errIf ((s.implAt n).running || (s.implAt n).bindWait.isSome) .state)
      (storeAttrs implAttrs .impl n "" ph)) s

/-- MANUAL takes effect on a section of a RUNNING implement (R154, R170). -/
def State.manualNow (k : Nat) (s : State) : State :=
  let w := s.word .sec k "MANUAL"
  if w = "AUTO" then s
  else
    let s1 := s.dropTrigs k fun _ => true
    match s1.forced k with
    | some (r, how) => s1.closeSec k r how
    | none =>
      if w = "OFF" then s1
      else
        let x := s1.implAt (s1.owner .sec k)
        if x.cycled && !x.posOk then s1 else s1.openManual k

/-- SET of SEC (R118, R150, R154, R163, R169): MANUAL acts when the phrase executes. -/
def secSet (sess : Nat) (ph : Phrase) (s : State) : Ans :=
  perInst sess ph (fun k s =>
    let n := s.owner .sec k
    let run := (s.implAt n).running || (s.implAt n).bindWait.isSome
    let only := ph.attrs.all fun a => ["MANUAL", "ONPCT", "OFFPCT"].contains a.name
    let on := (s.newVal ph secAttrs .sec k "ONPCT").int
    let off := (s.newVal ph secAttrs .sec k "OFFPCT").int
    Ans.eff (s.unitErrs sess ph .sec (some k) ++ setAttrErrs secAttrs (s.sessAt sess).super ph ++ s.namedUnitErrs ph secAttrs ["BIND", "SPARE"]
        ++ errIf (off < on) .range (ph.tok (if ph.has "ONPCT" then "ONPCT" else "OFFPCT")) ++ errIf (run && !only) .state)
      fun s =>
        let s1 := storeAttrs secAttrs .sec k "" ph s
        if ph.has "MANUAL" && (s1.implAt n).running && s1.list .sec k "BIND" ≠ [0] then s1.manualNow k else s1) s

/-- SET_SEC_MANUAL (R154). -/
def execSetSecManual (sess : Nat) (ph : Phrase) (s : State) : Host.Outcome State Fault Refusal := .next (runRow "SET_SEC_MANUAL" sess ph (secSet sess ph) s)
/-- SET_SEC_OVERLAP (R150, R169). -/
def execSetSecOverlap (sess : Nat) (ph : Phrase) (s : State) : Host.Outcome State Fault Refusal := .next (runRow "SET_SEC_OVERLAP" sess ph (secSet sess ph) s)

/-! ### What SEC shows (Table PLN-4) -/

def secReasons : List String := ["NONE", "COVERED", "NOGO", "RXZERO", "TURN", "STOP", "REVERSE", "LOSTPOS", "MANUAL", "IDLE", "SAFE", "UNSERVED"]

/-- STATE: 0 CLOSED, 1 OPEN, 2 UNSERVED, 3 INACTIVE (R136). -/
def State.secState (s : State) (k : Nat) : Nat :=
  let x := s.secAt k
  if s.list .sec k "BIND" = [0] then 3
  else if !(s.implAt (s.owner .sec k)).running then 0
  else if x.unserved.isSome then 2 else if x.decided then 1 else 0

/-- REASON, as its code (Table PLN-6). -/
def State.secReason (s : State) (k : Nat) : Nat :=
  match s.secState k with
  | 3 => 0
  | 2 => 11
  | _ => if (s.implAt (s.owner .sec k)).running then (s.secAt k).reason else 9

def State.secRead (s : State) (k : Nat) (name : String) : String :=
  let x := s.secAt k
  if name = "STATE" then ["CLOSED", "OPEN", "UNSERVED", "INACTIVE"].getD (s.secState k) "INACTIVE"
  else if name = "REASON" then secReasons.getD (s.secReason k) "NONE"
  else if name = "COVER" then (if x.cells.isEmpty then "00000000" else String.join (x.cells.map toString))
  else if name = "SF" then toString x.sf
  else if name = "VSPD" then toString x.vspd
  else match s.nextTrig k with
    | some e => onOff e.opens
    | none => "NONE"

end Sys2Proof.Machine
end

