-- ==== Sys2Proof/Machine/Partitions.lean ====
section
/-!
DEFINITION. Sys2Proof/Machine/Partitions.lean: ownership, SECURE pins and locks (R97 to R105), KEY0 (R112 to R114), stopping and resetting a partition (R117, R122, R123,
R130), RESET DEVICE (R94, R125, R641), and what DEVICE, PART and KEY show.
-/
namespace Sys2Proof.Machine

/-! ### SET PART (R101 to R103) -/

/-- The ownable classes of Table PRT-1 with their attributes. -/
def ownClasses : List (String × Noun × Nat) :=
  [("SEC", .sec, 256), ("CHAN", .chan, 48), ("GDR", .gdr, 8), ("ODO", .odo, 8), ("SSP", .ssp, 2), ("CAN", .can, 4), ("PROD", .prod, 8), ("PROF", .prof, 16),
   ("PIN", .pin, 64)]

/-- The units that a SET PART names, in order. -/
def namedUnits (p : Phrase) : List (AttrTok × Noun × Nat) :=
  (p.attrs.map fun a => match ownClasses.find? fun c => c.1 = a.name with
    | some (_, n, k) => (((a.value.bind (parseVal (.list 0 (k - 1)))).map Val.list).getD []).map fun i => (a, n, i)
    | none => []).flatten

/-- The other member of a configured pair (R374). -/
def State.pairMate (s : State) (i : Nat) : Option Nat := if s.pairEven i then some (i + 1) else if s.pairOdd i then some (i - 1) else none

/-- An owner is STOPPED; SECURE has no state (R102). -/
def State.ownerStopped (s : State) (o : Nat) : Bool := o = secureOwner || (s.partAt o).state = .stopped

/-- A unit may change its owner to `o` (R102, R569). -/
def State.mayMove (s : State) (n : Noun) (i o : Nat) : Bool :=
  s.owner n i = o || (s.ownerStopped (s.owner n i) && s.ownerStopped o && !(n = .can && (s.canAt i).peer) &&
    !(n = .pin && (s.owner n i = secureOwner || o = secureOwner) && s.pinBusy i))

/-- What SET PART.n finds (R101, R102, R104). -/
def State.ownErrs (s : State) (n : Nat) (p : Phrase) : List Err :=
  let us := namedUnits p
  let chans := (us.filter fun u => u.2.1 = .chan).map fun u => u.2.2
  (us.map fun u =>
    errIf (s.nounAbsent u.2.1 u.2.2) .absent (some (nounWord u.2.1 ++ "." ++ toString u.2.2))
      ++ (if u.2.1 = .chan then (match s.pairMate u.2.2 with
        | some m => errIf (!chans.contains m) .owner (some ("CHAN." ++ toString u.2.2))
        | none => []) else [])
      ++ errIf (s.ownlock || (s.pinlock && u.2.1 = .pin && s.owner .pin u.2.2 = secureOwner)) .locked (some u.1.tok)
      ++ errIf (!s.mayMove u.2.1 u.2.2 n) .state).flatten

/-- A unit is given to an owner (R103, R553). -/
def State.giveUnit (n : Noun) (i o : Nat) (s : State) : State := if n = .pin then s.givePin i o else s.setOwner n i o

/-- SET_PART_OWNERSHIP (R101). -/
def execSetPartOwnership (sess : Nat) (ph : Phrase) (s : State) : Host.Outcome State Fault Refusal :=
  .next (runRow "SET_PART_OWNERSHIP" sess ph (fun s => perInst sess ph (fun n s =>
    Ans.eff (s.unitErrs sess ph .part (some n) ++ setAttrErrs (partAttrs n) (s.sessAt sess).super ph ++ s.ownErrs n ph)
      (overList (namedUnits ph) fun u a => a.giveUnit u.2.1 u.2.2 n)) s) s)

/-! ### SET DEVICE (R104, R105) -/

/-- The pins that SECPIN names. -/
def secPins (p : Phrase) : List Nat := ((attrVal p "SECPIN" (.list 0 63)).map Val.list).getD []

/-- The attributes of a SET DEVICE that are locked, in order. -/
def State.deviceLocked (s : State) (p : Phrase) : List Err :=
  p.attrs.filterMap fun a =>
    if (a.name = "SECPIN" && (s.pinlock || (s.ownlock && !(secPins p).isEmpty))) || (a.name = "PINLOCK" && s.pinlock) || (a.name = "OWNLOCK" && s.ownlock) then
      some ⟨.locked, some a.tok⟩ else none

/-- One attribute of SET DEVICE. -/
def deviceSetAttr (a : AttrTok) (s : State) : State :=
  let on := (a.value.map upper) = some "ON"
  if a.name = "SECPIN" then overList (((a.value.bind (parseVal (.list 0 63))).map Val.list).getD []) (fun k st => st.givePin k secureOwner) s
  else if a.name = "PINLOCK" then { s with pinlock := s.pinlock || on }
  else if a.name = "OWNLOCK" then { s with ownlock := s.ownlock || on }
  else s

/-- SET DEVICE. -/
def deviceSet (sess : Nat) (ph : Phrase) (s : State) : Ans :=
  Ans.eff (s.accessErr sess .set .device none ++ setAttrErrs deviceAttrs (s.sessAt sess).super ph ++ s.deviceLocked ph
      ++ errIf ((secPins ph).any fun k => !s.mayMove .pin k secureOwner) .state)
    (overList ph.attrs deviceSetAttr)

/-- SET_DEVICE_SECPIN (R104). -/
def execSetDeviceSecpin (sess : Nat) (ph : Phrase) (s : State) : Host.Outcome State Fault Refusal :=
  .next (runRow "SET_DEVICE_SECPIN" sess ph (deviceSet sess ph) s)
/-- SET_DEVICE_PINLOCK (R104, R105). -/
def execSetDevicePinlock (sess : Nat) (ph : Phrase) (s : State) : Host.Outcome State Fault Refusal :=
  .next (runRow "SET_DEVICE_PINLOCK" sess ph (deviceSet sess ph) s)
/-- SET_DEVICE_OWNLOCK (R105). -/
def execSetDeviceOwnlock (sess : Nat) (ph : Phrase) (s : State) : Host.Outcome State Fault Refusal :=
  .next (runRow "SET_DEVICE_OWNLOCK" sess ph (deviceSet sess ph) s)

/-! ### KEY0 (R113, R114) -/

/-- One word of the key. -/
def keyWord (p : Phrase) (name : String) : Nat := ((attrVal p name (.hex 16)).map fun v => v.int.toNat).getD 0

/-- SET_KEY (R113): W0 holds the most significant bytes; every other session loses the supervisor role. -/
def execSetKey (sess : Nat) (ph : Phrase) (s : State) : Host.Outcome State Fault Refusal :=
  .next (runRow "SET_KEY" sess ph (fun s =>
    let ws := ["W0", "W1", "W2", "W3"]
    Ans.eff (s.accessErr sess .set .key none ++ setAttrErrs keyAttrs (s.sessAt sess).super ph
        ++ (ws.filterMap fun w => if ph.has w then none else some ⟨.attr, some w⟩) ++ errIf s.key0.isSome .locked (ph.attrs.head?.map AttrTok.tok))
      fun s =>
        let k := ((keyWord ph "W0" * 2 ^ 64 + keyWord ph "W1") * 2 ^ 64 + keyWord ph "W2") * 2 ^ 64 + keyWord ph "W3"
        overList (allSessions.filter (· ≠ sess)) (fun i a => a.endSuper i) { s with key0 := some (BitVec.ofNat 256 k) }) s)

/-- An attribute of KEY.0 (R114). -/
def State.keyRead (s : State) (name : String) : String :=
  match s.key0 with
  | none => if name = "WRITTEN" then "NO" else "----"
  | some k => if name = "WRITTEN" then "YES" else String.ofList (hexDigits (keyKcv k) 4)

/-- GET_KEY (R114). -/
def execGetKey (sess : Nat) (ph : Phrase) (s : State) : Host.Outcome State Fault Refusal :=
  .next (runRow "GET_KEY" sess ph (fun _ =>
    Ans.read (getErrs keyAttrs ph) fun s => [(getNames ph .key ph.ix).map fun n => (lower n, s.keyRead n)]) s)

/-! ### STOP PART (R117) -/

/-- Every running function of partition n stops; the units that leads have bound are switched off and released. -/
def State.stopPart (n : Nat) (s : State) : State :=
  if (s.partAt n).state ≠ .running then s
  else
    let us := (s.peer.nodeBinds.map fun b => unitOfType b.utype b.unit).filter fun u => s.unitOwner u = n
    ((overList us State.unitOff s).haltPart n).updatePart n

/-- STOP_PART (R117). -/
def execStopPart (sess : Nat) (ph : Phrase) (s : State) : Host.Outcome State Fault Refusal :=
  .next (runRow "STOP_PART" sess ph (fun s => perInst sess ph (fun n s =>
    Ans.eff (s.unitErrs sess ph .part (some n) ++ extraAttrs ph []) (State.stopPart n)) s) s)

/-! ### RESET PART (R122, R123, R130) -/

/-- A section leaves planning with its implement's reset: triggers and held commands are discarded, nothing is switched by it. -/
def State.resetSec (k : Nat) (s : State) : State :=
  (((s.dropTrigs k fun _ => true).dropHeld k).setMetOpen k false).setSec k {}

/-- The implement stops without its stop behaviour, and its planner state goes (R122, step 4). -/
def State.resetImpl (n : Nat) (s : State) : State :=
  let s0 := s.failStart n ⟨.state, none⟩
  let s1 := overList (s0.sectionsOf n) State.resetSec s0
  (overList (s1.peer.leadBinds.filter fun b => b.impl = n && b.held) State.unbindLead s1).setImpl n {}

/-- A watch on units of partition n (R78). -/
def State.watchOf (s : State) (n : Nat) (w : Watch) : Bool :=
  w.hasIdx && ownable w.noun (some w.idx) && (if w.noun = .map then s.layerOwner w.idx else s.owner w.noun w.idx) = n

/-- A queued phrase that names units of partition n, or the session (R94). -/
def State.namesPart (s : State) (n : Nat) (q : QEntry) : Bool :=
  match q with
  | .phrase p => (s.namedParts p).contains n || p.nn = some .session
  | _ => false

/-- LEVEL of a pin at its partition's reset (R554). -/
def State.pinReset (k : Nat) (s : State) : State :=
  let r := s.word .pin k "RSTLVL"
  if s.word .pin k "DIR" = "OUT" && r ≠ "KEEP" then s.store .pin k "" "LEVEL" (.w r) else s

/-- An odometry unit at its partition's reset: stopped, and its proposal gone (R303, R306). -/
def odoReset (m : Nat) (s : State) : State :=
  let a := s.odoDown m 0
  a.setOdo m { a.odoAt m with prop := none }

/-- Steps 1 to 7 of a partition reset (R122). -/
def State.resetPart (n sess : Nat) (s : State) : State :=
  let e := s.setPState n .resetting ""
  let s0 := e.setPart n { e.partAt n with pendFault := none }
  let s1 := overList (s0.unitsOf n) (fun u a => (a.unitSafe u false).dropGrants u) s0
  let s2 := overList (s1.owned .odo 8 n) odoReset s1
  let s3 := s2.resetImpl n
  let s4 := overList (s3.owned .prod 8 n) State.stopProdRun s3
  let s5 := overList (s4.owned .ssp 2 n) State.sspDown s4
  let s6 := overList ((s5.owned .can 4 n).filter fun k => !(s5.canAt k).peer) State.canStop s5
  let s7 := overList (s6.unitsOf n) State.stopDirect s6
  let s8 := overList (s7.peer.nodeBinds.filter fun b => s7.unitOwner (unitOfType b.utype b.unit) = n) State.releaseBind s7
  let s9 := overList (s8.owned .pin 64 n) State.pinReset s8
  let s10 := overList (List.range 2) (fun k a => match (a.i2cAt k).busy with
    | some (i, _, _) => if (a.sessAt i).part = n then a.i2cCut k else a
    | none => a) s9
  let s11 := overList allSessions (fun i a => overList ((a.sessAt i).watches.filter (a.watchOf n)) (fun w b => b.endWatch i w) a) s10
  if (s11.sessAt sess).part = n then
    let x := s11.sessAt sess
    let s12 := s11.setSess sess { x with queue := x.queue.filter fun q => !s11.namesPart n q }
    s12.setPart n { s12.partAt n with wasLast := insertNat sess (s12.partAt n).wasLast }
  else s11

/-- RESET_PART (R122, R94): the OK precedes the reset; of a partition already RESETTING it follows the running one's end (R130). -/
def execResetPart (sess : Nat) (ph : Phrase) (s : State) : Host.Outcome State Fault Refusal :=
  .next (runRow "RESET_PART" sess ph (fun s =>
    let errs (n : Nat) (a : State) : List Err := a.unitErrs sess ph .part (some n) ++ extraAttrs ph []
    let good := ph.insts.filter fun n => (errs n s).isEmpty
    if good.any fun n => (s.partAt n).state = .resetting then
      { act := fun s => (overList good (fun n a =>
          let b := if (a.partAt n).state = .resetting then a else a.resetPart n sess
          b.setPart n { b.partAt n with wasLast := insertNat sess (b.partAt n).wasLast }) s, [])
        await := true }
    else perInst sess ph (fun n s => { errs := errs n s, post := State.resetPart n sess }) s) s)

/-- A reply that waited for a partition's reset is given once no partition it waits for is RESETTING (R130). -/
def State.resetReply (i : Nat) (s : State) : State :=
  if s.resetHolds i then s
  else match (s.sessAt i).await with
    | none => s.settle i
    | some p =>
      let line (n : Nat) : KVs := match pickErr (s.unitErrs i p .part (some n) ++ extraAttrs p []) with
        | some e => [("inst", toString n), ("err", ecodeWord e.code)]
        | none => [("inst", toString n)]
      let ls := if p.ranged then ((p.insts.map fun n => daLines p.tag p.checked true (line n))).flatten else []
      (s.putLines i ls).answerLater i none

/-- PART_RESET_COMPLETE (R122 step 8, R306): units held by HOLDLAST are switched off, RESET_CNT increments; `badOdo` are odometry units whose island fails its check. -/
def execPartResetComplete (part : Nat) (badOdo : List Nat) (s : State) : Host.Outcome State Fault Refusal :=
  if 4 ≤ part || (s.partAt part).state ≠ .resetting then .next s
  else
    let s1 := overList (badOdo.filter fun m => m < 8 && s.owner .odo m = part) (fun m a =>
      a.detectIsland { cls := 14, detail := 0xB0, island := some (14 + m) } [14 + m]) s
    let s2 := overList (s1.unitsOf part) State.unitUnhold s1
    let p := s2.partAt part
    let last := p.wasLast
    let s3 := (s2.setPart part { p with resets := p.resets + 1, pendFault := none, wasLast := [] })
    let s4 := match p.pendFault with
      | some c => (overList (s3.unitsOf part) (fun u a => a.unitSafe u true) s3).setPState part .faulted c
      | none => s3.setPState part .stopped ""
    .next (overList last State.resetReply s4)

/-! ### RESET DEVICE (R94, R125) -/

/-- RESET_DEVICE: the OK has been sent in full before the reset takes effect; with it every session ends. -/
def execResetDevice (sess : Nat) (ph : Phrase) (s : State) : Host.Outcome State Fault Refusal :=
  .next (runRow "RESET_DEVICE" sess ph (fun s =>
    { errs := s.accessErr sess .reset .device none ++ extraAttrs ph [], post := State.reset_ .device }) s)

/-! ### What DEVICE and PART show -/

/-- A read-only or mirrored attribute of DEVICE; ISLANDS as in R39. -/
def State.deviceRead (s : State) (name : String) : String :=
  if name = "STATE" then dstateWord s.power.dstate
  else if name = "VARIANT" then showHex 8 (variantCode s.power.variant)
  else if name = "FACTORY" then yesNo s.key0.isNone
  else if name = "OWNLOCK" then onOff s.ownlock
  else if name = "PINLOCK" then onOff s.pinlock
  else if name = "SECPIN" then showList s.securePins
  else
    let of (x : IslState) : List Nat := (List.range 64).filter fun i => s.island i = x
    joinWith ";" (([IslState.active, .stopped, .retired, .absent].filter fun x => !(of x).isEmpty).map fun x => islWord x ++ ":" ++ showList (of x))

/-- An attribute of PART.n. -/
def State.partRead (s : State) (n : Nat) (name : String) : String :=
  if name = "STATE" then pstateWord (s.partAt n).state
  else if name = "LARDER" then toString (s.larderUsed n)
  else if name = "RESETS" then toString (s.partAt n).resets.toNat
  else match ownClasses.find? fun c => c.1 = name with
    | some (_, noun, k) => showList ((s.owned noun k n).filter fun i => !s.nounAbsent noun i)
    | none => ""

end Sys2Proof.Machine
end

