-- ==== Sys2Proof/Machine/Peer.lean ====
section
/-!
DEFINITION. Sys2Proof/Machine/Peer.lean: the rows of the peer link (13_peer_link.md): sync, heartbeats, bindings, fire commands, positions, starting and stopping; and what PEER and
NODE show.
-/
namespace Sys2Proof.Machine

/-! ### Receiving (R446, R449, R450) -/

/-- The device is a bridge (R447). -/
def State.isBridge (s : State) : Bool := (s.natOpt .peer 0 "BRIDGE").isSome
/-- The controller of a segment. -/
def State.peerCan (s : State) (bridge : Bool) : Nat := if bridge then (s.natOpt .peer 0 "BRIDGE").getD 0 else s.nat .peer 0 "CAN"

/-- The device's controller takes the frame: the link is started, and after LOOP the second segment is not used (R447). -/
def State.peerHears (s : State) (f : PeerIn) : Bool :=
  let c := s.canAt (s.peerCan f.onBridge)
  s.peer.state ≠ 0 && !(f.onBridge && (s.peer.loop || !s.isBridge)) && c.running && !c.integ && !c.busoff

/-- A frame of a type arrives (R449): its bytes before the check where it is accepted. A bridge leaves frames to other addresses to PEER_FRAME_FORWARD. -/
def State.peerRx (typ : Nat) (f : PeerIn) (s : State) : State × Option (List Nat) :=
  let dst := idDst f.id
  if !s.peerHears f || idTyp f.id ≠ typ then (s, none)
  else
    let s1 := (s.advanceTo f.ts).recDown (s.peerCan f.onBridge)
    if dst ≠ 255 && dst ≠ s.ownAddr then (if s.isBridge then (s, none) else (s1.bump "FOREIGN_CNT", none))
    else if !peerLenOk typ f.data then (s1, none)
    else if !peerCrcOk f then (s1.bump "CRC_CNT", none)
    else (s1, some f.data)

/-- A field of a payload: `k` bytes from an offset, little-endian. -/
def fld (d : List Nat) (off k : Nat) : Nat := leNat ((d.drop off).take k)
/-- A signed field. -/
def sfld (d : List Nat) (off k : Nat) : Int := ofTwos (8 * k) (fld d off k)

/-- The answer given to an answered frame of this key, or the bytes seen under it (R451). -/
def State.doneOf (s : State) (a typ key : Nat) : Option (List Nat) :=
  (s.peer.done.find? fun d => d.1 = a && d.2.1 = typ && d.2.2.1 = key).map fun d => d.2.2.2

/-- Remember an answer: the 16 latest of a device and type. -/
def State.noteDone (a typ key : Nat) (data : List Nat) (s : State) : State :=
  let mine := s.peer.done.filter fun d => d.1 = a && d.2.1 = typ && d.2.2.1 ≠ key
  let rest := s.peer.done.filter fun d => !(d.1 = a && d.2.1 = typ)
  { s with peer := { s.peer with done := rest ++ mine.drop (mine.length - 15) ++ [(a, typ, key, data)] } }

/-- Answer a frame, once acted on; a resent one only gets the answer again (R451). -/
def State.answerOnce (a typ key rtyp : Nat) (act : State → State × List Nat) (s : State) : State :=
  match s.doneOf a typ key with
  | some d => s.peerTo rtyp a d
  | none =>
    let r := act s
    (r.1.noteDone a typ key r.2).peerTo rtyp a r.2

/-- Frames that await an answer of device a: taken out when it arrives. -/
def State.dropWait (a : Nat) (typs : List Nat) (key : Nat) (s : State) : State :=
  { s with peer := { s.peer with waits := s.peer.waits.filter fun w => !(w.dst = a && typs.contains w.typ && w.key = key) } }

def State.waitOf (s : State) (a typ key : Nat) : Option PeerWait := s.peer.waits.find? fun w => w.dst = a && w.typ = typ && w.key = key

/-! ### Sync time (R453, R454) -/

/-- A SYNC on one segment; its FOLLOW is made when it has left. -/
def State.putSync (bridge : Bool) (depth : Nat) (s : State) : State :=
  s.peerPut { typ := 0, dst := 255, src := s.ownAddr, data := leBytes s.peer.seq 2 ++ [(s.peer.master).getD 0, depth], onBridge := bridge }

/-- SYNC_SEND (R453), every 100 ms of SYSTIME: by the master on its segments, by a bridge on the segment away from the master. -/
def execSyncSend (s : State) : Host.Outcome State Fault Refusal :=
  if s.peer.state ≠ 1 then .next s
  else
    let s0 := s.tick "SYNC" 0 (100 * nsMs)
    let two := s0.isBridge && !s0.peer.loop
    match s0.peer.master with
    | none => .next s0
    | some m =>
      let own := m = s0.ownAddr
      if own || two then
        let s1 := { s0 with peer := { s0.peer with seq := (s0.peer.seq + 1) % 65536 } }
        if own then
          let s2 := s1.putSync false 0
          .next (if two then s2.putSync true 0 else s2)
        else .next (s1.putSync (!(s1.node m).onBridge) (s1.peer.depth + 1))
      else .next s0

/-- The sync time is corrected by a pair whose error is `e` at the start of frame `at_` (R454): a step at 100 µs or more; below, a slew of at most 200 ppm of the time since the
last pair. How much of it a pair brings is a free value. -/
def State.correctSync (e : Int) (at_ : Nat) (s : State) : State :=
  if 100000 ≤ e.natAbs then
    (({ s with peer := { s.peer with offset := s.peer.offset + e, good := 0, lastPair := at_ } }).bump "SYNCSTEP_CNT").setSynced false
  else
    let good := if e.natAbs ≤ 2000 then s.peer.good + 1 else 0
    let lim := min e.natAbs ((at_ - s.peer.lastPair) / 5000)
    let f := s.free
    let part : Nat := if lim = 0 then 0 else 1 + f.1.toNat % lim
    let s1 := { f.2 with peer := { f.2.peer with offset := f.2.peer.offset + (if 0 ≤ e then (part : Int) else -(part : Int)), good := min good 3, lastPair := at_ } }
    if 3 ≤ good then s1.setSynced true else s1

/-- SYNC_FRAME_RECEIVED (R453, R454): a SYNC and its FOLLOW from the master, or from the bridge toward it, correct the sync time. -/
def execSyncFrameReceived (f g : PeerIn) (s : State) : Host.Outcome State Fault Refusal :=
  let r := s.peerRx 0 f
  match r.2 with
  | none => .next r.1
  | some d =>
    let q := r.1.peerRx 1 g
    match q.2 with
    | none => .next q.1
    | some b =>
      let s1 := q.1
      let m := fld d 2 1
      let pair := idSrc f.id = idSrc g.id && fld d 0 2 = fld b 0 2 && f.onBridge = g.onBridge
      if pair && s1.peer.master = some m && m ≠ s1.ownAddr && f.onBridge = (s1.node m).onBridge then
        .next ({ s1 with peer := { s1.peer with depth := fld d 3 1 } }.correctSync (sfld b 4 8 - s1.syncOf f.ts) f.ts)
      else .next s1

/-- SYNC_TIMEOUT (R454): 1 s without a valid pair; the master is always synced. -/
def execSyncTimeout (s : State) : Host.Outcome State Fault Refusal :=
  if s.peer.state ≠ 0 && s.peer.synced && s.peer.master ≠ some s.ownAddr then
    let s1 := s.advanceTo (s.peer.lastPair + nsS)
    .next ({ s1 with peer := { s1.peer with good := 0 } }.setSynced false)
  else .next s

/-! ### Heartbeats (R448, R455 to R457) -/

/-- DSTATE of a heartbeat (Table PEER-3). -/
def hbState : DState → Nat
  | .run => 1 | .safe => 2 | .shutdown => 3 | _ => 0

/-- The implements that run with remote bindings (Table PEER-3, LEADS). -/
def State.leadMask (s : State) : Nat :=
  ((List.range 4).map fun n => if (s.implAt n).running && (s.peer.leadBinds.any fun b => b.impl = n && b.held) then 2 ^ n else 0).sum

/-- FLAGS of a heartbeat. -/
def State.hbFlags (s : State) : Nat :=
  (if s.peer.synced then 1 else 0) + (if s.peer.master = some s.ownAddr then 2 else 0) + (if s.isBridge then 4 else 0) + (if s.peer.state = 2 then 8 else 0)

/-- The device's heartbeat on a segment. -/
def State.putHb (bridge : Bool) (s : State) : State :=
  s.peerPut { typ := 2, dst := 255, src := s.ownAddr, onBridge := bridge
              data := [hbState s.power.dstate, s.hbFlags, s.leadMask, variantCode s.power.variant / 2 ^ 24] ++ leBytes s.times.boots 4 ++ leBytes s.peer.inst 4 }

/-- The instant of the next heartbeat (R455): n × 20 ms + 0.15 ms × ADDR of SYSTIME. -/
def State.nextHb (s : State) : Nat :=
  let off := 150000 * s.ownAddr
  let t := off + ceilDiv (s.now - off) (20 * nsMs) * (20 * nsMs)
  if s.lastTick.find ("HB", 0) = some t then t + 20 * nsMs else t

/-- HB_SEND (R455, R456): the heartbeat on every segment, with the UNBIND frames that are repeated for 1 s. -/
def execHbSend (s : State) : Host.Outcome State Fault Refusal :=
  if s.peer.state ≠ 1 then .next s
  else
    let t := s.nextHb
    let s0 := { s.advanceTo t with lastTick := AMap.put ("HB", 0) t s.lastTick }
    let s1 := s0.putHb false
    let s2 := if s1.isBridge && !s1.peer.loop then s1.putHb true else s1
    let live (b : LeadBind) : Bool := match b.unbindEnd with
      | some e => decide (s2.now ≤ e)
      | none => true
    let s3 := { s2 with peer := { s2.peer with leadBinds := s2.peer.leadBinds.filter live } }
    .next (overList (s3.peer.leadBinds.filter fun b => b.unbindEnd.isSome)
      (fun b a => a.peerTo 0x05 b.node ([b.impl, b.utype, b.unit, 0, 0, 0] ++ leBytes b.ref 2)) s3)

/-- A heartbeat of device a is taken in (R455). -/
def State.takeHb (a : Nat) (f : PeerIn) (d : List Nat) (s : State) : State :=
  let x := s.node a
  let boots := fld d 4 4
  let inst := fld d 8 4
  let s1 := if x.present && (x.boots ≠ boots || x.inst ≠ inst) then s.nodeLost a true else s
  let y := s1.node a
  let s2 := s1.setNode a { y with present := true, known := true, hops := idHops f.id, dstate := fld d 0 1, flags := fld d 1 1, leads := fld d 2 1, varcode := fld d 3 1
                                  boots := boots, inst := inst, lastHb := s1.now, onBridge := f.onBridge }
  (if y.present then s2 else s2.peerEv ("NODE." ++ toString a ++ " JOIN rejoin=" ++ yesNo x.known)).newMaster

/-- HB_RECEIVED (R447, R448, R455): the own address from another instance is a CONFLICT; one source on both segments of a bridge is a LOOP. -/
def execHbReceived (f : PeerIn) (s : State) : Host.Outcome State Fault Refusal :=
  let r := s.peerRx 2 f
  match r.2 with
  | none => .next r.1
  | some d =>
    let s1 := r.1
    let a := idSrc f.id
    if 128 ≤ a then .next s1
    else if a = s1.ownAddr then
      if fld d 8 4 ≠ s1.peer.inst && s1.peer.state = 1 then
        .next ({ s1 with peer := { s1.peer with state := 2, tx := [] } }.peerEv ("PEER CONFLICT addr=" ++ toString a))
      else .next s1
    else if s1.isBridge && !s1.peer.loop && (s1.node a).present && (s1.node a).onBridge ≠ f.onBridge then
      .next ({ s1 with peer := { s1.peer with loop := true, tx := s1.peer.tx.filter fun t => !t.onBridge } }.peerEv ("PEER LOOP addr=" ++ toString a))
    else .next (s1.takeHb a f d)

/-- PEER_LOSS_CHECK (R455 to R457), at each 1 ms tick: a device without a heartbeat for 60 ms is lost. -/
def execPeerLossCheck (s : State) : Host.Outcome State Fault Refusal :=
  if s.peer.state = 0 then .next s
  else
    let s0 := s.tick "LOSS" 0 nsMs
    .next (overList (s0.presentNodes.filter fun a => (s0.node a).lastHb + 60 * nsMs ≤ s0.now) (fun a st => st.nodeLost a false) s0)

/-- PEER_FRAME_FORWARD (R447, R449, R450): a bridge sends the frame on its other segment, one hop on; SYNC and FOLLOW are its own matter (R453). -/
def execPeerFrameForward (f : PeerIn) (s : State) : Host.Outcome State Fault Refusal :=
  let typ := idTyp f.id
  if !s.peerHears f || s.peer.state ≠ 1 || !s.isBridge || s.peer.loop || typ ≤ 1 || f.data.length < 2 then .next s
  else
    let mine := peerTypes.contains typ && (idDst f.id = 255 || idDst f.id = s.ownAddr)
    let s1 := if mine then s.advanceTo f.ts else (s.advanceTo f.ts).recDown (s.peerCan f.onBridge)
    if !peerCrcOk f then .next (if mine then s1 else s1.bump "CRC_CNT")
    else if 3 ≤ idHops f.id then .next s1
    else .next ((s1.peerPut { typ := typ, dst := idDst f.id, src := idSrc f.id, hops := idHops f.id + 1, data := f.data.take (f.data.length - 2), onBridge := !f.onBridge }).bump "FWD_CNT")

/-! ### Bindings (R458, R459, R475) -/

/-- A node's judgement of a BIND (R459, Table PEER-4): the lead's implement, UTYPE and unit; 0 for OK. -/
def State.judgeBind (s : State) (lead impl ty n : Nat) : Nat :=
  let u := unitOfType ty n
  if 2 < ty || (if ty = 2 then 8 else 48) ≤ n || !s.unitPresent u then 1
  else if (s.withPair u).any fun v => (s.unitAt v).retired then 2
  else if s.unitOwner u ≠ impl then 3
  else if s.peer.nodeBinds.any fun b => b.lead = lead && b.utype = ty && b.unit = n then 0
  else if s.unitInUse u || !((s.partAt impl).state = .stopped || (s.partAt impl).state = .running) then 4
  else match pickErr (s.bindErrs [if ty = 2 then 4 else if ty = 1 then 3 else 2, n] impl secModes) with
    | none => 0
    | some e => match e.code with
      | .absent => 1 | .retired => 2 | .owner => 3 | .attr => 5 | .range => 6 | _ => 4

/-- BIND_FRAME_RECEIVED (R459): an accepted unit is in use, and its partition runs. -/
def execBindFrameReceived (f : PeerIn) (s : State) : Host.Outcome State Fault Refusal :=
  let r := s.peerRx 4 f
  match r.2 with
  | none => .next r.1
  | some d =>
    let lead := idSrc f.id
    let impl := fld d 0 1
    let ty := fld d 1 1
    let n := fld d 2 1
    .next (r.1.answerOnce lead 4 (fld d 6 2) 6 (fun s1 =>
      let res := s1.judgeBind lead impl ty n
      let had := s1.peer.nodeBinds.any fun b => b.lead = lead && b.utype = ty && b.unit = n
      let s2 := if res = 0 && !had then
          let s3 := s1.engage (unitOfType ty n)
          { s3 with peer := { s3.peer with nodeBinds := s3.peer.nodeBinds ++ [({ lead := lead, impl := impl, utype := ty, unit := n, spare := fld d 3 1 = 1, sec := fld d 4 1 } : NodeBind)] } }.updatePart impl
        else s1
      (s2, leBytes (fld d 6 2) 2 ++ [res])))

/-- UNBIND_FRAME_RECEIVED (R457): the binding is released and its unit switched off. -/
def execUnbindFrameReceived (f : PeerIn) (s : State) : Host.Outcome State Fault Refusal :=
  let r := s.peerRx 5 f
  match r.2 with
  | none => .next r.1
  | some d =>
    let lead := idSrc f.id
    let ty := fld d 1 1
    let n := fld d 2 1
    .next (r.1.answerOnce lead 5 (fld d 6 2) 6 (fun s1 =>
      let s2 := match s1.peer.nodeBinds.find? fun b => b.lead = lead && b.impl = fld d 0 1 && b.utype = ty && b.unit = n with
        | none => s1
        | some b =>
          let u := unitOfType ty n
          let s3 := (s1.dropCmds u).unitOff u
          { s3 with peer := { s3.peer with nodeBinds := s3.peer.nodeBinds.filter fun c => c ≠ b } }.updatePart (s3.unitOwner u)
      (s2, leBytes (fld d 6 2) 2 ++ [0])))

/-- The error of a refused BIND (Table PEER-4), at its section. -/
def bindRefusal (b : LeadBind) : List Err :=
  let c := match b.done with
    | some 1 => some ECode.absent | some 2 => some .retired | some 3 => some .owner | some 4 => some .state | some 5 => some .attr | some 6 => some .range
    | _ => none
  (c.map fun e => (⟨e, some (secTok b.sec)⟩ : Err)).toList

/-- Once every BIND of a waiting START is answered, the implement begins or the START fails (R458). -/
def State.bindsAnswered (n : Nat) (s : State) : State :=
  match (s.implAt n).bindWait with
  | none => s
  | some w =>
    let mine := s.peer.leadBinds.filter fun b => b.impl = n && b.held
    if mine.any fun b => b.done.isNone then s
    else match pickErr (mine.flatMap bindRefusal) with
      | some e => s.failStart n e
      | none => (s.beginImpl n).answerFrom (s.sessAt w.1).out.length w.1 none

/-- BINDACK_FRAME_RECEIVED (R458, R475). -/
def execBindackFrameReceived (f : PeerIn) (s : State) : Host.Outcome State Fault Refusal :=
  let r := s.peerRx 6 f
  match r.2 with
  | none => .next r.1
  | some d =>
    let a := idSrc f.id
    let ref := fld d 0 2
    let s1 := r.1.dropWait a [4, 5] ref
    match s1.peer.leadBinds.find? fun b => b.node = a && b.ref = ref && b.done.isNone && b.unbindEnd.isNone with
    | none => .next s1
    | some b =>
      if b.failed then
        let s2 := { s1 with peer := { s1.peer with leadBinds := s1.peer.leadBinds.filter fun c => c ≠ b } }
        .next (if fld d 2 1 = 0 then s2.askUnbind b.node b.impl b.utype b.unit else s2)
      else .next ({ s1 with peer := { s1.peer with leadBinds := s1.peer.leadBinds.map fun c => if c = b then { c with done := some (fld d 2 1) } else c } }.bindsAnswered b.impl)

/-! ### Fire commands at the node (R460, R461, R463, R471 to R473) -/

/-- The payload of a REPORT (Table PEER-3). -/
def reportData (cseq kind outcome ty n wait impl : Nat) : List Nat := leBytes cseq 2 ++ [kind, outcome, ty, n] ++ leBytes (min 65535 wait) 2 ++ [impl]

/-- Unit u is on once the commands it holds are released: the latest of them, or its present command. -/
def State.willBeOn (s : State) (u : Nat) : Bool :=
  match (s.peer.cmds.filter fun c => unitOfType c.utype c.unit = u).getLast? with
  | some c => c.action = 1
  | none => match (s.unitAt u).recorded with
    | some b => b
    | none => (s.unitAt u).enabled

/-- Commands held for unit u that satisfy a condition are withdrawn. -/
def State.dropHeldCmds (u : Nat) (p : NodeCmd → Bool) (s : State) : State :=
  let gone (c : NodeCmd) : Bool := unitOfType c.utype c.unit = u && p c
  let s1 := if s.peer.cmds.any fun c => gone c && c.gstart.isSome then s.dropBooked u else s
  { s1 with peer := { s1.peer with cmds := s1.peer.cmds.filter fun c => !gone c } }

/-- A switch-on command (R460, R461, R471, R473). -/
def State.fireOn (c : NodeCmd) (s : State) : State × List Nat :=
  let u := unitOfType c.utype c.unit
  let rep (kind out wait : Nat) : List Nat := reportData c.cseq kind out c.utype c.unit wait c.impl
  let duty (a : State) : State := if c.duty = 0xFFFF then a else a.unitDuty u c.duty false
  if s.willBeOn u then (duty s, rep 0 1 0)
  else if !s.peer.synced then (s, rep 3 0 0)
  else if c.ftime ≤ s.now then (s, rep 2 0 0)
  else
    let s0 := if c.ftime < s.now + 10 * nsMs then s.bump "LATECMD_CNT" else s
    let hold (g : Option Nat) (a : State) : State := duty { a with peer := { a.peer with cmds := a.peer.cmds ++ [{ c with gstart := g }] } }
    if !s0.needsGrant u then (hold none s0, rep 0 1 0)
    else
      let r := s0.askSwitchOn u 0 c.ftime true
      match r.2 with
      | none => (r.1, rep 1 4 0)
      | some g => (hold (some g.start) r.1, rep 0 (r.1.unitAt u).gout ((g.start - c.ftime) / 1000))

/-- A switch-off command (R461, R471): released at its fire time, or at once. -/
def State.fireOff (c : NodeCmd) (s : State) : State × List Nat :=
  let u := unitOfType c.utype c.unit
  let ok := reportData c.cseq 0 1 c.utype c.unit 0 c.impl
  if c.action = 2 then (s.unitOff u, ok)
  else if !s.willBeOn u then (s, ok)
  else if c.ftime ≤ s.now then ((s.dropHeldCmds u fun d => d.ftime ≤ c.ftime).unitOff u, ok)
  else ({ s with peer := { s.peer with cmds := s.peer.cmds ++ [c] } }, ok)

/-- FIRE_FRAME_RECEIVED (R460, R461); a command for a unit that the sender has not bound is discarded. -/
def execFireFrameReceived (f : PeerIn) (s : State) : Host.Outcome State Fault Refusal :=
  let r := s.peerRx 8 f
  match r.2 with
  | none => .next r.1
  | some d =>
    let lead := idSrc f.id
    let c : NodeCmd := { lead := lead, cseq := fld d 0 2, impl := fld d 2 1, utype := fld d 3 1, unit := fld d 4 1, action := fld d 5 1, duty := fld d 6 2
                         ftime := (r.1.sysOf (sfld d 8 8)).toNat }
    if 2 < c.action || (!(r.1.peer.nodeBinds.any fun b => b.lead = lead && b.utype = c.utype && b.unit = c.unit) && (r.1.doneOf lead 8 c.cseq).isNone) then .next r.1
    else .next ((r.1.traceLine 2 "PEER" "PEER FIRE").answerOnce lead 8 c.cseq 10 (if c.action = 1 then State.fireOn c else State.fireOff c))

/-- When a held command is due: the later of its fire time and its grant (R460). -/
def NodeCmd.due (c : NodeCmd) : Nat := max c.ftime (c.gstart.getD 0)

/-- The command due first. -/
def firstCmd : List NodeCmd → Option NodeCmd
  | [] => none
  | c :: cs => match firstCmd cs with
    | none => some c
    | some d => if d.due < c.due then some d else some c

/-- REMOTE_FIRE_RELEASE (R460, R461): the next command held for unit u is released; a switch-off takes with it the switch-ons before it that still wait for their grants (R391). -/
def execRemoteFireRelease (u : Nat) (s : State) : Host.Outcome State Fault Refusal :=
  match firstCmd (s.peer.cmds.filter fun c => unitOfType c.utype c.unit = u) with
  | none => .next s
  | some c =>
    let s0 := s.advanceTo c.due
    let s1 := { s0 with peer := { s0.peer with cmds := s0.peer.cmds.filter fun d => d ≠ c } }
    if c.action = 1 then
      let d := (s1.grantOf u).bind fun g => if g.booked then some { start := g.start, dur := g.dur, charge := g.charge, ir := g.ir : Decision } else none
      .next (s1.unitOn u 0 d).1
    else .next ((s1.dropHeldCmds u fun d => d.ftime ≤ c.ftime).unitOff u)

/-- CANCEL_FRAME_RECEIVED (R463, R472): a command that is released, or due, has been executed. -/
def execCancelFrameReceived (f : PeerIn) (s : State) : Host.Outcome State Fault Refusal :=
  let r := s.peerRx 9 f
  match r.2 with
  | none => .next r.1
  | some d =>
    let lead := idSrc f.id
    let cseq := fld d 0 2
    .next (r.1.answerOnce lead 9 cseq 10 (fun s1 =>
      let rep (kind : Nat) : List Nat := reportData cseq kind 0 (fld d 3 1) (fld d 4 1) 0 (fld d 2 1)
      match s1.peer.cmds.find? fun c => c.lead = lead && c.cseq = cseq with
      | some c => if c.due ≤ s1.now then (s1, rep 4) else (s1.dropHeldCmds (unitOfType c.utype c.unit) fun x => x = c, rep 5)
      | none => (s1, rep 4)))

/-- DUTY_FRAME_RECEIVED (R463, R370): applied at the unit's next period. -/
def execDutyFrameReceived (f : PeerIn) (s : State) : Host.Outcome State Fault Refusal :=
  let r := s.peerRx 11 f
  match r.2 with
  | none => .next r.1
  | some d =>
    .next (if (r.1.peer.nodeBinds.any fun b => b.lead = idSrc f.id && b.utype = fld d 1 1 && b.unit = fld d 2 1) && fld d 4 2 ≤ 1000 then
      r.1.unitDuty (unitOfType (fld d 1 1) (fld d 2 1)) (fld d 4 2) false else r.1)

/-! ### Reports at the lead (R462, R472, R475) -/

/-- The sections of an implement served by a unit of node a. -/
def State.secsAt (s : State) (a ty n impl : Nat) : List Nat := s.plannedSecs.filter fun k => s.owner .sec k = impl && s.secRemote k = some (a, ty, n)

/-- A switch-on of section k failed at its node (R462, R436): its section's effective state stays closed, and the planner asks again. -/
def State.remoteRefused (k cseq : Nat) (s : State) : State :=
  let s1 := match s.secOdo k with
    | some d => s.setOdo d { s.odoAt d with entries := (s.odoAt d).entries.filter fun e => !(e.ofSec k && e.shadow && e.cseq = cseq) }
    | none => s
  let s2 := { s1 with peer := { s1.peer with sent := s1.peer.sent.filter fun c => !(c.sec = k && c.cseq = cseq) } }
  let x := s2.secAt k
  let s3 := (s2.setSec k { x with refused := true, cmdOn := false, effDue := x.effDue.filter fun e => !e.2 }).setMetOpen k false
  if x.eff then s3.dueEff k false s3.now else s3

/-- A REPORT on a command of section k arrives. -/
def State.reported (k cseq kind : Nat) (s : State) : State :=
  let s1 := { s with peer := { s.peer with sent := s.peer.sent.filter fun c => !(c.sec = k && c.again) } }
  if kind = 0 then
    { s1 with peer := { s1.peer with sent := (s1.peer.sent.filter fun c => !(c.sec = k && c.cseq = cseq && (c.now || c.applied))).map fun c =>
      if c.sec = k && c.cseq = cseq then { c with acked := true } else c } }
  else if kind ≤ 3 then (if s1.peer.sent.any fun c => c.sec = k && c.cseq = cseq && c.on then s1.remoteRefused k cseq else s1)
  else if kind = 4 then
    (if (s1.secAt k).unserved.isSome then s1 else if (s1.secAt k).opened then s1.remoteOn k else (s1.sendFire k 2 s1.now).1)
  else s1

/-- REPORT_FRAME_RECEIVED (R414, R416, R462, R472, R475). -/
def execReportFrameReceived (f : PeerIn) (s : State) : Host.Outcome State Fault Refusal :=
  let r := s.peerRx 10 f
  match r.2 with
  | none => .next r.1
  | some d =>
    let a := idSrc f.id
    let cseq := fld d 0 2
    let kind := fld d 2 1
    let ty := fld d 4 1
    let n := fld d 5 1
    let impl := fld d 8 1
    if cseq = 0 then
      match r.1.peer.leadBinds.find? fun b => b.held && b.impl = impl && b.node = a && b.utype = ty && b.unit = n with
      | some b =>
        if kind = 6 || kind = 7 then
          let s1 := if kind = 7 then { r.1 with peer := { r.1.peer with leadBinds := r.1.peer.leadBinds.filter fun c => c ≠ b } } else r.1
          .next (overList s1.plannedSecs (State.secLoses (fun v => remoteOf v = some (a, ty, n)) "NODE") s1)
        else .next r.1
      | none => .next r.1
    else
      let s1 := r.1.dropWait a (if kind ≤ 3 then [8] else [9]) cseq
      .next (overList (s1.secsAt a ty n impl) (fun k st => st.reported k cseq kind) s1)

/-! ### Position frames (R464) -/

/-- The ranges of R140 hold for the values a POS frame marks valid. -/
def posInRange (pos : Bool) (x : Sample) : Bool :=
  let inR (v : Option Int) (lo hi : Int) : Bool := match v with
    | some i => lo ≤ i && i ≤ hi
    | none => true
  (!pos || (inR (some x.lat) (-90000000000) 90000000000 && inR (some x.lon) (-180000000000) 180000000000 && inR x.hgt (-1000000) 10000000 && x.fix ≤ 4)) &&
    inR x.hdg 0 359999 && inR x.yaw (-180000) 180000 && inR x.spd (-30000) 30000 && (pos || x.hdg.isSome || x.yaw.isSome || x.spd.isSome)

/-- POS_FRAME_RECEIVED (R464): a sample of the implement where the lead takes its position from there and is synced. -/
def execPosFrameReceived (f : PeerIn) (s : State) : Host.Outcome State Fault Refusal :=
  let r := s.peerRx 12 f
  match r.2 with
  | none => .next r.1
  | some d =>
    let s1 := r.1
    let n := fld d 0 1
    let bit (k : Nat) : Bool := fld d 2 1 / 2 ^ k % 2 = 1
    let opt (k off : Nat) : Option Int := if bit k then some (sfld d off 4) else none
    let pos := bit 0
    let tov := s1.sysOf (sfld d 36 8)
    let x : Sample := { lat := if pos then sfld d 4 8 else 0, lon := if pos then sfld d 12 8 else 0, hgt := if pos then some (sfld d 20 4) else none
                        fix := if pos then fld d 1 1 else 0, hdg := opt 1 24, yaw := opt 2 28, spd := opt 3 32, tov := tov.toNat }
    let ok := n < 4 && s1.word .impl n "POSSRC" = "EXT" && s1.natOpt .peer 0 ("POSFROM" ++ toString n) = some (idSrc f.id) && s1.peer.synced
      && (s1.implAt n).running && posInRange pos x
    if !ok then .next (s1.bump "POSDROP_CNT")
    else if tov < 0 || s1.staleSample n pos x.tov then .next (s1.bump "STALE_CNT" n)
    else .next (s1.acceptSample n pos x)

/-! ### Resending (R451, R462) -/

/-- How long an answered frame waits (Table PEER-2). -/
def resendAfter (typ : Nat) : Nat := (if typ = 4 || typ = 5 then 20 else if typ = 8 || typ = 9 then 2 else 5) * nsMs

/-- EV PEER NOACK, at most once per second per node (R451). -/
def State.noack (w : PeerWait) (s : State) : State :=
  let s1 := s.bump "NOACK_CNT"
  let x := s1.node w.dst
  let due := match x.noackAt with
    | some t => decide (t + nsS ≤ s1.now)
    | none => true
  if due then (s1.setNode w.dst { x with noackAt := some s1.now }).peerEv ("PEER NOACK node=" ++ toString w.dst ++ " type=" ++ peerName w.typ) else s1

/-- What a fire command without any REPORT comes to (R462). -/
def State.fireLost (a cseq : Nat) (s : State) : State :=
  match s.peer.sent.find? fun c => c.node = a && c.cseq = cseq with
  | none => s
  | some c =>
    if c.on then s.remoteRefused c.sec cseq
    else { s with peer := { s.peer with sent := s.peer.sent.map fun x => if x = c then { x with again := true } else x } }

/-- PEER_RESEND (R451): an answered frame without its answer is resent twice, then given up. -/
def execPeerResend (node typ key : Nat) (s : State) : Host.Outcome State Fault Refusal :=
  match s.waitOf node typ key with
  | none => .next s
  | some w =>
    let s0 := s.advanceTo (w.sentAt + resendAfter typ)
    if s0.peer.state ≠ 1 then .next (s0.dropWait node [typ] key)
    else if w.resent < 2 then
      let s1 := s0.peerTo typ node w.data
      .next { s1 with peer := { s1.peer with waits := s1.peer.waits.map fun x => if x = w then { x with resent := x.resent + 1, sentAt := s1.now } else x } }
    else
      let s1 := (s0.dropWait node [typ] key).noack w
      .next (if typ = 8 then s1.fireLost node key else s1)

/-! ### Starting and stopping (R446, R466) -/

/-- The controllers that the link uses. -/
def State.peerCans (s : State) : List Nat := s.nat .peer 0 "CAN" :: (s.natOpt .peer 0 "BRIDGE").toList

/-- What stands in the way of the link's start. -/
def State.peerStartErrs (s : State) : List Err :=
  errIf (s.retired 36 || s.peerCans.any fun n => s.retired (32 + n)) .retired
    ++ s.funcErrs (s.peerCans.flatMap fun n => ["CANTX" ++ toString n, "CANRX" ++ toString n]) []
    ++ errIf (s.peer.state ≠ 0 || s.peerCans.any fun n => (s.canAt n).running) .state

/-- The link starts (R446, R453): 1,000 kbit/s at 80 % and 4,000 kbit/s at 75 %; alone, the device is the master, and its sync time is its SYSTIME. -/
def State.startLink (s : State) : State :=
  let f := s.free
  let s1 := { f.2 with peer := { state := 1, inst := f.1.toNat % 2 ^ 32, lastPair := s.now } }
  (overList s1.peerCans (fun n a => a.canStart n true 0 (nbtOf 1 63 16 16) (dbtOf 1 14 5 5 true) 15) s1).newMaster

/-- START_PEER (R466). -/
def execStartPeer (sess : Nat) (ph : Phrase) (s : State) : Host.Outcome State Fault Refusal :=
  .next (runRow "START_PEER" sess ph (fun s =>
    Ans.eff (s.unitErrs sess ph .peer none ++ extraAttrs ph [] ++ s.peerStartErrs) State.startLink) s)

/-- The device holds a remote binding, as lead or as node. -/
def State.peerBound (s : State) : Bool := (s.peer.leadBinds.any LeadBind.held) || !s.peer.nodeBinds.isEmpty

/-- STOP_PEER (R466). -/
def execStopPeer (sess : Nat) (ph : Phrase) (s : State) : Host.Outcome State Fault Refusal :=
  .next (runRow "STOP_PEER" sess ph (fun s =>
    Ans.eff (s.unitErrs sess ph .peer none ++ extraAttrs ph [] ++ errIf (s.peerBound && !ph.adv .force) .state) State.peerStop) s)

/-- SET of PEER (R447, R466): BRIDGE differs from CAN. -/
def peerSet (sess : Nat) (ph : Phrase) (s : State) : Ans :=
  let can := s.newVal ph peerAttrs .peer 0 "CAN"
  let bridge := s.newVal ph peerAttrs .peer 0 "BRIDGE"
  Ans.eff (s.unitErrs sess ph .peer none ++ setAttrErrs peerAttrs (s.sessAt sess).super ph
      ++ errIf (bridge.isNum && bridge = can) .range (ph.tok (if ph.has "BRIDGE" then "BRIDGE" else "CAN")) ++ errIf (s.peer.state ≠ 0) .state)
    (storeAttrs peerAttrs .peer 0 "" ph)

/-! ### What PEER and NODE show (R467, R468) -/

def natList (l : List Nat) : String := if l.isEmpty then "NONE" else joinWith "," (l.map toString)
def peerWord (k : Nat) : String := ["STOPPED", "RUNNING", "CONFLICT"].getD k "STOPPED"

def State.peerRead (s : State) (name : String) : String :=
  if name = "STATE" then peerWord s.peer.state
  else if name = "SYNCED" then yesNo s.peer.synced
  else if name = "MASTER" then (match s.peer.master with
    | some a => toString a
    | none => "NONE")
  else if name = "SYNCTIME" then toString (toTwos 64 (s.syncOf s.now))
  else if name = "OFFSET" then toString s.peer.offset
  else natList s.presentNodes

/-- Implements of a LEADS mask. -/
def maskList (m : Nat) : List Nat := (List.range 8).filter fun k => m / 2 ^ k % 2 = 1

/-- NODE.a; for the own address the device's own values. -/
def State.nodeRead (s : State) (a : Nat) (name : String) : String :=
  let x := s.node a
  let own := a = s.ownAddr
  if name = "PRESENT" then yesNo (own || x.present)
  else if name = "HOPS" then toString (if own then 0 else x.hops)
  else if name = "DSTATE" then (if own then dstateWord s.power.dstate else ["READY", "RUN", "SAFE", "SHUTDOWN"].getD x.dstate "READY")
  else if name = "VARIANT" then showHex 2 (if own then variantCode s.power.variant / 2 ^ 24 else x.varcode)
  else if name = "BOOTS" then toString (if own then s.times.boots else x.boots)
  else if name = "INST" then toString (if own then s.peer.inst else x.inst)
  else if name = "LEADS" then natList (maskList (if own then s.leadMask else x.leads))
  else if name = "AGE" then toString (if own || !x.known then 0 else (s.now - x.lastHb) / nsMs)
  else toString ((s.peer.leadBinds.filter fun b => b.node = a && b.held).length + (s.peer.nodeBinds.filter fun b => b.lead = a).length)

end Sys2Proof.Machine
end

