-- ==== Sys2Proof/Machine/PeerPhrases.lean ====
section
/-!
DEFINITION. Sys2Proof/Machine/PeerPhrases.lean: phrases that travel over the peer link (R82 to R84, R95, R465), and output space that returns to a session (R73).
-/
namespace Sys2Proof.Machine

/-! ### Fragments (R465) -/

/-- A text in pieces of up to 58 characters. -/
def pieces (cs : List Char) : List (List Char) := ((List.range 4).map fun i => (cs.drop (58 * i)).take 58).filter fun p => !p.isEmpty

/-- Send a line as PHR (0x10) or RPL (0x11) fragments under one MSG. -/
def State.sendLine (typ a msg sess part : Nat) (text : String) (s : State) : State :=
  let ps := pieces text.toList
  overList ((List.range ps.length).zip ps) (fun p st =>
    let frag := p.1 + (if p.1 + 1 = ps.length then 128 else 0)
    st.peerAsk typ a (256 * msg + frag) ([msg, frag, p.2.length, sess + 16 * part] ++ p.2.map Char.toNat)) s

/-! ### The originating device (R82, R95) -/

/-- The line of a session that is at its turn, where it is a routed phrase. -/
def State.routedFront (s : State) (i : Nat) : Option (Nat × Option String × Bool × String × List QEntry) :=
  let x := s.sessAt i
  if !x.opened || !x.owed.isEmpty || x.await.isSome || s.awaitsNode i || s.power.noPhrases || s.resetHolds i || s.faults.laneChk.isSome then none
  else match x.queue with
    | .routed n tag c t :: rest => some (n, tag, c, t, rest)
    | _ => none

/-- The error of a routed phrase at its turn (R70, R82): the check a session demands, the node's presence, the device state. -/
def State.routedErr (s : State) (i n : Nat) (checked : Bool) (text : String) : Option Err :=
  let dev := match readLine text.toList false false none with
    | .phrase p => s.deviceErr p
    | _ => []
  pickErr (errIf ((s.sessAt i).reqcheck && !checked) .check ++ errIf (s.peer.state ≠ 1 || !(s.node n).present) .node ++ dev)

/-- ROUTED_PHRASE_SEND (R70, R82, R465): the phrase leaves without its route element, with a check of its own where it was checked; it holds its place until its reply. -/
def execRoutedPhraseSend (sess : Nat) (s : State) : Host.Outcome State Fault Refusal :=
  match s.routedFront sess with
  | none => .next s
  | some (n, tag, c, t, rest) =>
    let x := s.sessAt sess
    let s0 := s.setSess sess { x with queue := rest }
    let s1 := if x.reqcheck && !c then s0 else s0.counted sess
    match s1.routedErr sess n c t with
    | some e => .next ((s1.sendErr sess e tag c).settle sess)
    | none =>
      let msg := (s1.node n).msg
      let s2 := s1.setNode n { s1.node n with msg := msg % 255 + 1 }
      let s3 := { s2 with routed := s2.routed ++ [({ sess := sess, node := n, tag := tag, checked := c, since := s2.now, msg := msg } : Routed)] }
      .next (s3.sendLine 0x10 n msg sess x.part (withCheck c t))

/-- ROUTED_PHRASE_SILENCE (Table PHR-7, R465): 500 ms without a sign of life from the node. -/
def execRoutedPhraseSilence (sess : Nat) (s : State) : Host.Outcome State Fault Refusal :=
  match s.routed.find? fun r => r.sess = sess with
  | some r => .next ((s.advanceTo (r.since + 500 * nsMs)).routedFails r)
  | none => .next s

/-- The counts of an ER line that a node sent (Table PHR-11). -/
def State.countRoutedErr (i : Nat) (line : String) (s : State) : State :=
  let toks := (tokens line.toList).take 3
  let s1 := s.bump "ERR_CNT" i
  if toks.contains "E-CHECK" then s1.bump "CHK_CNT" i
  else if toks.contains "E-QUEUE" then s1.bump "QFULL_CNT" i
  else if toks.contains "E-CHAR" then s1.bump "CHAR_CNT" i
  else s1

/-- A line begins with a word. -/
def lineIs (w line : String) : Bool := (tokens line.toList).head? = some w

/-- A line of a checked reply without the node's check. -/
def bareLine (line : String) : String × Bool :=
  match readCheck line.toList with
  | .field body crc => if crc8 body = crc then (String.ofList body, true) else (line, false)
  | _ => (line, false)

/-- An EV line from node n goes to the originating session with `@n` before it (R83), or is dropped where it finds no room (R73). -/
def State.routedEv (i n : Nat) (line : String) (s : State) : State :=
  let x := s.sessAt i
  let b := bareLine line
  let text := withCheck b.2 ("@" ++ toString n ++ " " ++ b.1) ++ crlf
  if !x.opened then s
  else if x.lost = 0 && x.owed.isEmpty && outRoom x text.length then s.setSess i { x with out := x.out ++ [text] }
  else (s.setSess i { x with lost := x.lost + 1 }).bump "EVDROP_CNT" i

/-- A line from node n is complete (R83, R95): a line of a reply that is no longer awaited is discarded. -/
def State.routedLine (n msg i : Nat) (line : String) (s : State) : State :=
  if msg = 0 then s.routedEv i n line
  else match s.routed.find? fun r => r.sess = i && r.node = n && r.msg = msg with
    | none => s
    | some r =>
      let body := if r.checked then (bareLine line).1 else line
      let s1 := s.putLines i [withCheck r.checked ("@" ++ toString n ++ " " ++ body) ++ crlf]
      if lineIs "OK" line || lineIs "ER" line then
        let s2 := { s1 with routed := s1.routed.filter fun q => q ≠ r }
        (if lineIs "ER" line then s2.countRoutedErr i line else s2).settle i
      else s1

/-! ### Assembly (R465) -/

/-- The larder holds the bytes of a fragment (R222). -/
def State.fragRoom (s : State) (k : Nat) : Bool :=
  let need := ceilDiv (s.peerBytes + k) 256 - ceilDiv s.peerBytes 256
  need = 0 || s.larderGives 4 need

/-- The text of a line all of whose fragments have arrived. -/
def PeerAsm.text (a : PeerAsm) : Option (List Nat) :=
  match a.last with
  | none => none
  | some k =>
    let parts := (List.range (k + 1)).map fun i => (a.frags.find? fun f => f.1 = i).map fun f => f.2
    if parts.all Option.isSome then some (parts.filterMap id).flatten else none

/-- A fragment joins its line: the line where it is complete. -/
def State.addFrag (a typ : Nat) (d : List Nat) (s : State) : State × Option PeerAsm :=
  let msg := fld d 0 1
  let fr := fld d 1 1
  let old := (s.peer.asm.find? fun x => x.node = a && x.typ = typ && x.msg = msg).getD
    { node := a, typ := typ, msg := msg, sess := fld d 3 1 % 16, part := fld d 3 1 / 16 % 4, since := s.now }
  let new := { old with frags := (old.frags.filter fun f => f.1 ≠ fr % 128) ++ [(fr % 128, (d.drop 4).take (fld d 2 1))]
                        last := if 128 ≤ fr then some (fr % 128) else old.last }
  let rest := s.peer.asm.filter fun x => !(x.node = a && x.typ = typ && x.msg = msg)
  if new.text.isSome then ({ s with peer := { s.peer with asm := rest } }, some new)
  else ({ s with peer := { s.peer with asm := rest ++ [new] } }, none)

/-- A PHR or RPL fragment: acknowledged, once taken in (R451, R465). A reply's later lines use the same keys, so a repeat is known by its bytes as well. -/
def State.takeFrag (typ : Nat) (f : PeerIn) (d : List Nat) (line : PeerAsm → State → State) (s : State) : State :=
  let a := idSrc f.id
  let msg := fld d 0 1
  let fr := fld d 1 1
  let key := 256 * msg + fr
  let bytes := d.take (4 + fld d 2 1)
  if fr % 128 > 3 then s
  else if s.doneOf a typ key = some bytes then s.peerTo 0x12 a [msg, fr, typ]
  else if !s.fragRoom (fld d 2 1) then s.larderRefused 4
  else
    let s0 := if fr % 128 = 0 then { s with peer := { s.peer with done := s.peer.done.filter fun x => !(x.1 = a && x.2.1 = typ && x.2.2.1 / 256 = msg) } } else s
    let s1 := (s0.noteDone a typ key bytes).peerTo 0x12 a [msg, fr, typ]
    let r := s1.addFrag a typ d
    match r.2 with
    | none => r.1
    | some x => line x r.1

/-! ### The node (R83, R84) -/

/-- The line of a routed phrase as the node reads it: a route in it is E-SYNTAX (R84). -/
def readRouted (cs : List Char) : LineRead :=
  let bad := cs.any fun c => !(0x20 ≤ c.toNat && c.toNat ≤ 0x7E)
  let r := readLine cs bad false none
  match r, (tokens cs).head? with
  | .reject e t c, some w => if w.toList.head? = some '@' && 5 < errRank e.code then .reject ⟨.syntax_, some w⟩ t c else r
  | .routed _ t c _, some w => .reject ⟨.syntax_, some w⟩ t c
  | .late e t c, some w => if w.toList.head? = some '@' then .reject ⟨.syntax_, some w⟩ t c else .late e t c
  | _, _ => r

/-- The peer session of an originating device and session. -/
def State.peerSession (s : State) (a osess : Nat) : Option Nat :=
  ((List.range 8).map (· + 3)).find? fun i => (s.sessAt i).opened && (s.sessAt i).origin = some (a, osess)

/-- The session that the phrase runs in: the pair's own, or a new one in a free place (R84). -/
def State.openPeer (a osess : Nat) (s : State) : State × Option Nat :=
  match s.peerSession a osess with
  | some i => (s, some i)
  | none => match ((List.range 8).map (· + 3)).find? fun i => !(s.sessAt i).opened with
    | none => (s, none)
    | some i =>
      let s1 := s.openSession i
      (s1.setSess i { s1.sessAt i with origin := some (a, osess) }, some i)

/-- A phrase is complete at the node (R83, R84): its session is bound to the partition it carries, and the phrase queued; a ninth pair draws E-BUSY. -/
def State.routedPhrase (x : PeerAsm) (s : State) : State :=
  let read := readRouted ((x.text.getD []).map Char.ofNat)
  let r := s.openPeer x.node x.sess
  match r.2 with
  | none => match entryOf read with
    | none => s
    | some q => s.sendLine 0x11 x.node x.msg x.sess x.part (String.ofList ((erLine ⟨.busy, none⟩ (entryTag q).1 (entryTag q).2).toList.filter fun c => 32 ≤ c.toNat))
  | some i =>
    let s1 := r.1
    let s2 := if (s1.sessAt i).part = x.part then s1 else s1.endWatches i
    let y := s2.sessAt i
    let held := s2.heldBy i
    (s2.setSess i { y with part := x.part, msgs := if held = 0 then [x.msg] else y.msgs ++ [x.msg], lastUse := s2.now }).enqueue i read

/-- PHR_FRAME_RECEIVED (R83, R84, R465). -/
def execPhrFrameReceived (f : PeerIn) (s : State) : Host.Outcome State Fault Refusal :=
  let r := s.peerRx 0x10 f
  match r.2 with
  | none => .next r.1
  | some d => .next (r.1.takeFrag 0x10 f d State.routedPhrase)

/-- RPL_FRAME_RECEIVED (R83, R95, R465): any RPL is a sign of life of its node. -/
def execRplFrameReceived (f : PeerIn) (s : State) : Host.Outcome State Fault Refusal :=
  let r := s.peerRx 0x11 f
  match r.2 with
  | none => .next r.1
  | some d =>
    let a := idSrc f.id
    let s1 := { r.1 with routed := r.1.routed.map fun (q : Routed) => if q.node = a then { q with since := r.1.now } else q }
    .next (s1.takeFrag 0x11 f d fun x st => st.routedLine a x.msg x.sess (String.ofList ((x.text.getD []).map Char.ofNat)))

/-- ACK_FRAME_RECEIVED (R451, R465). -/
def execAckFrameReceived (f : PeerIn) (s : State) : Host.Outcome State Fault Refusal :=
  let r := s.peerRx 0x12 f
  match r.2 with
  | none => .next r.1
  | some d => .next (r.1.dropWait (idSrc f.id) [fld d 2 1] (256 * fld d 0 1 + fld d 1 1))

/-- PHR_FRAGMENT_TIMEOUT (R465): 100 ms after its first fragment an incomplete line is discarded. -/
def execPhrFragmentTimeout (node msg : Nat) (s : State) : Host.Outcome State Fault Refusal :=
  match s.peer.asm.find? fun x => x.node = node && x.msg = msg with
  | none => .next s
  | some x =>
    let s1 := s.advanceTo (x.since + 100 * nsMs)
    .next { s1 with peer := { s1.peer with asm := s1.peer.asm.filter fun y => y ≠ x } }

/-! ### Output space (R73, R83) -/

/-- The next line of a peer session leaves as RPL frames, under the MSG of the phrase it answers, or 0 for an EV line (Table PEER-3); its line before it is acknowledged first. -/
def State.peerDrain (i : Nat) (s : State) : State :=
  let x := s.sessAt i
  match x.out, x.origin with
  | l :: ls, some (a, osess) =>
    let line := String.ofList (l.toList.filter fun c => 32 ≤ c.toNat)
    let ev := lineIs "EV" line
    let msg := if ev then 0 else x.msgs.headD 0
    if s.peer.state ≠ 1 || (s.peer.waits.any fun w => w.typ = 0x11 && w.dst = a && w.key / 256 = msg) then s
    else
      let done := lineIs "OK" line || lineIs "ER" line
      let s1 := s.setSess i { x with out := ls, msgs := if done then x.msgs.drop 1 else x.msgs }
      (s1.sendLine 0x11 a msg osess x.part line).afterDrain i
  | _, _ => s

/-- OUTPUT_SPACE_RETURN (R73): `n` characters have left the output queue of S0 or S1 through its UART; a peer session's next line leaves as frames; S2's bytes leave
with SPI transfers. -/
def execOutputSpaceReturn (sess n : Nat) (s : State) : Host.Outcome State Fault Refusal :=
  .next (if sess < 3 then s.portDrain sess n else if (s.sessAt sess).opened then s.peerDrain sess else s)

end Sys2Proof.Machine
end

