-- ==== Sys2Proof/Machine/Pins.lean ====
section
/-!
DEFINITION. Sys2Proof/Machine/Pins.lean: the rows of the pins (16_pins.md) but those of the OUT and EVT registers, and what PIN shows.
-/
namespace Sys2Proof.Machine

/-! ### SET (R546 to R550, R555, R559, R562) -/

/-- The function names a SET of FUNC gives. -/
def newFuncs (v : String) : List String := if upper v = "NONE" then [] else splitStr ',' (upper v)

/-- What SET PIN.k FUNC finds (R546 to R548, R568). -/
def State.funcSetErrs (s : State) (k : Nat) (p : Phrase) : List Err :=
  match p.value "FUNC" with
  | none => []
  | some v =>
    let new := newFuncs v
    if !(new.all fun f => (pinFuncs.any fun r => r.1 = f)) then []
    else
      let old := s.funcsOf k
      let diff := (new.filter fun f => !old.contains f) ++ old.filter fun f => !new.contains f
      let taken := new.find? fun f => match s.funcPin f with
        | some j => j ≠ k
        | none => false
      let sole := new.any fun f => f = "SPIDO" || (funcRow f).1 = 2
      let outs := (new.eraseDups.filter fun f => (funcRow f).1 ≠ 0).length
      errIf (diff.any fun f => s.nounRetired (funcUnit f).1 (funcUnit f).2) .retired
        ++ errIf (new.any fun f => s.funcOwner f ≠ s.owner .pin k) .owner
        ++ (match taken with
          | some f => [⟨.attr, some f⟩]
          | none => [])
        ++ errIf (sole && 1 < outs) .attr (p.tok "FUNC")
        ++ errIf ((new.any fun f => !(funcRow f).2.contains k) || 8 < new.eraseDups.length) .range (p.tok "FUNC")
        ++ errIf (diff.any fun f => s.portInUse (funcUnit f)) .state

/-- One attribute of SET PIN takes effect; IRQ=NONE clears the flag and drops a pending line (R559). -/
def pinSetAttr (k : Nat) (a : AttrTok) (s : State) : State :=
  if a.name = "LEVEL" && (a.value.map upper) = some "TOGGLE" then
    s.store .pin k "" "LEVEL" (.w (if s.word .pin k "LEVEL" = "HIGH" then "LOW" else "HIGH"))
  else
    let s1 := match (specFind a.name pinAttrs).bind (fun x => a.value.bind (parseVal x.form)) with
      | some v => s.store .pin k "" a.name v
      | none => s
    if a.name = "IRQ" && (a.value.map upper) = some "NONE" then s1.setPin k { s1.pinAt k with evt := false, since := 0 } else s1

/-- SET PIN (R562). -/
def pinSet (sess : Nat) (ph : Phrase) (s : State) : Ans :=
  perInst sess ph (fun k s =>
    Ans.eff (s.unitErrs sess ph .pin (some k) ++ setAttrErrs pinAttrs (s.sessAt sess).super ph ++ s.funcSetErrs k ph
        ++ errIf (s.pinlock && s.owner .pin k = secureOwner) .locked (ph.attrs.head?.map AttrTok.tok)
        ++ errIf ((ph.has "TYPE" || ph.has "DRIVE" || ph.has "PULL") && s.pinBusy k) .state)
      fun s => overList ph.attrs (pinSetAttr k) s) s

/-- SET_PIN_FUNC (R546). -/
def execSetPinFunc (sess : Nat) (ph : Phrase) (s : State) : Host.Outcome State Fault Refusal :=
  .next (runRow "SET_PIN_FUNC" sess ph (pinSet sess ph) s)

/-! ### Events of a pin (R544, R557, R558, R565, R570) -/

/-- The level condition of a pin holds. -/
def State.levelHolds (s : State) (k : Nat) : Bool :=
  (s.word .pin k "IRQ" = "HIGH" && (s.pinAt k).val) || (s.word .pin k "IRQ" = "LOW" && !(s.pinAt k).val)

/-- The EDGE line. -/
def State.edgeLine (k : Nat) (high : Bool) (ts cnt : Nat) (s : State) : State :=
  (s.setPin k { s.pinAt k with lineAt := some s.now, since := 0 }).ev "PIN" (s.pinDest k)
    ("PIN." ++ toString k ++ " EDGE dir=" ++ (if high then "RISE" else "FALL") ++ " ts=" ++ toString ts ++ " cnt=" ++ toString cnt)

/-- The instant at which EVMIN ends after the last line. -/
def State.evminEnd (s : State) (k : Nat) : Option Nat := (s.pinAt k).lineAt.map (· + s.ns .pin k "EVMIN")

/-- The line that carries the edges counted within EVMIN, once it ends, which is no later than `t`. -/
def State.edgeFlush (k t : Nat) (s : State) : State :=
  let x := s.pinAt k
  match s.evminEnd k with
  | some d => if 0 < x.since && d ≤ t then (s.advanceTo d).edgeLine k x.lastHigh x.lastTs x.since else s
  | none => s

/-- An edge on the condition that the pin watches (R557); one in the clock in which EVMIN ends has its own line (R565). -/
def State.pinCounted (k : Nat) (high : Bool) (s : State) : State :=
  let s0 := s.edgeFlush k s.now
  let flushed := 0 < (s.pinAt k).since && (s0.pinAt k).since = 0
  let x := s0.pinAt k
  let s1 := s0.setPin k { x with evt := true, ecnt := (x.ecnt + 1) % 2 ^ 32, lastTs := s0.now, lastHigh := high }
  let free := match s0.evminEnd k with
    | some d => decide (d ≤ s0.now) || (flushed && x.lineAt = some s0.now)
    | none => true
  if free then s1.edgeLine k high s1.now 1 else s1.setPin k { s1.pinAt k with since := (s1.pinAt k).since + 1 }

/-- A level condition sets the flag, with one line per episode (R558). -/
def State.pinLevelSeen (k : Nat) (s : State) : State :=
  let x := s.pinAt k
  if s.levelHolds k && !x.evt then
    (s.setPin k { x with evt := true }).ev "PIN" (s.pinDest k)
      ("PIN." ++ toString k ++ " LEVEL level=" ++ s.word .pin k "IRQ" ++ " ts=" ++ toString s.now)
  else s

/-- The synchronised value becomes `high`. -/
def State.pinSees (k : Nat) (high : Bool) (s : State) : State :=
  let x := s.pinAt k
  let s1 := s.setPin k { x with val := high }
  let irq := s.word .pin k "IRQ"
  if x.val = high then s1.pinLevelSeen k
  else if irq = "BOTH" || (irq = "RISE" && high) || (irq = "FALL" && !high) then s1.pinCounted k high
  else s1.pinLevelSeen k

/-- PIN_EDGE (R557): an edge of the synchronised value, after FILTER; none in a bank that is DOWN. -/
def execPinEdge (k ts : Nat) (high : Bool) (s : State) : Host.Outcome State Fault Refusal :=
  let s0 := s.advanceTo ts
  if 64 ≤ k || s0.bankDown (bankOf k) then .next s0 else .next (s0.pinSees k high)

/-- PIN_EVMIN_END (R557). -/
def execPinEvminEnd (k : Nat) (s : State) : Host.Outcome State Fault Refusal :=
  .next (s.edgeFlush k ((s.evminEnd k).getD 0))

/-- PIN_LEVEL (R558): the synchronised value as the level condition sees it. -/
def execPinLevel (k ts : Nat) (high : Bool) (s : State) : Host.Outcome State Fault Refusal :=
  let s0 := s.advanceTo ts
  if 64 ≤ k || s0.bankDown (bankOf k) then .next s0 else .next (s0.pinSees k high)

/-- EV PIN BANK and its record (R544, R563). -/
def State.bankNote (b : Nat) (up : Bool) (s : State) : State :=
  let ps := ((List.range 4).filter fun o => (List.range 16).any fun j => s.owner .pin (16 * b + j) = o)
  (s.ev "PIN" (.to ps true) ("PIN BANK bank=" ++ bankName b ++ " state=" ++ (if up then "UP" else "DOWN"))).service 0x020A 40 255 255 4
    [b, if up then 1 else 0]

/-- PIN_BANK_DOWN (R544): the inputs hold their levels. -/
def execPinBankDown (b : Nat) (s : State) : Host.Outcome State Fault Refusal :=
  if 4 ≤ b || s.bankDown b then .next s
  else .next (({ s with pins := { s.pins with down := insertNat b s.pins.down } }).bankNote b false)

/-- PIN_BANK_UP (R544, R570): edges are recognised against the levels held. -/
def execPinBankUp (b : Nat) (levels : List Bool) (s : State) : Host.Outcome State Fault Refusal :=
  if !s.bankDown b then .next s
  else
    let s1 := ({ s with pins := { s.pins with down := s.pins.down.filter (· ≠ b) } }).bankNote b true
    .next (overList (List.range 16) (fun j a => a.pinSees (16 * b + j) (levels.getD j (a.pinAt (16 * b + j)).val)) s1)

/-- The flag of pin k is cleared, unless its level persists (R558). -/
def State.evtClear (k : Nat) (s : State) : State := if s.levelHolds k then s else s.setPin k { s.pinAt k with evt := false }

/-- RESET_PIN (R562). -/
def execResetPin (sess : Nat) (ph : Phrase) (s : State) : Host.Outcome State Fault Refusal :=
  .next (runRow "RESET_PIN" sess ph (fun s => perInst sess ph (fun k s =>
    Ans.eff (s.unitErrs sess ph .pin (some k) ++ extraAttrs ph [])
      fun s => (s.evtClear k).setPin k { (s.evtClear k).pinAt k with ecnt := 0 }) s) s)

/-- A read-only attribute of PIN. -/
def State.pinRead (s : State) (k : Nat) (name : String) : String :=
  let x := s.pinAt k
  if name = "OWNER" then (if s.owner .pin k = secureOwner then "SECURE" else toString (s.owner .pin k))
  else if name = "IN" then (if x.val then "HIGH" else "LOW")
  else if name = "EVT" then yesNo x.evt
  else if name = "ECNT" then toString x.ecnt
  else if s.bankDown (bankOf k) then "DOWN" else "UP"

end Sys2Proof.Machine
end

