-- ==== Sys2Proof/Machine/Profiles.lean ====
section
/-!
DEFINITION. Sys2Proof/Machine/Profiles.lean: the profiles of the pantry (R15, R100, R225 to R229, R234).
-/
namespace Sys2Proof.Machine

/-- The owner of what a stored attribute configures: a partition or SECURE; none for a device unit (R97, R99). -/
def State.keyOwner (s : State) (k : CKey) : Option Nat :=
  match k.noun with
  | .map => if k.name = "ORGLAT" || k.name = "ORGLON" then none else some (s.layerOwner k.idx)
  | .gnss => if k.name = "OUT" || k.name = "COPY" then some k.idx else none
  | .fault => if k.name = "HBTIME" then some k.idx else none
  | .grant => none
  | n => if ownable n (some k.idx) then some (s.owner n k.idx) else none

/-- A profile holds every stored attribute but the field origin (R226). -/
def inProfile (k : CKey) : Bool := !(k.noun = .map && (k.name = "ORGLAT" || k.name = "ORGLON"))

/-- The profile that SAVE PROFILE writes (R226). -/
def State.snapshot (s : State) (name : String) : Profile :=
  { name := name, cfg := s.cfg.filter fun e => inProfile e.1, own := s.own, variant := variantCode s.power.variant, hours := s.hours }

/-- The slot of a profile. -/
def State.slot (s : State) (n : Nat) : Option Profile := Tab.get none s.pantry.slots n
def State.setSlot (n : Nat) (p : Option Profile) (s : State) : State := { s with pantry := { s.pantry with slots := Tab.set none s.pantry.slots n p } }

/-- SAVE_PROFILE (R226, R227). -/
def execSaveProfile (sess : Nat) (ph : Phrase) (s : State) : Host.Outcome State Fault Refusal :=
  .next (runRow "SAVE_PROFILE" sess ph (fun s => perInst sess ph (fun n s =>
    Ans.eff (s.accessErr sess .save .profile none ++ extraAttrs ph ["NAME"] ++ optAttr ph "NAME" (.text 16))
      fun s => s.setSlot n (some (s.snapshot ((ph.value "NAME").getD "")))) s) s)

/-- RESET_PROFILE (R234). -/
def execResetProfile (sess : Nat) (ph : Phrase) (s : State) : Host.Outcome State Fault Refusal :=
  .next (runRow "RESET_PROFILE" sess ph (fun s => perInst sess ph (fun n s =>
    Ans.eff (s.accessErr sess .reset .profile none ++ extraAttrs ph []) (State.setSlot n none)) s) s)

/-- SET_PROFILE_BOOT (R229). -/
def execSetProfileBoot (sess : Nat) (ph : Phrase) (s : State) : Host.Outcome State Fault Refusal :=
  .next (runRow "SET_PROFILE_BOOT" sess ph (fun s =>
    Ans.eff (s.accessErr sess .set .profile none ++ setAttrErrs (profileAttrs ph.ix.isSome) (s.sessAt sess).super ph)
      fun s => { s with pantry := { s.pantry with boot := (attrInt ph "BOOT" 0 7).map Int.toNat } }) s)

/-! ### Applying a profile (R15, R100, R102, R228) -/

/-- The configuration that a profile brings, for the attributes that `f` selects. -/
def State.profileCfg (s : State) (p : Profile) (f : CKey → Bool) : AMap CKey Val :=
  (s.cfg.filter fun e => !f e.1) ++ p.cfg.filter fun e => f e.1

/-- The value of a stored attribute in a configuration. -/
def cfgVal (c : AMap CKey Val) (k : CKey) : Val := (c.find k).getD (dfltOf k.noun k.idx k.sub k.name)

/-- The attributes that change from one configuration to another. -/
def changedKeys (c d : AMap CKey Val) : List CKey := ((c.map Prod.fst) ++ d.map Prod.fst).filter fun k => decide (cfgVal c k ≠ cfgVal d k)

/-- The units whose owner differs between two maps. -/
def movedUnits (a b : AMap (Noun × Nat) Nat) : List (Noun × Nat) :=
  ((a.map Prod.fst) ++ b.map Prod.fst).filter fun u => decide ((a.find u).getD 0 ≠ (b.find u).getD 0)

/-- The unit a binding names, as noun and number. -/
def boundUnit (v : Val) : Option (Noun × Nat) :=
  match v with
  | .l [2, n] => some (.chan, n)
  | .l [3, n] => some (.pair, n)
  | .l [4, n] => some (.gdr, n)
  | _ => none

/-- The first absent unit that a profile names: one that it stores an attribute or an owner for, or binds (R15). -/
def State.profileAbsent (s : State) (p : Profile) : Option (Noun × Nat) :=
  let us := p.cfg.map (fun e => (e.1.noun, e.1.idx)) ++ p.cfg.filterMap (fun e => if e.1.noun = .sec || e.1.noun = .prod then boundUnit e.2 else none)
    ++ p.own.map Prod.fst
  us.find? fun u => s.nounAbsent u.1 u.2

/-- A change that what SET allows forbids now (R118, R204, R228, R232, R548): of a device function that runs, or of a map layer in use. -/
def State.keyBusy (s : State) (k : CKey) : Bool :=
  match k.noun with
  | .map => s.tilesIn (· = k.idx) ≠ 0
  | .gnss => s.gnss.running && k.name ≠ "OUT" && k.name ≠ "COPY"
  | .peer => s.peer.state ≠ 0
  | .trace => s.trace.running && k.name ≠ "LEVEL"
  | .log => (List.range 4).any fun n => (s.implAt n).running
  | .pin => ["FUNC", "TYPE", "DRIVE", "PULL"].contains k.name && s.pinBusy k.idx
  | _ => false

/-- The ports of Table HST-1 that ENABLE switches. -/
def enablePorts : List (Noun × Nat) := [(.uart, 0), (.uart, 2), (.spi, 0), (.i2c, 0), (.i2c, 1)]

/-- Ports follow their stored settings after a load, and settings that wait for R523 wait for `sess`. -/
def State.portsFollow (old : State) (sess : Nat) (s : State) : State :=
  let s1 := overList [((.uart : Noun), 0), (.uart, 1), (.uart, 2), (.spi, 0), (.i2c, 0), (.i2c, 1)] (fun u a =>
    let ch (n : String) : Bool := decide (old.val u.1 u.2 n ≠ a.val u.1 u.2 n)
    if waitingAttrs.any ch then a.portWaits u.1 u.2 sess (framingAttrs.any ch) else a) s
  overList enablePorts (fun u a =>
    match old.isOn u.1 u.2 "ENABLE", a.isOn u.1 u.2 "ENABLE" with
    | false, true => a.portEnable u.1 u.2
    | true, false => a.portDisable u.1 u.2
    | _, _ => a) s1

/-- The errors of a whole load: absent units, ports without their functions, locks, and with `stopped` the STOPPED tests (R15, R102, R104, R228). -/
def State.wholeErrs (s : State) (p : Profile) (stopped : Bool) : List Err :=
  let cfg := s.profileCfg p inProfile
  let after := { s with cfg := cfg, own := p.own }
  let keys := changedKeys s.cfg cfg
  let moved := movedUnits s.own p.own
  let secure := moved.any fun u => u.1 = .pin && (s.owner .pin u.2 = secureOwner || after.owner .pin u.2 = secureOwner)
  let units := moved.any fun u => !(u.1 = .pin && (s.owner .pin u.2 = secureOwner || after.owner .pin u.2 = secureOwner))
  (match s.profileAbsent p with
    | some u => [⟨.absent, some (nounWord u.1 ++ "." ++ toString u.2)⟩]
    | none => [])
    ++ (enablePorts.map fun u => if after.isOn u.1 u.2 "ENABLE" && !s.isOn u.1 u.2 "ENABLE" then
        after.funcErrs (portFuncs u.1 u.2 (after.word .uart 2 "MODE" = "RAW")) [] else []).flatten
    ++ errIf ((s.ownlock && (units || secure)) || (s.pinlock && (secure || keys.any fun k => k.noun = .pin && s.owner .pin k.idx = secureOwner))) .locked
    ++ errIf (stopped && ((keys.any fun k => (match s.keyOwner k with
        | some o => !s.ownerStopped o
        | none => false) || s.keyBusy k) || moved.any fun u => !s.mayMove u.1 u.2 (after.owner u.1 u.2))) .state

/-- The profile is applied whole: configuration, then owners. -/
def State.applyWhole (p : Profile) (s : State) : State :=
  let moved := movedUnits s.own p.own
  overList moved (fun u a => a.giveUnit u.1 u.2 ((p.own.find u).getD 0)) { s with cfg := s.profileCfg p inProfile }

/-- The ownable units present, of an owner or of all. -/
def State.unitCount (s : State) (o : Option Nat) : Nat :=
  (ownClasses.map fun c => ((List.range c.2.2).filter fun i => !s.nounAbsent c.2.1 i && (match o with
    | some n => s.owner c.2.1 i = n
    | none => true)).length).sum

/-- LOAD_PROFILE (R228): whole in the supervisor role; the units of the session's partition in the partition role. -/
def execLoadProfile (sess : Nat) (ph : Phrase) (s : State) : Host.Outcome State Fault Refusal :=
  .next (runRow "LOAD_PROFILE" sess ph (fun s => perInst sess ph (fun n s =>
    let x := s.sessAt sess
    let bad := extraAttrs ph [] ++ errIf (match s.slot n with
      | some p => p.corrupt
      | none => true) .state
    match s.slot n with
    | none => { errs := bad }
    | some p =>
      if x.super then
        { errs := bad ++ s.wholeErrs p true
          act := fun s => (State.portsFollow s sess (s.applyWhole p), [[("applied", toString (s.unitCount none))]]) }
      else
        let mine (k : CKey) : Bool := inProfile k && s.keyOwner k = some x.part
        { errs := bad ++ errIf (!(movedUnits s.own p.own).isEmpty) .auth
            ++ (match s.profileAbsent { p with cfg := p.cfg.filter fun e => mine e.1, own := [] } with
              | some u => [⟨.absent, some (nounWord u.1 ++ "." ++ toString u.2)⟩]
              | none => [])
            ++ errIf (!s.ownerStopped x.part || (changedKeys s.cfg (s.profileCfg p mine)).any s.keyBusy) .state
          act := fun s => ({ s with cfg := s.profileCfg p mine }, [[("applied", toString (s.unitCount (some x.part)))]]) }) s) s)

/-- The boot profile is applied as in the supervisor role without the STOPPED test, or refused with EV PROFILE BOOTFAIL and a record (R229). -/
def State.bootProfile (s : State) : State :=
  match s.pantry.boot with
  | none => s
  | some n =>
    let err : Option Err := match s.slot n with
      | none => some ⟨.state, none⟩
      | some p => pickErr (errIf p.corrupt .state ++ s.wholeErrs p false)
    match err, s.slot n with
    | none, some p => s.applyWhole p
    | some e, _ => (s.ev "CEL" toSuper ("PROFILE BOOTFAIL slot=" ++ toString n ++ " code=" ++ ecodeWord e.code)).service 0x0209 0 255 255 4 [n, ecodeRow e.code]
    | _, _ => s

/-- An attribute of PROFILE (R229, R234). -/
def State.profileRead (s : State) (ix : Option Nat) (name : String) : String :=
  match ix with
  | none => numOrNone s.pantry.boot
  | some n =>
    match s.slot n with
    | none => if name = "STATE" then "EMPTY" else if name = "NAME" then "NONE" else if name = "VARIANT" then showHex 8 0 else "0"
    | some p =>
      if name = "STATE" then (if p.corrupt then "CORRUPT" else "VALID")
      else if name = "NAME" then (if p.name = "" then "NONE" else p.name)
      else if name = "VARIANT" then showHex 8 p.variant
      else toString p.hours

end Sys2Proof.Machine
end

