-- ==== Sys2Proof/Machine/Traces.lean ====
section
/-!
DEFINITION. Sys2Proof/Machine/Traces.lean: the rows of the trace stream, and what TRACE shows (17_attic_time.md, R594 to R597, R600).
-/
namespace Sys2Proof.Machine

/-- A line of more than 200 characters is cut at the last whole key that fits, and ends with cut=YES (R595). -/
def cutLine (t : String) : String :=
  if t.length ≤ 200 then t
  else
    let kept := (tokens t.toList).foldl (fun (acc : String × Bool) w =>
      let next := if acc.1 = "" then w else acc.1 ++ " " ++ w
      if acc.2 && next.length + 8 ≤ 200 then (next, true) else (acc.1, false)) ("", true)
    kept.1 ++ " cut=YES"

/-- The bytes of the trace ring (R594). -/
def ringBytes (l : List (Nat × String)) : Nat := (l.map fun p => p.2.length).sum

/-- Oldest lines give way until the ring fits. -/
def dropOver (max : Nat) : List (Nat × String) → Nat → List (Nat × String) × Nat
  | [], k => ([], k)
  | x :: xs, k => if ringBytes (x :: xs) ≤ max then (x :: xs, k) else dropOver max xs (k + 1)

/-- A line leaves: it takes its number, and goes to UART2 or into the ring (R594, R595). -/
def State.traceSend (l : TLine) (s : State) : State :=
  let tr := s.trace
  let text := cutLine ("T " ++ toString tr.tseq ++ " " ++ toString (l.t / 1000) ++ " " ++ l.text)
  let s1 := { s with trace := { tr with tseq := (tr.tseq + 1) % 65536 } }
  if s.word .trace 0 "DEST" = "CELLAR" then
    let inst := if 4294967295 ≤ tr.ringInst then 1 else tr.ringInst + 1
    let r := dropOver (s.nat .trace 0 "TRACESIZE" * 1048576) (tr.ring ++ [(inst, text ++ crlf)]) 0
    { s1 with trace := { s1.trace with ring := r.1, ringInst := inst } }.bumpBy "RINGOVR_CNT" 0 r.2
  else s1.setUart 2 { s1.uartAt 2 with wire := (s1.uartAt 2).wire ++ [text ++ crlf] }

/-- Lines may leave: UART2 runs in MODE=TRACE and is not paused, or the PSRAM is ready. -/
def State.traceGoes (s : State) : Bool :=
  s.trace.running && (if s.word .trace 0 "DEST" = "UART2" then s.uartRuns 2 && s.word .uart 2 "MODE" = "TRACE" && !(s.uartAt 2).paused
    else s.word .trace 0 "DEST" = "CELLAR" && s.psReady)

/-- TRACE_LINE_OUT (R595, R596): the oldest line leaves, after a LOST line where lines were dropped. -/
def execTraceLineOut (s : State) : Host.Outcome State Fault Refusal :=
  match s.trace.queue with
  | [] => .next s
  | l :: rest =>
    if !s.traceGoes then .next s
    else
      let s0 := s.setUart 2 { s.uartAt 2 with wire := [] }
      let s1 := { s0 with trace := { s.trace with queue := rest, lost := 0 } }
      .next ((if s.trace.lost = 0 then s1 else s1.traceSend { t := s.now, text := "TRACE LOST count=" ++ toString s.trace.lost }).traceSend l)

/-- START_TRACE (R594, R600). -/
def execStartTrace (sess : Nat) (ph : Phrase) (s : State) : Host.Outcome State Fault Refusal :=
  .next (runRow "START_TRACE" sess ph (fun s =>
    Ans.eff (s.unitErrs sess ph .trace none ++ extraAttrs ph []
        ++ errIf (s.trace.running || (s.word .trace 0 "DEST" = "UART2" && s.word .uart 2 "MODE" ≠ "TRACE")) .state)
      fun s => { s with trace := { tseq := s.trace.tseq, running := true } }) s)

/-- STOP_TRACE (R600): what waits is discarded (DESIGN CHOICE). -/
def execStopTrace (sess : Nat) (ph : Phrase) (s : State) : Host.Outcome State Fault Refusal :=
  .next (runRow "STOP_TRACE" sess ph (fun s =>
    Ans.eff (s.unitErrs sess ph .trace none ++ extraAttrs ph []) fun s => { s with trace := { s.trace with running := false, queue := [], lost := 0 } }) s)

/-- A line of the ring as keys (R600). -/
def ringKeys (p : Nat × String) : KVs :=
  match tokens ((p.2.toList).filter fun c => 32 ≤ c.toNat) with
  | _ :: q :: t :: noun :: word :: rest =>
    [("inst", toString p.1), ("tseq", q), ("t", t), ("noun", noun), ("word", word)] ++ rest.map fun k => match splitStr '=' k with
      | a :: b => (a, joinWith "=" b)
      | [] => (k, "")
  | _ => [("inst", toString p.1)]

/-- GET_TRACE (R600). -/
def execGetTrace (sess : Nat) (ph : Phrase) (s : State) : Host.Outcome State Fault Refusal :=
  .next (runRow "GET_TRACE" sess ph (fun s =>
    Ans.read (extraAttrs ph ["COUNT"] ++ optAttr ph "COUNT" (.int 1 32) ++ errIf s.trace.ring.isEmpty .notready)
      fun s => (s.trace.ring.take ((attrInt ph "COUNT" 1 32).getD 1).toNat).map ringKeys) s)

/-- RESET_TRACE (R600): `inst` counts modulo 2^32 − 1, so a line is removed when it stands at or before the one named. -/
def execResetTrace (sess : Nat) (ph : Phrase) (s : State) : Host.Outcome State Fault Refusal :=
  .next (runRow "RESET_TRACE" sess ph (fun s =>
    Ans.eff (s.unitErrs sess ph .trace none ++ extraAttrs ph ["UPTO"] ++ optAttr ph "UPTO" (.int 1 4294967295))
      fun s => { s with trace := { s.trace with ring := match attrInt ph "UPTO" 1 4294967295 with
        | none => []
        | some k => if s.trace.ring.any fun p => p.1 = k.toNat then (s.trace.ring.dropWhile fun p => p.1 ≠ k.toNat).drop 1
            else s.trace.ring.dropWhile fun p => p.1 ≤ k.toNat } }) s)

/-- The device decides to enter STANDBY (R597). -/
def State.traceSleep (s : State) : State :=
  if s.trace.running && s.word .trace 0 "DEST" ≠ "NONE" then
    { s with trace := { s.trace with asleep := some s.now, queue := { t := s.now, text := "TRACE SLEEP systime=" ++ toString s.now } :: s.trace.queue } }
  else s

/-- What the flush did not send is dropped and counted (R597). -/
def State.traceFlushed (s : State) : State :=
  let k := s.trace.queue.length
  { s with trace := { s.trace with queue := [], dropped := k } }.bumpBy "TRLOST_CNT" 0 k

/-- TRACE_SLEEP_FLUSH_END (R597): 2 ms after the SLEEP line. -/
def execTraceSleepFlushEnd (s : State) : Host.Outcome State Fault Refusal :=
  match s.trace.asleep with
  | some t => if s.power.dstate = .shutdown then .next (s.advanceTo (t + 2 * nsMs)).traceFlushed else .next s
  | none => .next s

/-- The first line after the wake (R597, R609). -/
def State.traceWake (s : State) : State :=
  match s.trace.asleep with
  | none => s
  | some t =>
    let text := "TRACE WAKE sleep=" ++ toString ((s.now - t) / 1000) ++ " dropped=" ++ toString s.trace.dropped ++ " rtc=" ++ (if s.times.rtcRC then "RC" else "XTAL")
    { s with trace := { s.trace with asleep := none, dropped := 0, queue := s.trace.queue ++ [{ t := s.now, text := text }] } }

/-- SET of TRACE (R594, R600): LEVEL is run-time; the regions of the PSRAM hold the ring (R204). -/
def traceSet (sess : Nat) (ph : Phrase) (s : State) : Ans :=
  let dest := (s.newVal ph traceAttrs .trace 0 "DEST").word
  let size := (s.newVal ph traceAttrs .trace 0 "TRACESIZE").int.toNat
  let only := ph.attrs.all fun a => a.name = "LEVEL"
  Ans.eff (s.unitErrs sess ph .trace none ++ setAttrErrs traceAttrs (s.sessAt sess).super ph
      ++ (s.regionErrs (s.val .cellar 0 "PSRAM") (s.nat .cellar 0 "COVSIZE") (s.nat .cellar 0 "RXSIZE") (s.nat .cellar 0 "STAGESIZE") size dest).map (fun e => { e with at_ := regionTok ph })
      ++ errIf (s.trace.running && !only) .state)
    (storeAttrs traceAttrs .trace 0 "" ph)

def State.traceRead (s : State) (name : String) : String :=
  if name = "STATE" then (if s.trace.running then "RUNNING" else "STOPPED") else toString (s.cnt "TRLOST_CNT")

end Sys2Proof.Machine
end

