-- ==== Sys2Proof/Machine/Power.lean ====
section
/-!
DEFINITION. Sys2Proof/Machine/Power.lean: rails, shutdown, resets, BOOT, STANDBY and wake, and what POWER shows (18_power_start.md, R612 to R641).
-/
namespace Sys2Proof.Machine

/-! ### Rails (R612 to R615, R638, R639) -/

def railWord : RailState → String
  | .ok => "OK" | .crank => "CRANK" | .uv => "UV" | .ov => "OV"
def railCode : RailState → Nat
  | .ok => 0 | .crank => 1 | .uv => 2 | .ov => 3
def railOf : RailIn → RailState
  | .ok => .ok | .crank => .crank | .uv => .uv | .ov => .ov

/-- The units of a die. -/
def State.dieUnits (s : State) (b : Bool) : List Nat := (List.range 56).filter fun u => s.unitPresent u && unitDieB u = b

/-- EV POWER RAIL of a drive rail (R615). -/
def State.railEv (b : Bool) (st : RailState) (mv : Nat) (s : State) : State :=
  s.ev "PWR" (.to ((List.range 4).filter fun n => (s.dieUnits b).any fun u => s.unitOwner u = n) true)
    ("POWER RAIL rail=" ++ (if b then "VDRVB" else "VDRVA") ++ " state=" ++ railWord st ++ " mv=" ++ toString mv)

/-- CRANK: units in a non-hold phase move to their hold phase, and what waits for a grant is refused (Table PWR-2, R614, R638). -/
def crankUnit (u : Nat) (s : State) : State :=
  let s1 := s.waitingRefused u
  let x := s1.unitAt u
  let n := (s1.phases u).length
  if x.on && x.phase + 1 < n then s1.enterPhase u (n - 1) else s1

/-- UV: the unit is switched off with its running phase's OFF mode, and stays off until a new switch-on (R613, R614). -/
def uvUnit (u : Nat) (s : State) : State :=
  let s1 := s.waitingRefused u
  let x := s1.unitAt u
  let on := x.on || x.enabled
  let s2 := ((s1.setUnit u { x with held := false, enabled := false, retryAt := none, railHold := x.railHold || on }).offSwitch u).dropGrants u
  if on then s2.directOffState u else s2

/-- OV: the unit takes its safe state (R383, R613). -/
def ovUnit (u : Nat) (s : State) : State :=
  let s1 := s.waitingRefused u
  let x := s1.unitAt u
  let on := x.on || x.enabled
  let s2 := s1.unitSafe u false
  let y := s2.unitAt u
  let s3 := s2.setUnit u { y with railHold := y.railHold || !x.safe }
  if on && !y.held then s3.directOffState u else s3

/-- OK: a HOLDLAST unit leaves the safe state that the rail put it into, and a directly operated one whose switch-on the rail prevented asks anew (R614). -/
def okUnit (u : Nat) (s : State) : State :=
  let x := s.unitAt u
  let s1 := if x.railHold && x.safe then s.setUnit u { x with safe := false, held := false } else s
  let y := s1.unitAt u
  let due := y.direct && s1.word (unitNoun u) (unitIx u) "STATE" = "ON" && !y.on && !y.enabled && !y.safe && y.waiting.isNone && y.retryAt.isNone && !y.retired && !s1.safenLow
  if due then s1.directOn u else s1

/-- RAIL_STATE_CHANGE (R613, R615): SAFEN low overrides the rail for the channels (R639). -/
def execRailStateChange (dieB : Bool) (state : RailIn) (mv : Nat) (s : State) : Host.Outcome State Fault Refusal :=
  let st := railOf state
  let old := if dieB then s.power.railB else s.power.railA
  if (dieB && !s.hasDieB) || !s.awake || old = st || (st = .crank && old ≠ .ok) then .next s
  else
    let s1 : State := { s with power := if dieB then { s.power with railB := st, vdrvB := mv } else { s.power with railA := st, vdrvA := mv } }
    let s2 := s1.railEv dieB st mv
    let us := s2.dieUnits dieB
    .next (match st with
      | .ok => overList us okUnit s2
      | .crank => overList us crankUnit (s2.bump "CRANK_CNT")
      | .uv => (overList us uvUnit (s2.bump "UV_CNT")).dieSecs dieB
      | .ov => (overList us ovUnit (s2.bump "OV_CNT")).dieSecs dieB)

/-- VXS_LOW (R612): both cellar memories are FAILED until RESET CELLAR or BOOT. -/
def execVxsLow (mv : Nat) (s : State) : Host.Outcome State Fault Refusal :=
  if s.power.vxslow then .next s
  else
    let s1 : State := { s with power := { s.power with vxslow := true } }
    if !s.awake then .next s1
    else
      let fail (m : MemState) : MemState := if m = .ready then .failed else m
      let s2 : State := { s1 with cellar := { s1.cellar with psram := fail s1.cellar.psram, nor := fail s1.cellar.nor } }
      .next (s2.ev "PWR" toSuper ("POWER RAIL rail=VXS state=LOW mv=" ++ toString mv))

/-- VXS_RETURN (R615). -/
def execVxsReturn (mv : Nat) (s : State) : Host.Outcome State Fault Refusal :=
  if !s.power.vxslow then .next s
  else
    let s1 : State := { s with power := { s.power with vxslow := false } }
    .next (if s.awake then s1.ev "PWR" toSuper ("POWER RAIL rail=VXS state=OK mv=" ++ toString mv) else s1)

/-- VBAK_LOW (R612): the supply of I00 changes between VBAK and VLOG. -/
def execVbakLow (low : Bool) (s : State) : Host.Outcome State Fault Refusal := .next { s with power := { s.power with vbaklow := low } }

/-! ### Shutdown (R622 to R624, R633 to R637) -/

/-- A unit is switched off with its running phase's OFF mode, whatever SAFE holds; its grants are released (Table PWR-7). -/
def shutUnit (u : Nat) (s : State) : State := ((s.setUnit u { s.unitAt u with held := false, enabled := false, retryAt := none }).offSwitch u).dropGrants u

/-- t0 of the shutdown sequence (R622): trigger 0 VLOG, 1 IGN. -/
def State.shutdown (trig : Nat) (s : State) : State :=
  let early := s.power.dstate = .boot
  let s1 := (if early then s.countBoot else s).setDState .shutdown (if trig = 0 then "VLOG" else "IGN")
  let s2 := overList ((List.range 56).filter s1.unitPresent) shutUnit s1
  let s3 := overList (List.range 4) (fun n a =>
    let b := a.haltPart n
    if (b.partAt n).state = .running then b.setPState n .stopped "" else b) s2
  let s4 := (if s3.gnss.running then s3.gnssDown else s3).peerStop
  let s5 := overList (List.range 4) State.canStop s4
  let s6 := if s5.spi.enabled then s5.spiDisable else s5
  let s7 := s6.bump "SHUTDOWN_CNT"
  let s8 := if trig = 0 then s7.bump "VLOGWARN_CNT" else s7.traceSleep
  { s8 with power := { s8.power with trigger := some trig, step := 1, ignBack := false, ignLowSince := none, latched := none } }

/-- VLOG_WARNING (R622, R634, R635). -/
def execVlogWarning (mv : Nat) (s : State) : Host.Outcome State Fault Refusal :=
  let s0 : State := { s with power := { s.power with vlog := mv, vlogw := true } }
  match s0.power.dstate with
  | .ready | .run | .safe => .next (s0.shutdown 0)
  | .boot => .next (if s0.power.inReset then s0 else s0.shutdown 0)
  | .shutdown => .next (if s0.power.trigger = some 1 then { s0 with power := { s0.power with trigger := some 0 } }.bump "VLOGWARN_CNT" else s0)
  | _ => .next s0

/-- A tick of SYSTIME at or after an instant. -/
def tickMs (t : Nat) : Nat := ceilDiv t nsMs * nsMs

/-- IGN works while the device runs. -/
def State.ignActs (s : State) : Bool := (s.power.dstate = .ready || s.power.dstate = .run || s.power.dstate = .safe) && s.isOn .power 0 "IGNMODE"

/-- The IGNDELAY count begins, where IGN is low and WAKEHOLD has elapsed (R626). -/
def State.ignCount (s : State) : State :=
  if s.ignActs && !s.power.ign && s.power.wakeholdEnd ≤ s.now then { s with power := { s.power with ignLowSince := some (s.power.ignLowSince.getD (tickMs s.now)) } } else s

/-- IGN_CHANGE (R626, R636). -/
def execIgnChange (high : Bool) (ts : Nat) (s : State) : Host.Outcome State Fault Refusal :=
  if s.power.ign = high || !s.awake then .next { s with power := { s.power with ign := high } }
  else
    let s0 := s.advanceTo ts
    let s1 := ({ s0 with power := { s0.power with ign := high, ignLowSince := none, ignBack := s0.power.ignBack || high } } : State).ev "PWR" toSuper
      ("POWER IGN level=" ++ (if high then "HIGH" else "LOW"))
    .next s1.ignCount

/-- IGN_DELAY_EXPIRY (R622, R626). -/
def execIgnDelayExpiry (s : State) : Host.Outcome State Fault Refusal :=
  match s.power.ignLowSince with
  | some t => .next (if s.ignActs then (s.advanceTo (t + s.ns .power 0 "IGNDELAY")).shutdown 1 else s)
  | none => .next s

/-- WAKEHOLD_END (R626). -/
def execWakeholdEnd (s : State) : Host.Outcome State Fault Refusal :=
  if s.power.wakeholdEnd = 0 || !s.awake then .next s
  else
    let s1 := s.advanceTo s.power.wakeholdEnd
    .next ({ s1 with power := { s1.power with wakeholdEnd := 0 } } : State).ignCount

/-- ATTIC_COMMIT (R592, R623, R635): pending records, the SHUTDOWN record, operating hours, RTC trim. -/
def execAtticCommit (s : State) : Host.Outcome State Fault Refusal :=
  if s.power.dstate ≠ .shutdown || s.power.step ≠ 1 then .next s
  else
    let s1 := if s.retired 39 || !s.attic.scanned then s
      else
        let a := s.atticFlush.atticGap 1
        a.atticWrite { log := 1, code := 0x0202, src := 1, part := 4, stamp := a.now, systime := a.now, data := [s.power.trigger.getD 0] }
    .next { s1 with
      attic := { s1.attic with committed := true, pend := [] }
      times := if s.attic.scanned then { s1.times with mramHours := s1.hours, mramTrim := s1.times.rtctrim } else s1.times
      power := { s1.power with step := 2 } }

/-- Records of the log queue reach the NOR. -/
def State.logFlush : Nat → State → State
  | 0, s => s
  | k + 1, s => match execLogNorWrite s with
    | .next a => a.logFlush k
    | _ => s

/-- SHUTDOWN_FLUSH_END (R623, R634): an IGN trigger flushes whole; a VLOG trigger as far as the supply lasts, which is a free value; BOOT skips step 3 (R635). -/
def execShutdownFlushEnd (s : State) : Host.Outcome State Fault Refusal :=
  if s.power.dstate ≠ .shutdown || s.power.step ≠ 2 || !s.attic.scanned then .next s
  else
    let n := s.cellar.logPend.length
    let done (k : Nat) (aid : Bool) (a : State) : State :=
      let b := a.logFlush k
      let c := overList b.cellar.logPend (fun _ x => x.logLose) { b with cellar := { b.cellar with logPend := [] } }
      let d := if aid then c.storeAid else c
      { d with power := { d.power with step := 3 } }
    if s.power.trigger = some 1 then .next (done n true s)
    else
      let f := s.free
      .next (done (f.1.toNat / 2 % (n + 1)) (f.1.toNat % 2 = 1) f.2)

/-- The cellar as a restart finds it: what the NOR holds. -/
def State.cellarAsleep (s : State) : Cellar := { saved := s.cellar.saved, logRing := s.cellar.logRing, logSeq := s.cellar.logSeq, norKiB := s.cellar.norKiB }

/-- What STANDBY holds of a unit: its retirement. -/
def Unit_.kept (x : Unit_) : Unit_ :=
  { retired := x.retired, retIsland := x.retIsland, retFault := x.retFault, dcause := x.dcause, findOn := x.findOn, onres := x.onres, offres := x.offres, bootres := x.bootres }

/-- Entry to STANDBY (R627): configuration, ownership, retirements, counters and SYSTIME are held. -/
def State.enterStandby (s : State) : State :=
  let s1 := if s.trace.asleep.isSome && !s.trace.queue.isEmpty then s.traceFlushed else s
  { s1 with
    power := { s1.power with dstate := .standby, trigger := none, step := 0, railA := .uv, railB := .uv, wake := 0, wakeholdEnd := 0, ignLowSince := none, waking := false }
    times := { s1.times with gpsOff := none, gpsFirst := false }
    sess := [], routed := [], grants := {}, impls := [], secs := [], odos := [], ssps := [], prods := [], cellar := s1.cellarAsleep, larder := {}
    authFails := 0, lockoutEnd := none
    cfg := s1.cfg.filter fun e => !(e.1.noun = .map && (e.1.name = "ORGLAT" || e.1.name = "ORGLON"))
    units := s1.units.map fun e => (e.1, e.2.kept)
    parts := s1.parts.map fun e => (e.1, ({ resets := e.2.resets } : Part))
    cans := [], peer := {}, uarts := [], spi := {}, i2cs := []
    gnss := { stored := s1.gnss.stored, aid := s1.gnss.stored, ant := s1.gnss.ant, antMa := s1.gnss.antMa }
    pins := { s1.pins with wakeValid := false, wakeMulti := false, wakePin := 0 }
    faults := { s1.faults with laneChk := none, disputed := [], coverBase := none, coverAt := none } }

/-- The device is OFF, I00 alone keeping what it holds (Table PWR-3). -/
def State.goOff (watch : Bool) (s : State) : State :=
  { s with power := { s.power with dstate := .off, watchVlog := watch, waking := false }, sess := [], routed := [] }

/-- BOOT with cause RETURN (R624). -/
def State.returnBoot (s : State) : State := (s.bootFrom .return_).bump "RETURN_CNT"

/-- POWER_DOWN (R624, R633): the end of the shutdown sequence. -/
def execPowerDown (vlogMv : Nat) (s : State) : Host.Outcome State Fault Refusal :=
  if s.power.dstate ≠ .shutdown || !(s.power.step = 3 || (s.power.step = 2 && !s.attic.scanned)) then .next s
  else
    let s1 : State := { s with power := { s.power with vlog := vlogMv } }
    .next (if vlogMv < 2250 then s1.goOff false
      else match s1.power.latched with
        | some c => s1.bootFrom c
        | none => if s1.power.trigger = some 0 then s1.goOff true
            else if s1.power.ignBack then s1.returnBoot else s1.enterStandby)

/-- VLOG_RETURN (R624): after a VLOG shutdown the supply stands at VLOGWARN + 100 mV for 10 ms without having fallen below 2.25 V. -/
def execVlogReturn (mv : Nat) (s : State) : Host.Outcome State Fault Refusal :=
  let s0 : State := { s with power := { s.power with vlog := mv, vlogw := s.power.vlogw && mv < s.nat .power 0 "VLOGWARN" } }
  .next (if s0.power.dstate = .off && s0.power.watchVlog && s0.nat .power 0 "VLOGWARN" + 100 ≤ mv then s0.returnBoot else s0)

/-! ### Resets (R618) -/

/-- `n` RTC periods in ns, to the nearest (R574). -/
def rtcNs (n : Nat) : Nat := (n * nsS + 16384) / 32768

/-- I00 was without supply (R579, R581): calendar time, LEAP and the alarm are lost, and hours resume from MRAM. -/
def State.backupGone (s : State) : State :=
  { s with times := { s.times with cal := 0, calSrc := .none_, leap := 18, leapv := false, alarm := none, hoursNs := s.times.mramHours * nsS, rtctrim := s.times.mramTrim, rtcRC := false } }

/-- POWER_ON_RESET (R612, R618): VLOG below 2.25 V, VCORE out of regulation or first power, and its release; `periods` RTC periods have been counted without the control die. -/
def execPowerOnReset (backupLost : Bool) (periods : Nat) (s : State) : Host.Outcome State Fault Refusal :=
  let d := if s.awake then 0 else rtcNs periods
  let t := s.times
  let s1 : State := { s with times := { t with cal := t.cal + d, alarm := match t.alarm with
    | some a => if a ≤ t.sys + d then none else some (a - d)
    | none => none } }
  let s2 := s1.bootCut.bootFrom .poweron
  .next (if backupLost then s2.backupGone else s2)

/-- RSTN_ASSERT (R618, R633): every switch off; during SHUTDOWN it is latched. -/
def execRstnAssert (s : State) : Host.Outcome State Fault Refusal :=
  match s.power.dstate with
  | .off | .standby => .next s
  | .shutdown => .next (s.reset_ .rstn)
  | _ =>
    let s1 := s.allOff.reset_ .rstn
    .next { s1 with power := { s1.power with inReset := true } }

/-- RSTN_RELEASE (R618): BOOT begins at the rising edge. -/
def execRstnRelease (s : State) : Host.Outcome State Fault Refusal :=
  .next { s with power := { s.power with inReset := false } }

/-! ### BOOT (R41, R619 to R621) -/

/-- TCXO_RETRY (R619), every 100 ms at step 1. -/
def execTcxoRetry (found : Bool) (s : State) : Host.Outcome State Fault Refusal :=
  .next (if s.power.noTcxo && found then { s with power := { s.power with noTcxo := false } } else s)

/-- Islands that fail their self-test (R41, R664): each is a BIST detection. -/
def State.bist (fails safeBy : List Nat) (s : State) : State :=
  let s1 := overList fails (fun i a => a.report { cls := 14, detail := 0xB0, island := some i } (if safeBy.contains i then 7 else 3) (State.retireIsland i 14 0xB0)) s
  { s1 with faults := { s1.faults with causes := s1.faults.causes.map fun e => (e.1, e.2.1, e.2.2.1, e.2.2.2 || fails.contains e.1) } }

/-- The attic scan and the stored profiles: what fails its CRC is counted and reported (R588, R655, R234). -/
def State.mramScan (r : BootReport) (s : State) : State :=
  let s1 : State := { s with
    attic := { s.attic with torn0 := r.torn0, torn1 := r.torn1, bad0 := r.bad0, bad1 := r.bad1, scanned := true }
    pantry := { s.pantry with slots := s.pantry.slots.map fun e => (e.1, if r.mramBad.contains e.1 then e.2.map fun p => { p with corrupt := true } else e.2) } }
  let k := r.bad0.length + r.bad1.length
  overList (List.range (k + r.mramBad.length)) (fun _ a => a.report { cls := 8, detail := 0x52, island := some 39 } 1 id) (s1.bumpBy "ATT_BAD_CNT" 0 k)

/-- A list of islands as the banner gives it. -/
def islList (is : List Nat) : String := if is.isEmpty then "NONE" else joinWith "," (is.map islName)

/-- The banner, the first line of each session, and the prompt (R620). -/
def State.banner (body : String) (s : State) : State :=
  overList (allSessions.filter fun i => (s.sessAt i).opened) (fun i a => (a.evTo i body).prompt i) s
def State.bannerHead (s : State) (what : String) : String :=
  "DEVICE " ++ what ++ " variant=" ++ showHex 8 (variantCode s.power.variant) ++ " step=" ++ showHex 8 (stepCode s.power.variant) ++ " boots=" ++ toString s.times.boots ++
    " cause=" ++ causeWord s.power.cause
def State.retiredIslands (s : State) : List Nat := (List.range 64).filter s.retired

/-- Sessions of the ports that run (Table PHR-1). -/
def State.openPorts (s : State) : State :=
  let s1 := overList (enablePorts.filter fun u => s.isOn u.1 u.2 "ENABLE" && !s.nounRetired u.1 u.2) (fun u a => a.portEnable u.1 u.2) s
  if s1.retired 5 then s1 else s1.uartEnable 1

/-- GNSS and PEER start where AUTOSTART=ON and nothing stands in the way (R323, R619). -/
def State.autostart (s : State) : State :=
  let s1 := if s.isOn .gnss 0 "AUTOSTART" && s.hasGps && !s.nounRetired .gnss 0 && s.gnssStartErrs.isEmpty then s.startGnssNow else s
  if s1.isOn .peer 0 "AUTOSTART" && s1.peerStartErrs.isEmpty then s1.startLink else s1

/-- The device is READY: WAKEHOLD runs where IGN is low (R626), and the coverage found is the baseline of EV FAULT COVER (R669). -/
def State.enterReady (ign : Bool) (s : State) : State :=
  let s1 : State := { s with power := { s.power with dstate := .ready, readyAt := s.now, ign := ign, waking := false, wakeholdEnd := if ign then 0 else s.now + s.ns .power 0 "WAKEHOLD" } }
  let s2 := s1.ignCount
  { s2 with faults := { s2.faults with coverBase := some s2.coverNow, coverAt := none } }

/-- BOOT (Table PWR-6), as one step from the release of reset to READY or SAFE; its records are written on the way (R584). -/
def execBoot (r : BootReport) (s : State) : Host.Outcome State Fault Refusal :=
  if s.power.dstate ≠ .boot || s.power.inReset || s.power.noTcxo then .next s
  else if !r.tcxo then .next { s with power := { s.power with noTcxo := true } }
  else
    let fails := (List.range 64).filter fun i => r.bistFail.contains i && !s.islandAbsent i
    let lanes := fails.contains 2 && fails.contains 3
    let safeBy := fails.filter fun i => essential i || (lanes && (i = 2 || i = 3))
    let safe := !safeBy.isEmpty
    let s1 := ((s.advanceTo (s.now + r.recMs * nsMs)).countBoot.bist fails safeBy).mramScan r
    let s2 := (s1.service 0x0201 1 255 255 4 ([causeCode s1.power.cause, if safe then 1 else 0, 0, 0, 0, 0, 0, 0] ++ leBytes ((s1.retiredIslands.map fun i => 2 ^ i).sum) 8)).atticFlush.cellarBegin
    let s3 : State := { s2 with
      safenLow := !r.safen
      power := { s2.power with vlog := r.vlog }
      faults := { s2.faults with bistFail := safeBy, retBoot := s2.retiredIslands } }
    let s4 := s3.advanceTo (s.now + r.ms * nsMs)
    if safe then
      let s5 : State := { s4 with power := { s4.power with dstate := .safe, ign := r.ign, noPhrases := lanes, readyAt := s4.now } }
      .next ((s5.uartEnable 1).banner (s5.bannerHead "SAFE" ++ " island=" ++ islName (safeBy.headD 0) ++ " ms=" ++ toString r.ms))
    else
      let s5 := (((s4.bootTests r.safen r.off).bootProfile).autostart).openPorts
      .next ((s5.enterReady r.ign).banner (s5.bannerHead "READY" ++ " retired=" ++ islList s5.retiredIslands ++ " ms=" ++ toString r.ms))

/-! ### STANDBY and wake (R627 to R630) -/

/-- The pins whose WAKE condition holds in the waking sample (R560). -/
def State.wakePins (s : State) (ps : List Nat) : List Nat := (List.range 64).filter fun k => ps.contains k && s.word .pin k "WAKE" ≠ "NONE" && !s.pins.down.contains (k / 16)

/-- STANDBY_WAKE (R628, R629, R574): the sources found; SYSTIME is carried on. -/
def execStandbyWake (w : WakeIn) (s : State) : Host.Outcome State Fault Refusal :=
  if s.power.dstate ≠ .standby || s.power.waking then .next s
  else
    let d := rtcNs w.periods
    let en (x : String) : Bool := (splitStr ',' (s.word .power 0 "WAKESRC")).contains x
    let due := match s.times.alarm with
      | some a => a ≤ s.now + d
      | none => false
    let ps := s.wakePins w.pins
    let ign := w.ign && s.isOn .power 0 "IGNMODE"
    let srcs := [("WAKEN", w.waken), ("IGN", ign), ("RTC", w.rtc && due), ("PIN", !ps.isEmpty)].map fun p => (p.1, p.2 && en p.1)
    if !(srcs.any Prod.snd) then .next s
    else
      let bits := ((List.range 4).map fun k => if ((srcs.map Prod.snd).getD k false) then 2 ^ k else 0).sum
      let pin := (srcs.map Prod.snd).getD 3 false
      let s1 : State := { s with
        times := { s.times with sys := s.now + d, rem := 0, cal := s.times.cal + d, alarm := if due then none else s.times.alarm }
        power := { s.power with wake := 128 + bits, lastwake := (srcs.filter Prod.snd).map Prod.fst, waking := true, ign := w.ign }
        pins := { s.pins with wakeValid := pin, wakePin := if pin then ps.headD 0 else 0, wakeMulti := pin && 1 < ps.length }
        attic := { s.attic with committed := false } }
      .next (s1.bump "WAKE_CNT")

/-- The twin lanes that the wake sequence tests (R630). -/
def wakeLanes : List Nat := [2, 3, 10, 11, 37, 38]

/-- WAKE_SEQUENCE_COMPLETE (R630): READY, or BOOT with cause WATCHDOG where an essential island fails. -/
def execWakeSequenceComplete (r : WakeReport) (s : State) : Host.Outcome State Fault Refusal :=
  if s.power.dstate ≠ .standby || !s.power.waking then .next s
  else
    let s0 := s.advanceTo (s.now + r.ms * nsMs)
    let fails := (List.range 64).filter fun i => r.bistFail.contains i && !s.retired i && (essential i || wakeLanes.contains i)
    let s1 := s0.bist fails []
    if fails.any essential || (s1.retired 2 && s1.retired 3) then .next (s1.atticFlush.bootFrom .watchdog)
    else
      let s2 : State := { s1 with safenLow := !r.safen, power := { s1.power with cause := .wake }, faults := { s1.faults with retBoot := s1.retiredIslands } }
      let s3 := ((((s2.bootTests r.safen r.off).cellarBegin).traceWake).autostart).openPorts
      .next ((s3.enterReady s3.power.ign).banner (s3.bannerHead "READY" ++ " retired=" ++ islList s3.retiredIslands ++ " ms=" ++ toString r.ms ++ " src=" ++ joinWith "," s3.power.lastwake))

/-- STANDBY_VLOG_LOSS (R627): retention is lost; the next start is a BOOT with cause POWERON. -/
def execStandbyVlogLoss (backupLost : Bool) (s : State) : Host.Outcome State Fault Refusal :=
  if s.power.dstate ≠ .standby then .next s
  else
    let s1 := s.goOff false
    .next (if backupLost then s1.backupGone else s1)

/-! ### POWER (R631) -/

/-- SET of POWER: applies when it executes; the IGN count follows. -/
def powerSet (sess : Nat) (ph : Phrase) (s : State) : Ans :=
  Ans.eff (s.unitErrs sess ph .power none ++ setAttrErrs powerAttrs (s.sessAt sess).super ph) fun s =>
    let s1 := storeAttrs powerAttrs .power 0 "" ph s
    if s1.isOn .power 0 "IGNMODE" then s1.ignCount else { s1 with power := { s1.power with ignLowSince := none } }

/-- The hottest sensor of a power die, and a reading held within its range (Table PWR-9). -/
def State.dieTemp (s : State) (b : Bool) : Int := ((s.dieUnits b).filter (· < 48)).foldl (fun a u => max a (s.unitAt u).temp) (-40)

/-- What POWER shows (Table PWR-9). -/
def State.powerRead (s : State) (name : String) : String :=
  let p := s.power
  if name = "STATE" then dstateWord p.dstate
  else if name = "CAUSE" then causeWord p.cause
  else if name = "VLOG" then toString p.vlog
  else if name = "VDRVA" then toString p.vdrvA
  else if name = "VDRVB" then toString p.vdrvB
  else if name = "RAILA" then railWord p.railA
  else if name = "RAILB" then railWord p.railB
  else if name = "IGN" then (if p.ign then "HIGH" else "LOW")
  else if name = "TEMPC" then toString (heldTemp p.tempC)
  else if name = "TEMPA" then toString (heldTemp (s.dieTemp false))
  else if name = "TEMPB" then toString (heldTemp (s.dieTemp true))
  else if p.lastwake.isEmpty then "NONE" else joinWith "," p.lastwake

end Sys2Proof.Machine
end

