-- ==== Sys2Proof/Machine/Flags.lean ====
section
/-!
DEFINITION. Sys2Proof/Machine/Flags.lean: status words built from flags, sets of numbers and signed or wide values (22_register_reference.md).
-/
namespace Sys2Proof.Machine

/-- A flag at a bit. -/
def bitAt (k : Nat) (b : Bool) : Nat := if b then 2 ^ k else 0
/-- The members of a list of numbers from `lo` to `lo + 31`, as bits. -/
def word32 (xs : List Nat) (lo : Nat) : Nat := (((xs.filter fun i => lo ≤ i && i < lo + 32).eraseDups).map fun i => 2 ^ (i - lo)).sum
/-- A signed value in 32 bits. -/
def signed32 (i : Int) : Nat := toTwos 32 i
/-- The low or the high half of a 64-bit value. -/
def halfOf (hi : Bool) (v : Nat) : Nat := if hi then v / 2 ^ 32 % 2 ^ 32 else v % 2 ^ 32

/-- The numbers 0 to k−1 that hold a property. -/
def those (k : Nat) (p : Nat → Bool) : List Nat := (List.range k).filter p

end Sys2Proof.Machine
end

