-- ==== Sys2Proof/Machine/RegMap.lean ====
section
/-!
DEFINITION. Sys2Proof/Machine/RegMap.lean: the register space (22_register_reference.md and the field maps of the chapters): what lies at each address, its value now, the class of
each of its bits, and what a write reaches.
-/
namespace Sys2Proof.Machine

/-! ### Classes and contents (R732, Table REG-4) -/

/-- The classes of Table REG-4, in its order. -/
inductive RegClass
  | status | mirror | fused | config | action | counter | w1c | wo1 | rwl
  deriving DecidableEq, Repr

/-- The class words of SHOW REG (R729). -/
def classWordOf : RegClass → String
  | .status => "STATUS" | .mirror => "MIRROR" | .fused => "FUSED" | .config => "CONFIG" | .action => "ACTION" | .counter => "COUNTER" | .w1c => "W1C" | .wo1 => "WO1"
  | .rwl => "RWL"

/-- What a write to a register reaches: nothing, a counter (kept by name, in its partition, or in its pin), DEV_LOCK, FLT_LATCH, the selection of the attic window, LEVEL of an
owner's pins (0 set, 1 clear, 2 toggle), or an owner's event flags. `hi` is the _HI half. -/
inductive RegWrite
  | none
  | cnt (name : String) (i : Nat)
  | resets (n : Nat)
  | ecnt (k : Nat)
  | lock
  | flt
  | selLo
  | selHi
  | out (op o : Nat) (hi : Bool)
  | evt (o : Nat) (hi : Bool)
  deriving DecidableEq, Repr

/-- One register: its value, its fields as (msb, lsb, class) from the top, and what a write reaches. -/
structure Reg where
  val    : Nat := 0
  fields : List (Nat × Nat × RegClass) := []
  wr     : RegWrite := .none
  deriving DecidableEq, Repr

/-- A register of one class throughout. -/
def wholeReg (c : RegClass) (v : Nat) : Reg := { val := v % 2 ^ 32, fields := [(31, 0, c)] }
/-- A status register with the given fields. -/
def statReg (fs : List (Nat × Nat)) (v : Nat) : Reg := { val := v % 2 ^ 32, fields := fs.map fun f => (f.1, f.2, .status) }
/-- A counter register. -/
def State.cntReg (s : State) (name : String) (i : Nat := 0) : Reg := { val := s.cnt name i, fields := [(31, 0, .counter)], wr := .cnt name i }
/-- The counter at an offset of a list. -/
def State.cntIn (s : State) (l : List (Nat × String)) (i off : Nat) : Reg := match l.find? fun p => p.1 = off with
  | some (_, name) => s.cntReg name i
  | none => {}

/-! ### SYS (R736, R737, R89) -/

def islCode : IslState → Nat
  | .active => 0 | .stopped => 1 | .retired => 2 | .absent => 3

/-- A session's group (Tables PHR-11 and PHR-12). -/
def State.sessReg (s : State) (i off : Nat) : Reg :=
  let x := s.sessAt i
  if off = 0 then statReg [(31, 16), (13, 0)] (if !x.opened then 0 else
    x.evseq % 65536 * 2 ^ 16 + bitAt 13 true + min 16 x.queue.length * 2 ^ 8 + bitAt 7 x.faultOnly + bitAt 6 x.evcheck + bitAt 5 x.reqcheck + bitAt 4 x.prompt + bitAt 3 x.echo
      + bitAt 2 x.super + x.part % 4)
  else
    let r := s.cntIn [(4, "PHR_CNT"), (8, "ERR_CNT"), (12, "CHK_CNT"), (16, "QFULL_CNT"), (20, "EVDROP_CNT"), (24, "CHAR_CNT")] i off
    if x.opened then r else { r with val := 0 }

/-- The SYS block (Tables REG-5 to REG-8). -/
def State.sysReg (s : State) (off : Nat) : Reg :=
  if off = 0 then wholeReg .fused 0x96400D1A
  else if off = 4 then { val := variantCode s.power.variant, fields := [(31, 24, .fused), (19, 8, .fused), (1, 0, .fused)] }
  else if off = 8 then { val := stepCode s.power.variant, fields := [(23, 0, .fused)] }
  else if 0x100 ≤ off && off < 0x110 then
    let j := (off - 0x100) / 4
    wholeReg .status (((List.range 16).map fun m => islCode (s.island (16 * j + m)) * 4 ^ m).sum)
  else if off = 0x110 then
    statReg [(23, 16), (14, 8), (6, 0)] ((those 64 s.islandAbsent).length * 2 ^ 16 + s.faults.retBoot.length * 2 ^ 8 + (those 64 fun i => s.retired i && !s.islandAbsent i).length)
  else if 0x200 ≤ off && off < 0x300 then
    let i := (off - 0x200) / 4
    let c := Tab.get (0, 0, false) s.faults.causes i
    statReg [(16, 0)] (if s.islandAbsent i then 0 else bitAt 16 c.2.2 + c.2.1 % 256 * 256 + c.1 % 256)
  else if 0x400 ≤ off && off < 0x560 then s.sessReg ((off - 0x400) / 0x20) ((off - 0x400) % 0x20)
  else {}

/-! ### PART (R128) -/

/-- What a partition owns of a class and the variant has. -/
def State.ownBits (s : State) (n k o lo : Nat) (c : Noun) : Nat := word32 ((s.owned c k o).filter fun i => !s.nounAbsent c i) lo / 2 ^ n

def State.partReg (s : State) (off : Nat) : Reg :=
  if off = 0 then statReg [(3, 0)] (bitAt 3 s.pinlock + bitAt 2 s.ownlock + bitAt 1 s.key0.isSome + bitAt 0 s.key0.isNone)
  else if off = 4 then { val := bitAt 1 s.pinlock + bitAt 0 s.ownlock, fields := [(1, 1, .wo1), (0, 0, .wo1)], wr := .lock }
  else if off = 8 then s.cntReg "LOCKWR_CNT"
  else if off = 12 then s.cntReg "AUTHFAIL_CNT"
  else if off = 16 then statReg [(10, 0)] (word32 (allSessions.filter fun i => (s.sessAt i).opened && (s.sessAt i).super) 0)
  else if off = 0x20 then wholeReg .mirror (word32 s.securePins 0)
  else if off = 0x24 then wholeReg .mirror (word32 s.securePins 32)
  else if 0x100 ≤ off && off < 0x500 then
    let n := (off - 0x100) / 0x100
    let o := (off - 0x100) % 0x100
    let own (c : Noun) (k lo : Nat) : Nat := s.ownBits 0 k n lo c
    if o = 0 then statReg [(26, 16), (1, 0)] (min 2047 (s.larderUsed n) * 2 ^ 16 + pstateCode (s.partAt n).state)
    else if o = 4 then { val := (s.partAt n).resets.toNat, fields := [(31, 0, .counter)], wr := .resets n }
    else if o = 0x10 then wholeReg .mirror (own .chan 48 0)
    else if o = 0x14 then { val := own .chan 48 32, fields := [(15, 0, .mirror)] }
    else if o = 0x18 then
      { val := own .gdr 8 0 + own .odo 8 0 * 2 ^ 8 + own .ssp 2 0 * 2 ^ 16 + own .can 4 0 * 2 ^ 20 + own .prod 8 0 * 2 ^ 24, fields := [(31, 20, .mirror), (17, 0, .mirror)] }
    else if o = 0x1C then { val := own .prof 16 0, fields := [(15, 0, .mirror)] }
    else if o = 0x20 then wholeReg .mirror (own .pin 64 0)
    else if o = 0x24 then wholeReg .mirror (own .pin 64 32)
    else if 0x30 ≤ o && o < 0x50 then wholeReg .mirror (own .sec 256 (8 * (o - 0x30)))
    else {}
  else {}

/-! ### PLN (R165, R190) -/

def State.implReg (s : State) (n off : Nat) : Reg :=
  let x := s.implAt n
  if off = 0 then statReg [(7, 0)] (bitAt 7 x.mapErr + bitAt 6 x.jack + bitAt 5 (s.lanes 10 11 = "SINGLE") + bitAt 4 x.outfield + x.motion % 4 * 4 + bitAt 1 x.posOk + bitAt 0 x.running)
  else match [(4, "SPEED"), (8, "HDG"), (12, "YAW"), (16, "GAMMA"), (20, "EAST"), (24, "NORTH")].find? fun p => p.1 = off with
    | some (_, name) => wholeReg .status (signed32 (s.implNum n name))
    | none => s.cntIn [(0x20, "LANE_CNT"), (0x24, "STALE_CNT"), (0x28, "MAPERR_CNT"), (0x30, "TRIG_CNT"), (0x34, "LATE_CNT"), (0x38, "EARLY_CNT"), (0x3C, "GRLATE_CNT"),
        (0x40, "REMLATE_CNT")] n off

/-- SEC_STATUS (Table PLN-9); SF in 1/1,024. -/
def State.secReg (s : State) (k : Nat) : Reg :=
  let x := s.secAt k
  let t := s.nextTrig k
  statReg [(27, 0)] (min 4095 ((x.sf * 1024 + 500) / 1000) * 2 ^ 16
    + (((List.range 8).map fun j => bitAt (8 + j) (x.cells.getD j 0 = 1 || x.cells.getD j 0 = 2)).sum)
    + s.secReason k % 16 * 16 + bitAt 3 ((t.map Entry.opens).getD false) + bitAt 2 t.isSome + s.secState k % 4)

/-- TRIG_VALUE and TRIG_FLAGS (Tables SWT-5, SWT-6). -/
def State.trigReg (s : State) (k : Nat) (flags : Bool) : Reg :=
  match flags, s.nextTrig k with
  | false, t => wholeReg .status (signed32 ((t.map Entry.value).getD 0))
  | true, none => statReg [(31, 16), (5, 0)] 0
  | true, some e => statReg [(31, 16), (5, 0)] (min 0xFFFF (match e.remain with
      | some r => r / 100000
      | none => 0xFFFF) * 2 ^ 16 + bitAt 5 e.shadow + bitAt 4 e.nolead + bitAt 3 (e.dir = 2) + bitAt 2 e.opens + bitAt 1 e.commit + bitAt 0 true)

def State.plnReg (s : State) (off : Nat) : Reg :=
  if off < 0x400 then s.implReg (off / 0x100) (off % 0x100)
  else if 0x1000 ≤ off && off < 0x1400 then s.secReg ((off - 0x1000) / 4)
  else if 0x2000 ≤ off && off < 0x2800 then s.trigReg ((off - 0x2000) / 8) (off % 8 = 4)
  else {}

/-! ### ODO and SSP (R313, R314) -/

def State.odoReg (s : State) (n off : Nat) : Reg :=
  let o := s.odoAt n
  let snap := o.snap.getD (o.count, 0, 0, o.down, 0)
  if off = 0 then
    statReg [(11, 0)] (o.plst % 4 * 2 ^ 10 + bitAt 9 o.prop.isSome + bitAt 8 (s.word .odo n "SRC" = "INTERNAL") + bitAt 7 ((o.idx.map Prod.snd).getD false) + bitAt 6 o.heldV.isSome
      + bitAt 5 o.armed + bitAt 4 (snap.2.1 = 0) + bitAt 3 o.window + bitAt 2 o.down + o.state % 4)
  else if off = 4 then wholeReg .status (signed32 snap.1)
  else if off = 8 then wholeReg .status snap.2.1
  else if off = 12 then wholeReg .status (signed32 snap.2.2.1)
  else if off = 16 then wholeReg .status (signed32 ((o.idx.map Prod.fst).getD 0))
  else if off = 20 then wholeReg .status o.epoch
  else if off = 24 then wholeReg .status o.mpcUse
  else if off = 28 then wholeReg .status (o.prop.getD 0)
  else if off = 32 then statReg [(22, 16), (12, 0)] ((o.entries.filter Entry.hw).length * 2 ^ 16 + (o.entries.filter fun e => !e.hw).length)
  else s.cntIn [(0x30, "SLIP_CNT"), (0x34, "LATEFIRE_CNT"), (0x38, "CMPFIRE_CNT"), (0x3C, "DIRCHG_CNT"), (0x40, "IMPLAUS_CNT")] n off

def State.sspReg (s : State) (p off : Nat) : Reg :=
  let x := s.sspAt p
  if off = 0 then statReg [(2, 0)] (bitAt 2 x.err + bitAt 1 x.lost + bitAt 0 x.running)
  else if off = 4 then wholeReg .status (halfOf false x.raw)
  else if off = 8 then statReg [(15, 0)] (halfOf true x.raw)
  else if off = 12 then wholeReg .status (halfOf false x.value)
  else if off = 16 then statReg [(15, 0)] (halfOf true x.value)
  else if off = 20 then wholeReg .status x.epoch
  else s.cntIn [(0x20, "CRCFAIL_CNT"), (0x24, "TIMEOUT_CNT"), (0x28, "ERRBIT_CNT"), (0x2C, "SKIP_CNT")] p off

/-! ### GNSS (R348) -/

def State.gnssReg (s : State) (off : Nat) : Reg :=
  let g := s.gnss
  if off = 0 then
    statReg [(21, 0)] (g.nsv % 32 * 2 ^ 17 + s.aidLevel * 2 ^ 15 + bitAt 14 g.chk + bitAt 13 (gnssChans.any fun c => (s.gch c).copy) + bitAt 12 g.notchFull + g.jam % 4 * 2 ^ 10
      + g.ant % 8 * 2 ^ 7 + bitAt 6 g.utcV + bitAt 5 g.gpsV + g.dim % 4 * 8 + bitAt 2 g.fix + s.gnssState)
  else if off = 4 then statReg [(7, 0)] g.jami
  else if off = 8 then statReg [(8, 0)] (bitAt 8 g.notchFull + (((List.range 4).map fun k => (s.notch k).1 % 4 * 4 ^ k).sum))
  else if 0x10 ≤ off && off < 0x20 then wholeReg .status (signed32 (s.notch ((off - 0x10) / 4)).2)
  else if off = 0x20 then wholeReg .status g.rawEpoch
  else if off = 0x24 then wholeReg .status g.tow
  else if off = 0x28 then statReg [(15, 0)] g.week
  else if 0x100 ≤ off && off < 0x160 then
    let c := (off - 0x100) / 4
    let x := s.gch c
    statReg [(26, 16), (11, 0)] (min 2047 x.cn0 * 2 ^ 16 + bitAt 11 (s.chanExcluded c) + bitAt 10 (x.copy || x.isCopy) + bitAt 9 x.half + x.state % 8 * 2 ^ 6 + (if x.state = 0 then 0 else x.prn % 64))
  else s.cntIn [(0x40, "JAM_CNT"), (0x44, "ANTFLT_CNT"), (0x48, "COPY_CNT"), (0x4C, "COPYNOCH"), (0x50, "RESID_CNT"), (0x54, "ACQREF_CNT"), (0x58, "NMEADROP_CNT")] 0 off

/-! ### DRV, GDR, DIAG, GRANT (R389, R421, R441) -/

/-- The group of drive unit u (Table DRV-8); the USE of an odd pair member shows NONE. -/
def State.drvReg (s : State) (u off : Nat) : Reg :=
  let x := s.unitAt u
  if off = 0 then
    let use := s.unitUse u
    let life := match s.lifeCode u with
      | 3 => 0
      | k => k
    let mode := s.uWord u "MODE"
    { val := x.scale % 1024 * 2 ^ 22 + bitAt 18 (s.calStale u) + bitAt 17 x.safe + bitAt 16 (s.safenLow || x.safenHold) + bitAt 15 x.cut + bitAt 14 (decide (x.scale < 1000))
        + bitAt 13 (s.pairEven u || s.pairOdd u) + (if use = 5 then 0 else use) * 2 ^ 10 + (if mode = "PWM" then 1 else if mode = "PROPORTIONAL" then 2 else 0) * 2 ^ 8
        + bitAt 7 x.decaySince.isSome + x.phase % 8 * 16 + bitAt 3 x.on + bitAt 2 (s.unitInUse u) + life
      fields := [(31, 22, .status), (18, 10, .status), (9, 8, .mirror), (7, 0, .status)] }
  else if off = 4 then wholeReg .status (if u < 48 then x.ihs else x.ish)
  else if off = 8 then wholeReg .status (if u < 48 then x.ils else x.vds)
  else if off = 12 then wholeReg .status x.dsum
  else if off = 16 then statReg [(15, 0)] (s.calAge u)
  else s.cntIn [(0x20, "ON_CNT"), (0x24, "PULSESKIP_CNT"), (0x28, "REACHFAIL_CNT"), (0x2C, "THROTTLE_CNT"), (0x30, "CUT_CNT"), (0x34, "CALABORT_CNT")] u off

/-- The group of DIAG unit u (Table DIA-6). -/
def State.diagReg (s : State) (u off : Nat) : Reg :=
  let x := s.unitAt u
  if off = 0 then
    { val := (if u < 48 && -60 < x.temp then (heldTemp x.temp + 60).toNat % 256 else 0) * 2 ^ 24 + x.bootres % 16 * 2 ^ 20 + x.offres % 16 * 2 ^ 16 + x.onres % 16 * 2 ^ 12
        + x.dcause % 16 * 2 ^ 8 + s.lifeCode u * 2 ^ 6 + bitAt 5 x.otwait + bitAt 4 (x.retired && x.retIsland) + bitAt 3 (s.isOn .diag u "SWEEP") + bitAt 2 (s.isOn .diag u "ONDIAG")
        + bitAt 1 (s.word .diag u "ACTION" = "REPORT") + bitAt 0 (s.isOn .diag u "FLTNON")
      fields := [(31, 4, .status), (3, 0, .mirror)] }
  else if off = 4 then wholeReg .status x.findih
  else if off = 8 then wholeReg .status x.findil
  else s.cntIn [(0x10, "FIND_CNT"), (0x14, "OC_CNT"), (0x18, "OT_CNT"), (0x1C, "TEST_CNT"), (0x20, "VOID_CNT"), (0x24, "ABORT_CNT")] u off

/-- The group of budget r (Table GRT-6). -/
def State.budgetReg (s : State) (r off : Nat) : Reg :=
  if off = 0 then
    let l := s.lanes 37 38
    { val := s.nat .grant r "BUDGET" % 65536 + (if r = 2 then 0 else s.nat .grant r "SECRES" % 1024 * 2 ^ 16 + bitAt 28 (s.isOn .grant r "GDRCHARGE")) + (if l = "TWIN" then 0 else if l = "SINGLE" then 1 else 2) * 2 ^ 30
      fields := [(31, 30, .status), (28, 28, .mirror), (25, 0, .mirror)] }
  else if off = 4 then wholeReg .status (s.grantUsed r % 65536 + s.grantBooked r % 65536 * 2 ^ 16)
  else s.cntIn [(0x10, "GR_GRANTED_CNT"), (0x14, "GR_DELAYED_CNT"), (0x18, "GR_REDUCED_CNT"), (0x1C, "GR_REFUSED_CNT"), (0x20, "GR_LANE_CNT")] r off

/-- The grant group of unit u (Tables GRT-6, GRT-7). -/
def State.grantUnitReg (s : State) (u off : Nat) : Reg :=
  let x := s.unitAt u
  if off = 0 then
    wholeReg .status (min 32767 x.gwait * 2 ^ 17 + (if x.gout = 3 then x.gir / 10 % 2048 else 0) * 2 ^ 6 + bitAt 5 (s.grantHeld u) + x.gclass % 4 * 8 + x.gout % 8)
  else if off = 0x14 then wholeReg .status x.gmax
  else s.cntIn [(4, "GU_GRANTED_CNT"), (8, "GU_DELAYED_CNT"), (12, "GU_REDUCED_CNT"), (16, "GU_REFUSED_CNT")] u off

def State.grantReg (s : State) (off : Nat) : Reg :=
  if off < 0xC0 then s.budgetReg (off / 0x40) (off % 0x40)
  else if 0x1000 ≤ off && off < 0x1700 then s.grantUnitReg ((off - 0x1000) / 0x20) (off % 0x20)
  else {}

def State.diagBlock (s : State) (off : Nat) : Reg :=
  let gone (lo : Nat) : Nat := word32 (those 56 fun u => s.unitPresent u && (s.unitAt u).retired) lo
  if off < 0xE00 then s.diagReg (off / 0x40) (off % 0x40)
  else if off = 0x1000 then s.cntReg "SWEEPSKIP_CNT"
  else if off = 0x1004 then wholeReg .status (gone 0)
  else if off = 0x1008 then statReg [(23, 0)] (gone 32)
  else {}

def State.drvBlock (s : State) (off : Nat) : Reg :=
  if off < 0x3000 then s.drvReg (off / 0x100) (off % 0x100)
  else if off = 0x4000 then statReg [(0, 0)] (bitAt 0 s.safenLow)
  else if off = 0x4004 then s.cntReg "SAFEN_CNT"
  else {}

/-! ### CELLAR, LARDER (R235, R236) -/

def memCode : MemState → Nat
  | .none_ => 0 | .ready => 1 | .failed => 2

/-- A scrub pass is under way whenever the PSRAM is READY and holds used lines: passes follow one another (R203; DEDUCED). -/
def State.cellarReg (s : State) (off : Nat) : Reg :=
  let c := s.cellar
  let used := !c.tiles.isEmpty || !c.stage0.isEmpty || !c.stage1.isEmpty || !c.stage2.isEmpty || !c.stage3.isEmpty
  if off = 0 then
    statReg [(8, 0)] (bitAt 8 s.norSmall + bitAt 7 (s.norReady && s.word .log 0 "ENABLE" = "ON") + bitAt 6 c.saved.isSome + bitAt 5 s.mapBusy + bitAt 4 (s.psReady && used)
      + memCode c.nor * 4 + memCode c.psram)
  else if off = 12 then wholeReg .status c.scrubMs
  else if off = 16 then wholeReg .status (s.tilesIn coverLayer % 65536 + s.tilesIn (fun l => !coverLayer l) % 65536 * 2 ^ 16)
  else if off = 24 then wholeReg .status s.logNewest
  else s.cntIn [(4, "CEL_CORR_CNT"), (8, "CEL_UNCORR_CNT"), (20, "MAPFULL_CNT"), (28, "LOG_DROP_CNT")] 0 off

def State.larderReg (s : State) (off : Nat) : Reg :=
  if off = 0 then statReg [(26, 16), (10, 0)] (min 2047 s.larderShared * 2 ^ 16 + min 2047 s.larderFree)
  else if 0x10 ≤ off && off < 0x24 then statReg [(10, 0)] (min 2047 (s.larderUsed ((off - 0x10) / 4)))
  else if 0x30 ≤ off && off < 0x44 then s.cntReg "LAR_REFUSE_CNT" ((off - 0x30) / 4)
  else if off = 0x50 then s.cntReg "LAR_CORR_CNT"
  else {}

/-! ### CAN, UART, SPI, I2C (R502, R536) -/

/-- The count of recessive sequences during bus-off, which only the bus knows: a free value (R497). -/
def State.recovCount (s : State) : Nat := (Config.freeBits s.freeIx).toNat % 128

def State.canReg (s : State) (n off : Nat) : Reg :=
  let x := s.canAt n
  if off = 0 then
    { val := x.lec % 8 * 2 ^ 10 + bitAt 9 x.peer + bitAt 8 (s.word .can n "FILTER" = "LIST") + bitAt 7 (s.isOn .can n "FD") + bitAt 6 (s.word .can n "MODE" = "LISTEN") + bitAt 5 x.warn
        + x.errState * 8 + bitAt 2 x.integ + bitAt 0 x.running
      fields := [(12, 9, .status), (8, 6, .mirror), (5, 0, .status)] }
  else if off = 4 then statReg [(22, 0)] (min 255 x.tec + min 255 x.rec_ * 2 ^ 8 + (if x.busoff then s.recovCount else 0) * 2 ^ 16)
  else if off = 8 then statReg [(30, 0)] x.nbt
  else if off = 12 then statReg [(18, 0)] x.dbt
  else if off = 16 then statReg [(15, 8), (6, 0)] (x.tdcv % 128 + x.tdco % 256 * 256)
  else if off = 20 then statReg [(27, 16), (11, 0)] (x.rx.length % 4096 + x.tx.length % 4096 * 2 ^ 16)
  else s.cntIn [(0x20, "RXFRM_CNT"), (0x24, "TXFRM_CNT"), (0x28, "RXDROP_CNT"), (0x2C, "FILTREJ_CNT"), (0x30, "BUSERR_CNT"), (0x34, "WARN_CNT"), (0x38, "BOFF_CNT"), (0x3C, "RECOV_CNT"),
      (0x40, "TXRETRY_CNT"), (0x44, "TXFAIL_CNT"), (0x48, "FDIGN_CNT")] n off

def State.uartReg (s0 : State) (n off : Nat) : Reg :=
  let s := s0.txSettle
  let u := s.uartAt n
  let mode := s.word .uart 2 "MODE"
  if off = 0 then
    { val := u.rx.length % 512 * 2 ^ 8 + bitAt 7 u.xoffOut + bitAt 6 u.paused + (if n ≠ 2 || mode = "NMEA" then 0 else if mode = "TRACE" then 1 else 2) * 16
        + bitAt 3 (s.isOn .uart n "AUTOBAUD") + bitAt 2 u.hunt + (if !s.uartRuns n then 0 else if u.hunt then 2 else 1)
      fields := [(16, 6, .status), (5, 3, .mirror), (2, 0, .status)] }
  else if off = 4 then wholeReg .status u.rate
  else s.cntIn [(0x10, "FRAMING_CNT"), (0x14, "PARITY_CNT"), (0x18, "BREAK_CNT"), (0x1C, "OVERRUN_CNT"), (0x20, "XOFFSENT_CNT"), (0x24, "LOCK_CNT"), (0x28, "HUNTDROP_CNT")] n off

def State.serialReg (s : State) (off : Nat) : Reg :=
  if off < 0x100 then
    if off = 0 then statReg [(25, 16), (7, 4), (1, 0)] (min 1023 (512 - s.spi.rxbuf.length) * 2 ^ 16 + s.spi.sent % 16 * 16 + bitAt 1 s.attnOn + bitAt 0 s.spi.enabled)
    else s.cntIn [(0x10, "SPI_XFER_CNT"), (0x14, "BADHDR_CNT"), (0x18, "LENERR_CNT"), (0x1C, "SPI_RXFULL_CNT")] 0 off
  else if off < 0x300 then
    let n := (off - 0x100) / 0x100
    let o := off % 0x100
    let x := s.i2cAt n
    if o = 0 then
      { val := (if x.rate = 100 then 0 else if x.rate = 400 then 1 else 2) * 16 + bitAt 3 x.scl + bitAt 2 x.sda + bitAt 1 x.busy.isSome + bitAt 0 x.enabled
        fields := [(5, 4, .mirror), (3, 0, .status)] }
    else s.cntIn [(0x10, "I2C_XFER_CNT"), (0x14, "NACK_CNT"), (0x18, "I2C_TIMEOUT_CNT"), (0x1C, "ARBLOST_CNT"), (0x20, "I2C_RECOV_CNT"), (0x24, "I2C_STUCK_CNT")] n o
  else {}

/-! ### PIN (R556, R564) -/

/-- The owner of register group o: the partition, or SECURE for o = 4. -/
def pinGroup (o : Nat) : Nat := if o = 4 then secureOwner else o

/-- PIN_CFG_k (Table PIN-6). -/
def State.pinCfg (s : State) (k : Nat) : Nat :=
  let w (a : String) : String := s.word .pin k a
  let o := s.owner .pin k
  s.nat .pin k "FILTER" % 2048 * 2 ^ 21 + bitAt 20 (s.pinlock && o = secureOwner) + min 15 (s.funcsOf k).length * 2 ^ 16 + bitAt 15 (s.pinAt k).evt + bitAt 14 (s.pinAt k).val
    + (if w "WAKE" = "HIGH" then 1 else if w "WAKE" = "LOW" then 2 else 0) * 2 ^ 12
    + (["NONE", "RISE", "FALL", "BOTH", "HIGH", "LOW"].findIdx fun x => x = w "IRQ") % 8 * 2 ^ 9
    + (if w "PULL" = "UP" then 1 else if w "PULL" = "DOWN" then 2 else 0) * 2 ^ 7
    + bitAt 6 (s.nat .pin k "DRIVE" = 8) + bitAt 5 (s.pinOd k) + bitAt 4 (w "LEVEL" = "HIGH") + bitAt 3 (w "DIR" = "OUT") + (if o = secureOwner then 4 else o)

def State.pinReg (s : State) (off : Nat) : Reg :=
  if off < 0x100 then { val := s.pinCfg (off / 4), fields := [(31, 21, .mirror), (20, 20, .status), (19, 16, .mirror), (15, 14, .status), (13, 0, .mirror)] }
  else if off < 0x200 then
    let k := (off - 0x100) / 4
    { val := (s.pinAt k).ecnt, fields := [(31, 0, .counter)], wr := .ecnt k }
  else if off = 0x200 || off = 0x204 then wholeReg .status (word32 (those 64 fun k => (s.pinAt k).val) (8 * (off - 0x200)))
  else if off = 0x208 || off = 0x20C then wholeReg .status (word32 (those 64 s.pinOut) (8 * (off - 0x208)))
  else if off = 0x210 then statReg [(3, 0)] (word32 (those 4 fun b => !s.bankDown b) 0)
  else if off = 0x214 then statReg [(7, 0)] (s.pins.wakePin % 64 + bitAt 6 s.pins.wakeMulti + bitAt 7 s.pins.wakeValid)
  else if 0x400 ≤ off && off < 0x540 then
    let o := (off - 0x400) / 0x40
    let r := off % 0x40
    let hi := off % 8 = 4
    let lo := if hi then 32 else 0
    let mine := s.owned .pin 64 (pinGroup o)
    if r < 0x18 then { val := word32 (mine.filter fun k => s.word .pin k "LEVEL" = "HIGH") lo, fields := [(31, 0, .action)], wr := .out (r / 8) o hi }
    else if r < 0x20 then { val := word32 (mine.filter fun k => (s.pinAt k).evt) lo, fields := [(31, 0, .w1c)], wr := .evt o hi }
    else {}
  else {}

/-! ### TIME, ATTIC (R602, R603) -/

/-- The 64-bit values read as pairs, by the offset of their _LO word in TIME. -/
def State.timePair (s : State) (off : Nat) : Option Nat :=
  if off = 8 then some s.now else if off = 16 then some (s.gpsTime.getD 0) else if off = 24 then some s.times.cal else none

def State.timeReg (s : State) (off : Nat) : Reg :=
  match s.timePair (off / 8 * 8) with
  | some v => wholeReg .status (halfOf (off % 8 = 4) v)
  | none =>
    if off = 0 then
      statReg [(15, 1)] (s.times.leap % 256 * 256 + bitAt 7 s.times.alarm.isSome + bitAt 6 s.times.leapSched.isSome + bitAt 5 s.times.rtcRC + bitAt 4 s.times.leapv
        + (match s.times.calSrc with
          | .none_ => 0
          | .gps => 1
          | .host => 2) * 4 + bitAt 1 s.gpsTime.isSome)
    else if off = 0x20 then wholeReg .status s.hours
    else if off = 0x24 then wholeReg .status s.times.boots
    else if off = 0x28 then wholeReg .status (signed32 s.times.rtctrim)
    else s.cntIn [(0x30, "TIMESTEP_CNT"), (0x34, "RTCFAIL_CNT")] 0 off

def State.atticPair (s : State) (off : Nat) : Option Nat :=
  if off = 8 then some (s.atticNewest 0) else if off = 16 then some (s.atticOldest 0) else if off = 24 then some (s.atticNewest 1) else if off = 32 then some (s.atticOldest 1) else none

def State.atticReg (s : State) (off : Nat) : Reg :=
  match s.atticPair (off / 8 * 8) with
  | some v => if off % 8 = 4 then statReg [(15, 0)] (halfOf true v) else wholeReg .status (halfOf false v)
  | none =>
    if off = 0 then statReg [(8, 0)] (min 64 s.attic.pend.length * 4 + bitAt 1 (s.retired 39) + bitAt 0 (s.retired 39))
    else if off = 0x40 then { val := s.attic.selLo.toNat, fields := [(31, 0, .config)], wr := .selLo }
    else if off = 0x44 then { val := s.attic.selHi.toNat, fields := [(31, 31, .config), (15, 0, .config)], wr := .selHi }
    else if off = 0x48 then statReg [(1, 0)] s.attic.winst
    else if 0x80 ≤ off && off < 0xC0 then
      wholeReg .status (match s.attic.win with
        | some r => leNat ((r.bytes.drop (off - 0x80)).take 4)
        | none => 0)
    else s.cntIn [(0x30, "ATT_GAP_CNT"), (0x34, "ATT_BAD_CNT"), (0x38, "ERASE_CNT")] 0 off

/-! ### PWR, FAULT, MET, PEER (R632, R673, R270, R470) -/

def railCodeOf : RailState → Nat
  | .ok => 0 | .crank => 1 | .uv => 2 | .ov => 3

def State.pwrReg (s : State) (off : Nat) : Reg :=
  let p := s.power
  let temp (t : Int) : Nat := (max 20 (min 255 (t + 60))).toNat
  if off = 0 then
    statReg [(16, 4), (2, 0)] (bitAt 16 p.ignLowSince.isSome + bitAt 15 p.vbaklow + bitAt 14 p.vxslow + bitAt 13 p.vlogw + (if s.hasDieB then railCodeOf p.railB else 0) * 2 ^ 11
      + railCodeOf p.railA * 2 ^ 9 + bitAt 8 p.ign + causeCode p.cause * 16 + dstateCode p.dstate)
  else if off = 4 then statReg [(15, 0)] (min 65535 p.vlog)
  else if off = 8 then wholeReg .status (min 65535 p.vdrvA + (if s.hasDieB then min 65535 p.vdrvB else 0) * 2 ^ 16)
  else if off = 12 then statReg [(23, 0)] (temp p.tempC + temp (s.dieTemp false) * 2 ^ 8 + (if s.hasDieB then temp (s.dieTemp true) else 0) * 2 ^ 16)
  else if off = 16 then statReg [(7, 7), (3, 0)] p.wake
  else s.cntIn [(0x20, "CRANK_CNT"), (0x24, "UV_CNT"), (0x28, "OV_CNT"), (0x2C, "VLOGWARN_CNT"), (0x30, "SHUTDOWN_CNT"), (0x34, "RETURN_CNT"), (0x38, "WAKE_CNT")] 0 off

def State.faultReg (s : State) (off : Nat) : Reg :=
  if off = 0 then
    statReg [(23, 8), (3, 0)] (s.faults.lastIsl % 256 * 2 ^ 16 + s.faults.lastCls % 256 * 2 ^ 8 + bitAt 3 s.gaps.isEmpty + bitAt 2 (s.retired 39) + bitAt 1 s.fltnHeldState + bitAt 0 s.fltn)
  else if off = 4 then { val := word32 (s.faults.latch.filter (· < 16)) 0, fields := [(15, 1, .w1c)], wr := .flt }
  else if off = 8 then { val := word32 s.fltMask 0, fields := [(15, 1, .mirror)] }
  else if off = 12 then statReg [(7, 0)] (word32 s.gaps 0)
  else if 0x14 ≤ off && off < 0x4C then s.cntReg "FLT_CNT" ((off - 0x10) / 4)
  else if off = 0x50 then s.cntReg "DL_RETRY_CNT" 0
  else if off = 0x54 then s.cntReg "DL_RETRY_CNT" 1
  else if off = 0x58 then s.cntReg "CHKTEST_CNT"
  else if 0x60 ≤ off && off < 0x70 then wholeReg .status ((s.hbLeft ((off - 0x60) / 4)).getD 0xFFFFFFFF)
  else {}

def State.metReg (s : State) (off : Nat) : Reg :=
  if off < 0x200 then
    let p := off / 0x40
    let o := off % 0x40
    let x := s.prodAt p
    let out := s.word .prod p "OUT"
    if o = 0 then
      { val := bitAt 9 x.sat + bitAt 8 x.est + bitAt 7 x.lost + x.alarm % 4 * 32 + bitAt 4 x.idle + (if out = "MOTOR" then 1 else if out = "NOZZLE" then 2 else 0) * 4 + x.state % 4
        fields := [(9, 4, .status), (3, 2, .mirror), (1, 0, .status)] }
    else if o = 4 then wholeReg .status (perMin x.qt)
    else if o = 8 then wholeReg .status (perMin (x.qf.getD 0))
    else if o = 12 then wholeReg .status x.actual
    else if o = 16 then wholeReg .status (signed32 x.out)
    else if o = 20 then wholeReg .status (signed32 x.integ)
    else s.cntIn [(0x20, "FBLOST_CNT"), (0x24, "ALARM_CNT"), (0x28, "CLIP_CNT"), (0x2C, "GRREF_CNT")] p o
  else if off < 0x300 then
    let p := (off - 0x200) / 0x20
    let j := off % 0x20 / 4
    wholeReg .status (word32 ((natsFrom (32 * j) 32).filter fun k => s.natOpt .sec k "PROD" = some p && (s.secAt k).clip) (32 * j))
  else {}

def State.peerReg (s : State) (off : Nat) : Reg :=
  let p := s.peer
  if off = 0 then
    statReg [(23, 16), (14, 8), (4, 0)] ((match p.master with
      | some a => a % 128 * 2 ^ 16 + 2 ^ 23
      | none => 0) + s.ownAddr % 128 * 2 ^ 8 + bitAt 4 p.loop + bitAt 3 (p.master = some s.ownAddr) + bitAt 2 p.synced + p.state % 4)
  else if off = 4 || off = 8 then wholeReg .status (halfOf (off = 8) (toTwos 64 p.offset))
  else if 0x40 ≤ off && off < 0x50 then wholeReg .status (word32 s.presentNodes (8 * (off - 0x40)))
  else s.cntIn [(0x10, "HBLOST_CNT"), (0x14, "CRC_CNT"), (0x18, "NOACK_CNT"), (0x1C, "LATECMD_CNT"), (0x20, "SYNCSTEP_CNT"), (0x24, "FOREIGN_CNT"), (0x28, "POSDROP_CNT"),
      (0x2C, "FWD_CNT")] 0 off

/-! ### The whole space -/

/-- The islands that hold a register, all of which must be RETIRED for it to be out of reach (R725; the unit's islands of Table MAC-3). -/
def regIslands (a : Nat) : List Nat :=
  let b := a / 0x10000
  let off := a % 0x10000
  if b = 0 then (if 0x400 ≤ off && off < 0x560 then [2, 3] else [43])
  else if b = 1 then [43]
  else if b = 2 then [10, 11]
  else if b = 3 then [14 + off / 0x400 % 8]
  else if b = 4 then [22 + off / 0x100 % 2]
  else if b = 5 then (if 0x100 ≤ off && off < 0x160 then [26 + (off - 0x100) / 24] else [30])
  else if b = 6 then (if off < 0x3000 then [unitIsland (off / 0x100)] else [43])
  else if b = 7 then [unitIsland (48 + off / 0x100 % 8)]
  else if b = 8 then (if off < 0xE00 then [unitIsland (off / 0x40)] else [43])
  else if b = 9 then [37, 38]
  else if b = 10 then [12]
  else if b = 11 then [8]
  else if b = 12 then [32 + off / 0x1000 % 4]
  else if b = 13 then [4 + off / 0x100 % 3]
  else if b = 14 then (if off < 0x100 then [7] else [41])
  else if b = 15 then [40]
  else if b = 16 then [42]
  else if b = 17 then [39]
  else if b = 18 then [1]
  else if b = 19 then [43]
  else if b = 20 then (if off < 0x200 then [44 + off / 0x80] else [44 + (off - 0x200) / 0x40 % 4])
  else [36]

def State.regRetired (s : State) (a : Nat) : Bool := (regIslands a).all s.retired

/-- The state as an island that retired keeps it (R725): its readings that depend on time stand still at the retirement. -/
def State.frozen (s : State) (a : Nat) : State :=
  if s.regRetired a then
    let t := (regIslands a).foldl (fun m i => max m (Tab.get 0 s.faults.retAt i)) 0
    { s with times := { s.times with sys := min s.now t } }
  else s

/-- The block at a base address (Table REG-1). -/
def State.blockReg (s : State) (b off : Nat) : Reg :=
  if b = 0 then s.sysReg off
  else if b = 1 then s.partReg off
  else if b = 2 then s.plnReg off
  else if b = 3 then (if off < 0x2000 then s.odoReg (off / 0x400) (off % 0x400) else {})
  else if b = 4 then (if off < 0x200 then s.sspReg (off / 0x100) (off % 0x100) else {})
  else if b = 5 then s.gnssReg off
  else if b = 6 then s.drvBlock off
  else if b = 7 then (if off < 0x800 then s.drvReg (48 + off / 0x100) (off % 0x100) else {})
  else if b = 8 then s.diagBlock off
  else if b = 9 then s.grantReg off
  else if b = 10 then s.cellarReg off
  else if b = 11 then s.larderReg off
  else if b = 12 then (if off < 0x4000 then s.canReg (off / 0x1000) (off % 0x1000) else {})
  else if b = 13 then (if off < 0x300 then s.uartReg (off / 0x100) (off % 0x100) else {})
  else if b = 14 then s.serialReg off
  else if b = 15 then s.pinReg off
  else if b = 16 then s.timeReg off
  else if b = 17 then s.atticReg off
  else if b = 18 then s.pwrReg off
  else if b = 19 then s.faultReg off
  else if b = 20 then s.metReg off
  else s.peerReg off

/-- The register at an address; an unallocated word has no field (R724). -/
def State.reg (s : State) (a : Nat) : Reg := (s.frozen a).blockReg (a / 0x10000) (a % 0x10000)

/-- An address exists (R723). -/
def regExists (a : Nat) : Bool := a % 4 = 0 && a < 0x160000

/-- An address lies in a range absent on the variant (Table REG-3). -/
def State.regAbsent (s : State) (a : Nat) : Bool :=
  (!s.hasDieB && [(0x61800, 0x62FFF), (0x70400, 0x707FF), (0x80600, 0x80BFF), (0x80D00, 0x80DFF), (0x90040, 0x9007F), (0x91300, 0x915FF), (0x91680, 0x916FF)].any
      fun r => r.1 ≤ a && a ≤ r.2)
    || (!s.hasGps && 0x50000 ≤ a && a ≤ 0x5FFFF)

/-- A register that any session may read (Table REG-2, R89). -/
def regOpen (sess a : Nat) : Bool :=
  a ≤ 8 || (0x100 ≤ a && a ≤ 0x110) || (0x200 ≤ a && a < 0x300) || (0x400 + 0x20 * sess ≤ a && a < 0x420 + 0x20 * sess)

end Sys2Proof.Machine
end

