-- ==== Sys2Proof/Machine/Registers.lean ====
section
/-!
DEFINITION. Sys2Proof/Machine/Registers.lean: the rows of the noun REG (R729 to R744): GET, SHOW, and SET with the registers that have a row of their own.
-/
namespace Sys2Proof.Machine

/-! ### Writes (R732 to R735, R556, R558, R603, R665) -/

/-- The bits of a 32-bit word. -/
def bits32 (v : Nat) : List Nat := those 32 fun j => v / 2 ^ j % 2 = 1
/-- The bits of `old` where the mask is 0, those of `v` where it is 1. -/
def maskIn (old v m : Nat) : Nat := (List.range 32).foldl (fun a j => a + (if m / 2 ^ j % 2 = 1 then v / 2 ^ j % 2 else old / 2 ^ j % 2) * 2 ^ j) 0

/-- The pins that bits of a group's register name and the group's owner owns (R556). -/
def State.groupPins (s : State) (o : Nat) (hi : Bool) (bits : List Nat) : List Nat :=
  (bits.map fun j => j + (if hi then 32 else 0)).filter fun k => s.owner .pin k = pinGroup o

/-- LEVEL of a pin is set, cleared or inverted (R556). -/
def pinDrive (op k : Nat) (s : State) : State :=
  let high := if op = 0 then true else if op = 1 then false else s.word .pin k "LEVEL" ≠ "HIGH"
  s.store .pin k "" "LEVEL" (.w (if high then "HIGH" else "LOW"))

/-- The bits under the mask of a write take effect, each by its class. -/
def State.regWrite (w : RegWrite) (v m : Nat) (s : State) : State :=
  let ones := (bits32 v).filter (bits32 m).contains
  match w with
  | .none => s
  | .cnt name i => if m = 0xFFFFFFFF then s.setCnt name i v else s
  | .resets n => if m = 0xFFFFFFFF then s.setPart n { s.partAt n with resets := BitVec.ofNat 32 v } else s
  | .ecnt k => if m = 0xFFFFFFFF then s.setPin k { s.pinAt k with ecnt := v } else s
  | .lock => { s with ownlock := s.ownlock || ones.contains 0, pinlock := s.pinlock || ones.contains 1 }
  | .flt => { s with faults := { s.faults with latch := s.faults.latch.filter fun c => !ones.contains c } }
  | .selLo => { s with attic := { s.attic with selLo := BitVec.ofNat 32 (maskIn s.attic.selLo.toNat v m) } }
  | .selHi => s.latchWindow s.attic.selLo.toNat (maskIn s.attic.selHi.toNat v m % 65536 + maskIn s.attic.selHi.toNat v m / 2 ^ 31 * 2 ^ 31)
  | .out op o hi => overList (s.groupPins o hi ones) (pinDrive op) s
  | .evt o hi => overList (s.groupPins o hi ones) State.evtClear s

/-- A write is a locked write (R734): a fused field, a WO1 field whose one write is used, a SECURE pin's bit under PINLOCK (R555). -/
def State.regLocked (s : State) (r : Reg) (v m : Nat) : Bool :=
  (m ≠ 0 && r.fields.any fun f => f.2.2 = .fused) ||
  match r.wr with
  | .lock => (s.ownlock && m % 2 = 1) || (s.pinlock && m / 2 % 2 = 1)
  | .out _ 4 hi | .evt 4 hi => s.pinlock && !(s.groupPins 4 hi ((bits32 v).filter (bits32 m).contains)).isEmpty
  | _ => false

/-! ### Checks (R731) -/

/-- The checks of one word. -/
def State.regErrs (s : State) (sess : Nat) (ph : Phrase) (a : Nat) : List Err :=
  let x := s.sessAt sess
  let rd := readVerb ph.verb
  errIf (!regExists a) .noun (some (showHex 8 a))
    ++ errIf (s.regAbsent a) .absent (some (showHex 8 a))
    ++ errIf (!rd && s.regRetired a && !(s.reg a).fields.isEmpty) .retired
    ++ errIf (!x.super && !(rd && regOpen sess a) && s.regOwner a ≠ some x.part) .auth

/-- The ends of a range that do not exist, and a range of more than 16 words (R730). -/
def regRangeErrs (ph : Phrase) : List Err :=
  match ph.noun.map NounRef.idx with
  | some (.range a b) =>
    errIf (!regExists a) .noun (some (showHex 8 a)) ++ errIf (!regExists b) .noun (some (showHex 8 b)) ++ errIf (16 < (regWords ph).length) .range (some ph.nounTok)
  | _ => []

/-- The VALUE and MASK of a SET. -/
def regValue (ph : Phrase) : Nat := ((attrInt ph "VALUE" 0 4294967295).getD 0).toNat
def regMask (ph : Phrase) : Nat := ((attrInt ph "MASK" 0 4294967295).getD 4294967295).toNat

/-- What a SET finds of one word. -/
def State.setRegErrs (s : State) (sess : Nat) (ph : Phrase) (a : Nat) : List Err :=
  let r := s.reg a
  s.regErrs sess ph a
    ++ errIf (r.fields.any (fun f => f.2.2 = .counter) && regMask ph ≠ 0xFFFFFFFF) .range (ph.tok "MASK")
    ++ errIf (s.regLocked r (regValue ph) (regMask ph)) .locked (some (showHex 8 a))

/-- SET REG (R729, R730): to every word or to none; a locked write is recorded with the address it failed at (R734). -/
def regSet (sess : Nat) (ph : Phrase) (s : State) : Ans :=
  let ws := regWords ph
  let own (a : Nat) : List Err := s.setRegErrs sess ph a
  let bad := ws.find? fun a => !(own a).isEmpty
  { errs := regRangeErrs ph ++ extraAttrs ph ["VALUE", "MASK"] ++ needAttr ph "VALUE" (.int 0 4294967295) ++ optAttr ph "MASK" (.int 0 4294967295) ++ (bad.map own).getD []
    act := fun s => (overList ws (fun a b => b.regWrite (b.reg a).wr (regValue ph) (regMask ph)) s, [])
    onErr := some fun e b => if e = .locked then b.lockedWrite sess (bad.getD 0) (showHex 8 (regValue ph)) else b }

/-- SET_REG (R729, R742, R743): a register without a row of its own. -/
def execSetReg (sess : Nat) (ph : Phrase) (s : State) : Host.Outcome State Fault Refusal := .next (runRow "SET_REG" sess ph (regSet sess ph) s)
/-- DEV_LOCK_WRITE (R735, Table PRT-9). -/
def execDevLockWrite (sess : Nat) (ph : Phrase) (s : State) : Host.Outcome State Fault Refusal := .next (runRow "DEV_LOCK_WRITE" sess ph (regSet sess ph) s)
/-- FLT_LATCH_WRITE (R665). -/
def execFltLatchWrite (sess : Nat) (ph : Phrase) (s : State) : Host.Outcome State Fault Refusal := .next (runRow "FLT_LATCH_WRITE" sess ph (regSet sess ph) s)
/-- OUT_SET_WRITE (R556). -/
def execOutSetWrite (sess : Nat) (ph : Phrase) (s : State) : Host.Outcome State Fault Refusal := .next (runRow "OUT_SET_WRITE" sess ph (regSet sess ph) s)
/-- OUT_CLR_WRITE (R556). -/
def execOutClrWrite (sess : Nat) (ph : Phrase) (s : State) : Host.Outcome State Fault Refusal := .next (runRow "OUT_CLR_WRITE" sess ph (regSet sess ph) s)
/-- OUT_TGL_WRITE (R556). -/
def execOutTglWrite (sess : Nat) (ph : Phrase) (s : State) : Host.Outcome State Fault Refusal := .next (runRow "OUT_TGL_WRITE" sess ph (regSet sess ph) s)
/-- EVT_CLEAR_WRITE (R558, R740). -/
def execEvtClearWrite (sess : Nat) (ph : Phrase) (s : State) : Host.Outcome State Fault Refusal := .next (runRow "EVT_CLEAR_WRITE" sess ph (regSet sess ph) s)
/-- ATT_SEL_HI_WRITE (R603): the window is latched with the write. -/
def execAttSelHiWrite (sess : Nat) (ph : Phrase) (s : State) : Host.Outcome State Fault Refusal := .next (runRow "ATT_SEL_HI_WRITE" sess ph (regSet sess ph) s)

/-! ### Reads (R602, R729, R730, R738) -/

/-- The 64-bit value of which an address is one word: the addresses of both words and the value. -/
def State.regPair (s : State) (a : Nat) : Option (Nat × Nat × Nat) :=
  let lo := a / 8 * 8
  let v := if a / 0x10000 = 0x10 then s.timePair (lo % 0x10000) else if a / 0x10000 = 0x11 then
    (if lo % 0x10000 = 0x40 then some (s.attic.selLo.toNat + 2 ^ 32 * s.attic.selHi.toNat) else s.atticPair (lo % 0x10000)) else none
  v.map fun x => (lo, lo + 4, x)

/-- One word as a session reads it: a _LO word latches its _HI word for the session, whose next read of that word uses the latch up; a range that holds both leaves it alone. -/
def State.readWord (sess : Nat) (ws : List Nat) (a : Nat) (s : State) : State × Nat :=
  let v := (s.reg a).val
  match s.regPair a with
  | none => (if a / 0x10000 = 0xC && a % 0x1000 = 4 then s.free.2 else s, v)
  | some (lo, hi, x) =>
    let t := s.sessAt sess
    if ws.contains lo && ws.contains hi then (s, v)
    else if a = lo then (s.setSess sess { t with hiLatch := AMap.put hi (halfOf true x) t.hiLatch }, v)
    else match t.hiLatch.find hi with
      | some l => (s.setSess sess { t with hiLatch := AMap.del hi t.hiLatch }, l)
      | none => (s, v)

/-- The class of a bit; none is reserved (R12). -/
def Reg.classOf (r : Reg) (b : Nat) : Option RegClass := (r.fields.find? fun f => f.2.1 ≤ b && b ≤ f.1).map fun f => f.2.2
/-- Runs of adjacent bits of one class, from bit `b` down; `top` is where the present run began. -/
def classRuns (r : Reg) (top : Nat) : Nat → List (Nat × Nat × Option RegClass)
  | 0 => [(top, 0, r.classOf 0)]
  | b + 1 => if r.classOf b = r.classOf (b + 1) then classRuns r top b else (top, b + 1, r.classOf (b + 1)) :: classRuns r b b
/-- class= of SHOW REG (R729). -/
def Reg.classText (r : Reg) : String :=
  joinWith "," ((classRuns r 31 31).map fun x => "[" ++ toString x.1 ++ ":" ++ toString x.2.1 ++ "]" ++ (match x.2.2 with
    | some c => classWordOf c
    | none => "RESERVED"))

/-- One word of GET or SHOW: its lines, or in a range its failure (R66, R730). -/
def readStep (sess : Nat) (ph : Phrase) (ws : List Nat) (a : Nat) (acc : State × List KVs) : State × List KVs :=
  match pickErr (acc.1.regErrs sess ph a) with
  | some e => (acc.1, acc.2 ++ [[("inst", showHex 8 a), ("err", ecodeWord e.code)]])
  | none =>
    let r := acc.1.readWord sess ws a
    (r.1, acc.2 ++ [("addr", showHex 8 a), ("value", showHex 8 r.2)] :: (if ph.verb = .showV then [[("class", (acc.1.reg a).classText)]] else []))

/-- GET or SHOW of registers. -/
def regGet (sess : Nat) (ph : Phrase) (s : State) : Ans :=
  let ws := regWords ph
  { errs := regRangeErrs ph ++ extraAttrs ph ["VALUE"] ++ (if ph.ranged then [] else s.regErrs sess ph (ws.headD 0))
    act := fun s => ws.foldl (fun acc a => readStep sess ph ws a acc) (s, []) }

/-- GET_REG (R729). -/
def execGetReg (sess : Nat) (ph : Phrase) (s : State) : Host.Outcome State Fault Refusal := .next (runRow "GET_REG" sess ph (regGet sess ph) s)
/-- SHOW_REG (R729). -/
def execShowReg (sess : Nat) (ph : Phrase) (s : State) : Host.Outcome State Fault Refusal := .next (runRow "SHOW_REG" sess ph (regGet sess ph) s)

end Sys2Proof.Machine
end

