-- ==== Sys2Proof/Machine/Read.lean ====
section
/-!
DEFINITION. Sys2Proof/Machine/Read.lean: reading the attributes of every noun (R58, R59, R66, R79 to R81, R85, R86): GET of attributes, GET of latched results, SHOW and HELP.
-/
namespace Sys2Proof.Machine

/-! ### One attribute of any noun -/

/-- The nouns all of whose attributes are read from the machine rather than from the stored configuration. -/
def liveNoun (n : Noun) : Bool := n = .session || n = .device || n = .part || n = .key || n = .time || n = .profile

/-- The attributes of a sub's latch or sample, where it has any. -/
def State.idxRead (s : State) (n : Nat) (name : String) : String :=
  match (s.odoAt n).idx with
  | some x => if name = "COUNT" then toString x.1 else yesNo x.2
  | none => "NONE"

/-- A read-only attribute, or one of a noun that is read live. -/
def State.readLive (s : State) (sess : Nat) (n : Noun) (ix : Option Nat) (sub name : String) : String :=
  let i := ix.getD 0
  match n with
  | .session => s.sessionRead sess name
  | .device => s.deviceRead name
  | .part => s.partRead i name
  | .key => s.keyRead name
  | .impl => s.implRead i name
  | .sec => s.secRead i name
  | .prod => s.prodRead i name
  | .chan => s.driveRead i name
  | .gdr => s.driveRead (48 + i) name
  | .pair => if s.pairEven i then useWord (s.unitUse i) else "NONE"
  | .prof => toString (holdOf (s.profPhases i))
  | .diag => s.diagRead i name
  | .grant => s.grantRead i name
  | .odo => if sub = "IDX" then s.idxRead i name else s.odoRead i name
  | .cmp => s.cmpRead i name
  | .ssp => s.sspRead i name
  | .gnss => s.gnssRead name
  | .sat => s.satRead i name
  | .aid => ""
  | .map => s.mapRead ix name
  | .cellar => s.cellarRead name
  | .larder => s.larderRead ix name
  | .log => s.logRead name
  | .profile => s.profileRead ix name
  | .can => s.canRead i name
  | .filter => showHex 16 (s.filterEntry i (((natOf (sub.toList.drop 1))).getD 0)).raw
  | .peer => s.peerRead name
  | .node => s.nodeRead i name
  | .uart => s.uartRead i name
  | .spi => s.spiRead name
  | .i2c => s.i2cRead i name
  | .pin => s.pinRead i name
  | .time => s.timeRead name
  | .attic => s.atticRead ix name
  | .trace => s.traceRead name
  | .power => s.powerRead name
  | .fault => s.faultRead i name
  | .reg => showHex 8 (s.reg i).val

/-- The value of an attribute as replies give it: read live, or from the stored configuration (R119). -/
def State.readAttr (s : State) (sess : Nat) (n : Noun) (ix : Option Nat) (sub name : String) : String :=
  match specFind name (specs n ix sub) with
  | some a => if a.role = .ro || liveNoun n || n = .reg then s.readLive sess n ix sub name else renderVal a.form (s.val n (ix.getD 0) name sub)
  | none => ""

/-! ### What GET answers of one instance -/

/-- The nouns and subs whose attributes GET, SHOW and WATCH read (Table PHR-9). -/
def readsNoun (n : Noun) (sub : String) : Bool :=
  match n with
  | .filter => sub ≠ ""
  | .impl | .prof | .gnss | .odo => true
  | .aid | .can | .uart | .i2c => sub = ""
  | _ => true

/-- The latch that a phrase reads has not been latched yet, or holds nothing new (R80, R81). -/
def State.readLatchErrs (s : State) (sess : Nat) (p : Phrase) (k : Nat) : List Err :=
  match p.noun with
  | none => []
  | some r =>
    if p.adv .new || readsLatch p r then
      match r.noun with
      | .odo => s.latchErrs sess p .odo k "" (s.odoAt k).snap.isSome (s.odoAt k).epoch
      | .ssp => s.latchErrs sess p .ssp k "" (decide ((s.sspAt k).epoch ≠ 0)) (s.sspAt k).epoch
      | _ => []
    else []

/-- The checks of a GET of attributes. -/
def State.getAttrErrs (s : State) (sess : Nat) (p : Phrase) (n : Noun) (k : Nat) : List Err :=
  s.unitErrs sess p n (p.inst k)
    ++ (if readsNoun n p.sub then getErrs (specs n (p.inst k) p.sub) p else [⟨.attr, some p.verbTok⟩])
    ++ s.readLatchErrs sess p k

/-- The keys and values of the named attributes. -/
def State.attrKVs (s : State) (sess : Nat) (n : Noun) (ix : Option Nat) (sub : String) (names : List String) : KVs :=
  names.map fun a => (lower a, s.readAttr sess n ix sub a)

/-- The epoch of the latch of an odometry unit or serial port. -/
def State.latchEpoch (s : State) (n : Noun) (k : Nat) : Nat := if n = .odo then (s.odoAt k).epoch else (s.sspAt k).epoch

/-- GET of attributes, of one instance. -/
def attrGet (sess : Nat) (p : Phrase) (k : Nat) (s : State) : Ans :=
  let n := p.nn.getD .session
  Ans.read (s.getAttrErrs sess p n k) fun s => [s.attrKVs sess n (p.inst k) p.sub (getNames p n (p.inst k))]

/-- GET of the latch of an odometry unit or serial port: every line carries its epoch (R79), which the session has then read (R81). -/
def latchGet (sess : Nat) (p : Phrase) (k : Nat) (s : State) : Ans :=
  let n := p.nn.getD .odo
  { errs := s.getAttrErrs sess p n k
    act := fun s => (s.noteEpoch sess n k "" (s.latchEpoch n k), [s.attrKVs sess n (p.inst k) p.sub (getNames p n (p.inst k)) ++ [("epoch", toString (s.latchEpoch n k))]]) }

/-- GET_ATTRIBUTES (R58, R59, R66). -/
def execGetAttributes (sess : Nat) (ph : Phrase) (s : State) : Host.Outcome State Fault Refusal :=
  .next (runRow "GET_ATTRIBUTES" sess ph (fun s => perInst sess ph (attrGet sess ph) s) s)

/-- GET_LATCHED_RESULT (R80). -/
def execGetLatchedResult (sess : Nat) (ph : Phrase) (s : State) : Host.Outcome State Fault Refusal :=
  .next (runRow "GET_LATCHED_RESULT" sess ph (fun s => perInst sess ph (latchGet sess ph) s) s)

/-- GET_LATCHED_NEW (R81): of an odometry unit, a serial port or a GPS result. -/
def execGetLatchedNew (sess : Nat) (ph : Phrase) (s : State) : Host.Outcome State Fault Refusal :=
  .next (runRow "GET_LATCHED_NEW" sess ph (fun s => perInst sess ph (fun k a => if ph.nn = some .gnss then gnssGet sess ph k a else latchGet sess ph k a) s) s)

/-! ### What GET would answer, for SHOW and WATCH -/

/-- The errors and lines of a GET of one instance: a noun or sub with a reply of its own gives that (R58). -/
def State.getLines (s : State) (sess : Nat) (p : Phrase) (k : Nat) : List Err × List KVs :=
  let own (a : Ans) : List Err × List KVs := (a.errs, (a.act s).2)
  match p.nn, p.sub with
  | some .gnss, "POS" | some .gnss, "RAW" => own (gnssGet sess p k s)
  | some .impl, "POS" | some .impl, "MOT" => own (sampleGet sess p k s)
  | some .odo, "IDX" => own (odoIdxGet sess p k s)
  | some .aid, _ => own (aidGet sess p s)
  | some .reg, _ => (s.regErrs sess p k ++ extraAttrs p ["VALUE"], [[("value", showHex 8 (s.reg k).val)]])
  | _, _ => own (attrGet sess p k s)

/-! ### SHOW (R86) -/

/-- Every attribute, then every status field, in the order of the table; or those named. -/
def showNames (p : Phrase) (n : Noun) (k : Nat) : List String :=
  let sp := (specs n (p.inst k) p.sub).filter fun a => a.role ≠ .wo && (p.attrs.isEmpty || p.has a.name)
  ((sp.filter fun a => a.role ≠ .ro) ++ sp.filter fun a => a.role = .ro).map AttrSpec.name

/-- SHOW of one instance. -/
def showAns (sess : Nat) (p : Phrase) (k : Nat) (s : State) : Ans :=
  let n := p.nn.getD .session
  if n = .aid || (n = .gnss && p.sub ≠ "") || (n = .impl && p.sub ≠ "") then
    Ans.read (s.getLines sess p k).1 fun s => (s.getLines sess p k).2
  else
    Ans.read (s.unitErrs sess p n (p.inst k) ++ if readsNoun n p.sub then getErrs (specs n (p.inst k) p.sub) p else [⟨.attr, some p.verbTok⟩])
      fun s => [s.attrKVs sess n (p.inst k) p.sub (showNames p n k)]

/-- The numbers of the open sessions. -/
def State.openSessions (s : State) : List Nat := allSessions.filter fun i => (s.sessAt i).opened

/-- SHOW (R86): of a noun's instances, or without a noun of the session and the open sessions. -/
def execShow (sess : Nat) (ph : Phrase) (s : State) : Host.Outcome State Fault Refusal :=
  .next (runRow "SHOW" sess ph (fun s => match ph.noun with
    | none => Ans.read [] fun s => [s.attrKVs sess .session none "" (showNames ph .session 0), [("sessions", showList s.openSessions)]]
    | some _ => perInst sess ph (showAns sess ph) s) s)

/-! ### HELP (R85) -/

/-- The adverbs a verb accepts, in the order of Table PHR-5; FORCE with a verb for which some chapter names it. -/
def verbAdverbs (v : Verb) : List String :=
  ([("NOW", Adverb.now), ("ONCE", .once), ("NEW", .new), ("EVERY", .every), ("UNTIL", .until), ("QUIET", .quiet), ("FORCE", .force)].filter fun a => adverbAllowed v (some .peer) a.2).map Prod.fst

/-- The verbs in the order of Table PHR-4. -/
def helpVerbs : List Verb := [.set, .get, .showV, .start, .stop, .arm, .disarm, .reset, .load, .save, .test, .watch, .login, .logout, .help]

/-- The line of a verb. -/
def verbLine (v : Verb) : KVs :=
  let as := verbAdverbs v
  [("verb", verbWord v), ("adverbs", if as.isEmpty then "NONE" else joinWith "," as)]

/-- The line of an attribute. -/
def attrLine (absent : Bool) (a : AttrSpec) : KVs :=
  [("attr", a.name), ("range", rangeText a.form), ("unit", if a.unit = "" then "-" else a.unit), ("default", renderVal a.form a.dflt), ("run", if a.run = .no then "NO" else "YES"),
    ("role", match a.role with
      | .part => "PART"
      | .ro => "RO"
      | _ => "SUPER")] ++ (if absent then [("absent", "YES")] else [])

/-- HELP (R85). -/
def execHelp (sess : Nat) (ph : Phrase) (s : State) : Host.Outcome State Fault Refusal :=
  .next (runRow "HELP" sess ph (fun s =>
    Ans.read (extraAttrs ph []) fun _ => match ph.noun with
      | none => helpVerbs.map verbLine
      | some r => (specs r.noun ph.ix r.sub).map (attrLine (s.nounAbsent r.noun (ph.ix.getD 0)))) s)

end Sys2Proof.Machine
end

