-- ==== Sys2Proof/Machine/Settings.lean ====
section
/-!
DEFINITION. Sys2Proof/Machine/Settings.lean: SET of the attributes that have no row of their own (R118 to R121), and a verb that a noun does not accept (R59).
-/
namespace Sys2Proof.Machine

/-- SET of PROF or of one of its phases (R372, R386): while no unit that uses the profile is in use. -/
def profSet (sess : Nat) (ph : Phrase) (s : State) : Ans :=
  perInst sess ph (fun n s =>
    let sp := specs .prof (some n) ph.sub
    Ans.eff (s.unitErrs sess ph .prof (some n) ++ setAttrErrs sp (s.sessAt sess).super ph ++ errIf ((List.range 56).any fun u => s.unitInUse u && s.uNat u "PROF" = n) .state)
      (storeAttrs sp .prof n ph.sub ph)) s

/-- SET of FAULT (R670, R671): FLTNCLASS at any time; HBTIME while its partition is not RUNNING. -/
def faultSet (sess : Nat) (ph : Phrase) (s : State) : Ans :=
  perInst sess ph (fun n s =>
    let sp := faultAttrs ph.ix.isSome
    Ans.eff (s.unitErrs sess ph .fault (ph.inst n) ++ setAttrErrs sp (s.sessAt sess).super ph ++ errIf (ph.ix.isSome && (s.partAt n).state = .running) .state)
      (storeAttrs sp .fault n "" ph)) s

/-- SET of PROD: a unit that OUTUNIT names must be present and not RETIRED (R4, R43). -/
def prodSetFull (sess : Nat) (ph : Phrase) (s : State) : Ans :=
  perInst sess ph (fun p s =>
    let a := prodSet sess { ph with noun := some { noun := .prod, idx := .one p } } s
    { a with errs := s.namedUnitErrs ph prodAttrs ["OUTUNIT"] ++ a.errs }) s

/-- A verb that the noun does not accept (R59). -/
def notAccepted (sess : Nat) (ph : Phrase) (s : State) : Ans :=
  perInst sess ph (fun k s => { errs := (match ph.nn with
    | some n => s.unitErrs sess ph n (ph.inst k) (n = .session || n = .reg) ++ errIf (n = .diag && (s.unitAt k).retired) .retired
    | none => []) ++ [⟨.attr, some ph.verbTok⟩] }) s

/-- What SET_ATTRIBUTES does: the SET of the noun's chapter; every other phrase of this row has a verb that the noun does not accept. -/
def attrSet (sess : Nat) (ph : Phrase) (s : State) : Ans :=
  match ph.noun with
  | none => notAccepted sess ph s
  | some r =>
    if ph.verb ≠ .set || (r.sub ≠ "" && !setsSub r.noun) then notAccepted sess ph s
    else match r.noun with
    | .device => deviceSet sess ph s
    | .impl => implSet sess ph s
    | .sec => secSet sess ph s
    | .prod => prodSetFull sess ph s
    | .chan | .gdr => chanSet sess ph s
    | .prof => profSet sess ph s
    | .diag => diagSet sess ph s
    | .odo => odoSet sess ph s
    | .ssp => sspSet sess ph s
    | .gnss => gnssSet sess ph s
    | .map => mapSet sess ph s
    | .log => logSet sess ph s
    | .can => canSet sess ph s
    | .filter => if r.sub = "" then notAccepted sess ph s else canSet sess ph s
    | .peer => peerSet sess ph s
    | .uart | .spi | .i2c => portSet sess ph s
    | .pin => pinSet sess ph s
    | .trace => traceSet sess ph s
    | .power => powerSet sess ph s
    | .fault => faultSet sess ph s
    | _ => notAccepted sess ph s

/-- SET_ATTRIBUTES (R58, R59, R118, R119). -/
def execSetAttributes (sess : Nat) (ph : Phrase) (s : State) : Host.Outcome State Fault Refusal :=
  .next (runRow "SET_ATTRIBUTES" sess ph (attrSet sess ph) s)

end Sys2Proof.Machine
end

