-- ==== Sys2Proof/Machine/Watches.lean ====
section
/-!
DEFINITION. Sys2Proof/Machine/Watches.lean: watches (R77, R78, R340).
-/
namespace Sys2Proof.Machine

/-- The noun of a watch. -/
def Watch.ref (w : Watch) : NounRef := { noun := w.noun, idx := if w.hasIdx then .one w.idx else .none, sub := w.sub }
/-- The GET that reads what a watch watches. -/
def Watch.phrase (w : Watch) : Phrase := { verb := .get, noun := some w.ref, nounTok := w.nounText, attrs := w.names.map fun a => { name := a, tok := a } }
/-- A watch of the same noun and index. -/
def Watch.same (w v : Watch) : Bool := w.ref = v.ref

/-- What a watch shows now: its lines, or the code GET would answer. A GPS result gives its whole line set. -/
def State.watchLines (s : State) (i : Nat) (w : Watch) : Except ECode (List KVs) :=
  let r := s.getLines i w.phrase w.idx
  match pickErr r.1 with
  | some e => .error e.code
  | none => .ok r.2

/-- A watch of a GPS result: it delivers by latches (R340). -/
def Watch.perLatch (w : Watch) : Bool := w.noun = .gnss && w.sub ≠ ""

/-- What decides whether a watch has something new: its values, or the epoch of a GPS result. -/
def Watch.mark (w : Watch) (ls : List KVs) : List (String × String) :=
  if w.perLatch then (ls.headD []).filter fun p => p.1 = "epoch" else ls.flatten

/-- Replace a watch of a session. -/
def State.putWatch (i : Nat) (w : Watch) (s : State) : State :=
  let x := s.sessAt i
  s.setSess i { x with watches := x.watches.map fun v => if v.same w then w else v }

/-- A watch delivers its lines now, or its err= line (R77). -/
def State.watchSend (i : Nat) (w : Watch) (s : State) : State :=
  let say (t : String) (a : State) : State := a.ev "PHR" (.one i) (w.nounText ++ " WATCH " ++ t)
  match s.watchLines i w with
  | .error e => (say ("err=" ++ ecodeWord e) s).putWatch i { w with lastAt := s.now, lastVals := [], lastErr := true }
  | .ok ls => (overList ls (fun l a => say (joinWith " " (kvText l)) a) s).putWatch i { w with lastAt := s.now, lastVals := w.mark ls, lastErr := false }

/-- The watch of a session on a noun. -/
def State.watchOn (s : State) (i : Nat) (r : NounRef) : Option Watch := (s.sessAt i).watches.find? fun w => decide (w.ref = r)

/-- EVERY or UNTIL in ns: within range and in whole milliseconds (Table PHR-5). -/
def adverbTime (ph : Phrase) (a : Adverb) (lo hi : Nat) : Option Nat :=
  match (ph.advs.find? fun d => d.adv = a).bind AdvTok.value with
  | none => none
  | some v => match parseTime v with
    | some t => if lo ≤ t && t ≤ hi && t % 1000 = 0 then some (1000 * t) else none
    | none => none
/-- A time adverb out of range (E-RANGE at its token). -/
def adverbErrs (ph : Phrase) (a : Adverb) (lo hi : Nat) : List Err :=
  match ph.advs.find? fun d => d.adv = a with
  | some d => errIf (adverbTime ph a lo hi).isNone .range (some d.tok)
  | none => []

/-- The watch that a phrase begins. -/
def watchOfPhrase (ph : Phrase) (now : Nat) : Watch :=
  let r := ph.noun.getD { noun := .session }
  { noun := r.noun, idx := ph.ix.getD 0, hasIdx := ph.ix.isSome, sub := r.sub, names := ph.attrs.map AttrTok.name, every := adverbTime ph .every 10000 3600000000
    untilAt := (adverbTime ph .until 0 86400000000).map (now + ·), lastAt := now }

/-- What WATCH finds: the errors of GET but for a latch that is not there yet, which the line at start reports. -/
def State.watchErrs (s : State) (sess : Nat) (ph : Phrase) : List Err :=
  let k := ph.ix.getD 0
  let n := ph.nn.getD .session
  (if n = .reg then s.regErrs sess ph k ++ extraAttrs ph ["VALUE"]
    else s.unitErrs sess ph n ph.ix ++
      (if !readsNoun n ph.sub then [⟨.attr, some ph.verbTok⟩]
       else if n = .impl && ph.sub ≠ "" then extraAttrs ph ((Sample.show {} (ph.sub = "POS")).map Prod.fst) ++ (ph.attrs.filter fun a => a.value.isSome).map fun a => ⟨.attr, some a.tok⟩
       else if n = .aid || ((n = .gnss || n = .odo) && ph.sub ≠ "") then keyErrs ph (if n = .gnss && ph.sub = "POS" then posKeys else if n = .odo then ["COUNT", "SLIP"] else [])
       else getErrs (specs n ph.ix ph.sub) ph))
    ++ adverbErrs ph .every 10000 3600000000 ++ adverbErrs ph .until 0 86400000000

/-- WATCH (R77, R78): begins or replaces a watch, or with UNTIL=0ms ends it; its line at start follows the OK. -/
def watchAns (sess : Nat) (ph : Phrase) (s : State) : Ans :=
  let r := ph.noun.getD { noun := .session }
  let ends := adverbTime ph .until 0 86400000000 = some 0
  let held := (s.watchOn sess r).isSome
  { errs := s.watchErrs sess ph ++ errIf (!ends && !held && 16 ≤ (s.sessAt sess).watches.length) .full
    act := fun s =>
      let x := s.sessAt sess
      let rest := x.watches.filter fun w => !decide (w.ref = r)
      (s.setSess sess { x with watches := if ends then rest else rest ++ [watchOfPhrase ph s.now] }, [])
    post := fun s =>
      match s.watchOn sess r with
      | none => s
      | some w =>
        let s1 := s.watchSend sess w
        if ph.adv .once then s1.endWatch sess ((s1.watchOn sess r).getD w) else s1 }

/-- WATCH (R77). -/
def execWatch (sess : Nat) (ph : Phrase) (s : State) : Host.Outcome State Fault Refusal := .next (runRow "WATCH" sess ph (watchAns sess ph) s)

/-- WATCH_EVERY_TICK (R77): the interval has passed since the last line. -/
def execWatchEveryTick (sess : Nat) (noun : NounRef) (s : State) : Host.Outcome State Fault Refusal :=
  match s.watchOn sess noun with
  | none => .next s
  | some w => match w.every with
    | none => .next s
    | some t =>
      let s1 := s.advanceTo (w.lastAt + t)
      let s2 := s1.watchSend sess w
      .next (match s2.watchOn sess noun with
        | some v => s2.putWatch sess { v with lastAt := w.lastAt + t }
        | none => s2)

/-- A watch without EVERY has a change to deliver: readable again after an err= line, or other values than its last line gave. -/
def State.watchDue (s : State) (i : Nat) (w : Watch) : Bool :=
  match s.watchLines i w with
  | .error _ => !w.lastErr
  | .ok ls => w.lastErr || decide (w.mark ls ≠ w.lastVals)

/-- WATCH_CHANGE_DELIVERY (R77, R340): at once after an err= line and for a GPS latch, else 10 ms after the last line at the earliest, with the latest values. -/
def execWatchChangeDelivery (sess : Nat) (noun : NounRef) (s : State) : Host.Outcome State Fault Refusal :=
  match s.watchOn sess noun with
  | none => .next s
  | some w =>
    if w.every.isSome || !s.watchDue sess w then .next s
    else
      let s1 := if w.lastErr || w.perLatch then s else s.advanceTo (w.lastAt + 10 * nsMs)
      .next (if s1.watchDue sess w then s1.watchSend sess w else s1)

/-- WATCH_UNTIL_EXPIRY (R78). -/
def execWatchUntilExpiry (sess : Nat) (noun : NounRef) (s : State) : Host.Outcome State Fault Refusal :=
  match s.watchOn sess noun with
  | none => .next s
  | some w => match w.untilAt with
    | none => .next s
    | some t => .next ((s.advanceTo t).endWatch sess w)

end Sys2Proof.Machine
end

