-- ==== Sys2Proof/Machine/Dispatch.lean ====
section
/-!
DEFINITION. Sys2Proof/Machine/Dispatch.lean: one arm per command of the opcode table, each a direct call of its meaning.
-/
namespace Sys2Proof.Machine

/-- The effect of a command on everything but the queue of commands. -/
def exec (i : Instr) (s : State) : Host.Outcome State Fault Refusal :=
  match i with
  | .sessionInputCharacter sess ch tagged => Sys2Proof.Machine.execSessionInputCharacter sess ch tagged s
  | .phraseLineComplete sess ch => Sys2Proof.Machine.execPhraseLineComplete sess ch s
  | .outputSpaceReturn sess n => Sys2Proof.Machine.execOutputSpaceReturn sess n s
  | .setAttributes sess ph => Sys2Proof.Machine.execSetAttributes sess ph s
  | .getAttributes sess ph => Sys2Proof.Machine.execGetAttributes sess ph s
  | .getLatchedResult sess ph => Sys2Proof.Machine.execGetLatchedResult sess ph s
  | .getLatchedNew sess ph => Sys2Proof.Machine.execGetLatchedNew sess ph s
  | .show sess ph => Sys2Proof.Machine.execShow sess ph s
  | .help sess ph => Sys2Proof.Machine.execHelp sess ph s
  | .watch sess ph => Sys2Proof.Machine.execWatch sess ph s
  | .watchEveryTick sess noun => Sys2Proof.Machine.execWatchEveryTick sess noun s
  | .watchChangeDelivery sess noun => Sys2Proof.Machine.execWatchChangeDelivery sess noun s
  | .watchUntilExpiry sess noun => Sys2Proof.Machine.execWatchUntilExpiry sess noun s
  | .setSession sess ph => Sys2Proof.Machine.execSetSession sess ph s
  | .getSession sess ph => Sys2Proof.Machine.execGetSession sess ph s
  | .resetSession sess ph => Sys2Proof.Machine.execResetSession sess ph s
  | .logout sess ph => Sys2Proof.Machine.execLogout sess ph s
  | .routedPhraseSend sess => Sys2Proof.Machine.execRoutedPhraseSend sess s
  | .routedPhraseSilence sess => Sys2Proof.Machine.execRoutedPhraseSilence sess s
  | .peerSessionIdleExpiry sess => Sys2Proof.Machine.execPeerSessionIdleExpiry sess s
  | .loginSuper sess ph => Sys2Proof.Machine.execLoginSuper sess ph s
  | .loginSuperResp sess ph => Sys2Proof.Machine.execLoginSuperResp sess ph s
  | .loginChallengeExpiry sess => Sys2Proof.Machine.execLoginChallengeExpiry sess s
  | .loginLockoutEnd => Sys2Proof.Machine.execLoginLockoutEnd s
  | .superIdleExpiry sess => Sys2Proof.Machine.execSuperIdleExpiry sess s
  | .setPartOwnership sess ph => Sys2Proof.Machine.execSetPartOwnership sess ph s
  | .setDeviceSecpin sess ph => Sys2Proof.Machine.execSetDeviceSecpin sess ph s
  | .setDevicePinlock sess ph => Sys2Proof.Machine.execSetDevicePinlock sess ph s
  | .setDeviceOwnlock sess ph => Sys2Proof.Machine.execSetDeviceOwnlock sess ph s
  | .setKey sess ph => Sys2Proof.Machine.execSetKey sess ph s
  | .getKey sess ph => Sys2Proof.Machine.execGetKey sess ph s
  | .stopPart sess ph => Sys2Proof.Machine.execStopPart sess ph s
  | .resetPart sess ph => Sys2Proof.Machine.execResetPart sess ph s
  | .partResetComplete part badOdo => Sys2Proof.Machine.execPartResetComplete part badOdo s
  | .resetDevice sess ph => Sys2Proof.Machine.execResetDevice sess ph s
  | .plannerCycle differ => Sys2Proof.Machine.execPlannerCycle differ s
  | .plannerLaneCheckDone failA failB => Sys2Proof.Machine.execPlannerLaneCheckDone failA failB s
  | .secStoptimeExpiry sec => Sys2Proof.Machine.execSecStoptimeExpiry sec s
  | .lostholdExpiry impl => Sys2Proof.Machine.execLostholdExpiry impl s
  | .startImpl sess ph => Sys2Proof.Machine.execStartImpl sess ph s
  | .implBindTimeout impl => Sys2Proof.Machine.execImplBindTimeout impl s
  | .stopImpl sess ph => Sys2Proof.Machine.execStopImpl sess ph s
  | .setImplPos sess ph => Sys2Proof.Machine.execSetImplPos sess ph s
  | .setImplMot sess ph => Sys2Proof.Machine.execSetImplMot sess ph s
  | .getImplSample sess ph => Sys2Proof.Machine.execGetImplSample sess ph s
  | .setSecManual sess ph => Sys2Proof.Machine.execSetSecManual sess ph s
  | .setSecOverlap sess ph => Sys2Proof.Machine.execSetSecOverlap sess ph s
  | .commandRelease sec => Sys2Proof.Machine.execCommandRelease sec s
  | .cellarInitComplete r => Sys2Proof.Machine.execCellarInitComplete r s
  | .scrubBurst r => Sys2Proof.Machine.execScrubBurst r s
  | .setCellar sess ph => Sys2Proof.Machine.execSetCellar sess ph s
  | .resetCellar sess ph => Sys2Proof.Machine.execResetCellar sess ph s
  | .setMapStage sess ph => Sys2Proof.Machine.execSetMapStage sess ph s
  | .loadMapTile sess ph => Sys2Proof.Machine.execLoadMapTile sess ph s
  | .getMapTile sess ph => Sys2Proof.Machine.execGetMapTile sess ph s
  | .getMapCell sess ph => Sys2Proof.Machine.execGetMapCell sess ph s
  | .resetMapLayer sess ph => Sys2Proof.Machine.execResetMapLayer sess ph s
  | .resetMapAll sess ph => Sys2Proof.Machine.execResetMapAll sess ph s
  | .saveMap sess ph => Sys2Proof.Machine.execSaveMap sess ph s
  | .loadMapNor sess ph => Sys2Proof.Machine.execLoadMapNor sess ph s
  | .mapCopyComplete r => Sys2Proof.Machine.execMapCopyComplete r s
  | .logInterval => Sys2Proof.Machine.execLogInterval s
  | .logChangeWrite => Sys2Proof.Machine.execLogChangeWrite s
  | .logNorWrite => Sys2Proof.Machine.execLogNorWrite s
  | .getLog sess ph => Sys2Proof.Machine.execGetLog sess ph s
  | .resetLog sess ph => Sys2Proof.Machine.execResetLog sess ph s
  | .larderBackgroundPass r => Sys2Proof.Machine.execLarderBackgroundPass r s
  | .saveProfile sess ph => Sys2Proof.Machine.execSaveProfile sess ph s
  | .loadProfile sess ph => Sys2Proof.Machine.execLoadProfile sess ph s
  | .setProfileBoot sess ph => Sys2Proof.Machine.execSetProfileBoot sess ph s
  | .resetProfile sess ph => Sys2Proof.Machine.execResetProfile sess ph s
  | .meteringCycle => Sys2Proof.Machine.execMeteringCycle s
  | .fbTimeout prod => Sys2Proof.Machine.execFbTimeout prod s
  | .startProd sess ph => Sys2Proof.Machine.execStartProd sess ph s
  | .stopProd sess ph => Sys2Proof.Machine.execStopProd sess ph s
  | .setProdTarget sess ph => Sys2Proof.Machine.execSetProdTarget sess ph s
  | .odoCountEdge unit ts c => Sys2Proof.Machine.execOdoCountEdge unit ts c s
  | .odoIndexEdge unit ts => Sys2Proof.Machine.execOdoIndexEdge unit ts s
  | .odoSnapshot => Sys2Proof.Machine.execOdoSnapshot s
  | .odoWindowGate unit => Sys2Proof.Machine.execOdoWindowGate unit s
  | .odoZerotime unit => Sys2Proof.Machine.execOdoZerotime unit s
  | .cmpListRefill unit => Sys2Proof.Machine.execCmpListRefill unit s
  | .cmpPulseEnd unit => Sys2Proof.Machine.execCmpPulseEnd unit s
  | .odoPlausCheck => Sys2Proof.Machine.execOdoPlausCheck s
  | .startOdo sess ph => Sys2Proof.Machine.execStartOdo sess ph s
  | .stopOdo sess ph => Sys2Proof.Machine.execStopOdo sess ph s
  | .armOdoIdx sess ph => Sys2Proof.Machine.execArmOdoIdx sess ph s
  | .disarmOdoIdx sess ph => Sys2Proof.Machine.execDisarmOdoIdx sess ph s
  | .getOdoIdx sess ph => Sys2Proof.Machine.execGetOdoIdx sess ph s
  | .setOdoMpcProposed sess ph => Sys2Proof.Machine.execSetOdoMpcProposed sess ph s
  | .armCmp sess ph => Sys2Proof.Machine.execArmCmp sess ph s
  | .disarmCmp sess ph => Sys2Proof.Machine.execDisarmCmp sess ph s
  | .getCmp sess ph => Sys2Proof.Machine.execGetCmp sess ph s
  | .getCmpList sess ph => Sys2Proof.Machine.execGetCmpList sess ph s
  | .sspCycleDue port dataHigh => Sys2Proof.Machine.execSspCycleDue port dataHigh s
  | .sspTimeout port => Sys2Proof.Machine.execSspTimeout port s
  | .sspCycleComplete port bits => Sys2Proof.Machine.execSspCycleComplete port bits s
  | .startSsp sess ph => Sys2Proof.Machine.execStartSsp sess ph s
  | .stopSsp sess ph => Sys2Proof.Machine.execStopSsp sess ph s
  | .startGnss sess ph => Sys2Proof.Machine.execStartGnss sess ph s
  | .stopGnss sess ph => Sys2Proof.Machine.execStopGnss sess ph s
  | .antStateChange state ma => Sys2Proof.Machine.execAntStateChange state ma s
  | .antShortRetest ma => Sys2Proof.Machine.execAntShortRetest ma s
  | .notchStateChange k state hz full => Sys2Proof.Machine.execNotchStateChange k state hz full s
  | .jamEval jami => Sys2Proof.Machine.execJamEval jami s
  | .acqBurst assign found => Sys2Proof.Machine.execAcqBurst assign found s
  | .acqRetry => Sys2Proof.Machine.execAcqRetry s
  | .navSubframeDecoded r => Sys2Proof.Machine.execNavSubframeDecoded r s
  | .channelLockLost c => Sys2Proof.Machine.execChannelLockLost c s
  | .watchCorrelatorScan c off db => Sys2Proof.Machine.execWatchCorrelatorScan c off db s
  | .gnssEpochLatch meas bias drift => Sys2Proof.Machine.execGnssEpochLatch meas bias drift s
  | .gnssSolution r => Sys2Proof.Machine.execGnssSolution r s
  | .gpsTimeTimeout => Sys2Proof.Machine.execGpsTimeTimeout s
  | .aidPeriodicSave => Sys2Proof.Machine.execAidPeriodicSave s
  | .getGnssPos sess ph => Sys2Proof.Machine.execGetGnssPos sess ph s
  | .getGnssRaw sess ph => Sys2Proof.Machine.execGetGnssRaw sess ph s
  | .setGnssSubscription sess ph => Sys2Proof.Machine.execSetGnssSubscription sess ph s
  | .setAidTime sess ph => Sys2Proof.Machine.execSetAidTime sess ph s
  | .setAidPos sess ph => Sys2Proof.Machine.execSetAidPos sess ph s
  | .setAidEph sess ph => Sys2Proof.Machine.execSetAidEph sess ph s
  | .setAidAlm sess ph => Sys2Proof.Machine.execSetAidAlm sess ph s
  | .setAidIono sess ph => Sys2Proof.Machine.execSetAidIono sess ph s
  | .getAid sess ph => Sys2Proof.Machine.execGetAid sess ph s
  | .saveAid sess ph => Sys2Proof.Machine.execSaveAid sess ph s
  | .loadAid sess ph => Sys2Proof.Machine.execLoadAid sess ph s
  | .resetAid sess ph => Sys2Proof.Machine.execResetAid sess ph s
  | .phaseEndTime u => Sys2Proof.Machine.execPhaseEndTime u s
  | .phaseTargetReached u ts => Sys2Proof.Machine.execPhaseTargetReached u ts s
  | .phaseTlim u => Sys2Proof.Machine.execPhaseTlim u s
  | .decayTfastEnd u => Sys2Proof.Machine.execDecayTfastEnd u s
  | .slowDecayTimeout u => Sys2Proof.Machine.execSlowDecayTimeout u s
  | .decayComplete u ts => Sys2Proof.Machine.execDecayComplete u ts s
  | .pwmPeriodStart u => Sys2Proof.Machine.execPwmPeriodStart u s
  | .pwmPulseEnd u => Sys2Proof.Machine.execPwmPulseEnd u s
  | .ditherHalf u => Sys2Proof.Machine.execDitherHalf u s
  | .dutySample u ma => Sys2Proof.Machine.execDutySample u ma s
  | .dutyEval u => Sys2Proof.Machine.execDutyEval u s
  | .senseCal u ts => Sys2Proof.Machine.execSenseCal u ts s
  | .safenLow ts => Sys2Proof.Machine.execSafenLow ts s
  | .safenHigh ts => Sys2Proof.Machine.execSafenHigh ts s
  | .startChan sess ph => Sys2Proof.Machine.execStartChan sess ph s
  | .stopChan sess ph => Sys2Proof.Machine.execStopChan sess ph s
  | .setChanState sess ph => Sys2Proof.Machine.execSetChanState sess ph s
  | .setChanDuty sess ph => Sys2Proof.Machine.execSetChanDuty sess ph s
  | .setChanTarget sess ph => Sys2Proof.Machine.execSetChanTarget sess ph s
  | .setPairLink sess ph => Sys2Proof.Machine.execSetPairLink sess ph s
  | .onstateFinding u r => Sys2Proof.Machine.execOnstateFinding u r s
  | .overcurrentTrip u hs fw ls r => Sys2Proof.Machine.execOvercurrentTrip u hs fw ls r s
  | .overtempTrip u temp => Sys2Proof.Machine.execOvertempTrip u temp s
  | .overtempRelease u temp => Sys2Proof.Machine.execOvertempRelease u temp s
  | .diagSweepStart => Sys2Proof.Machine.execDiagSweepStart s
  | .offstateTestStart u => Sys2Proof.Machine.execOffstateTestStart u s
  | .offstateTestComplete u r => Sys2Proof.Machine.execOffstateTestComplete u r s
  | .diagRetest u r => Sys2Proof.Machine.execDiagRetest u r s
  | .suspectExpiry u => Sys2Proof.Machine.execSuspectExpiry u s
  | .testDiag sess ph r => Sys2Proof.Machine.execTestDiag sess ph r s
  | .resetDiag sess ph r => Sys2Proof.Machine.execResetDiag sess ph r s
  | .grantStart u => Sys2Proof.Machine.execGrantStart u s
  | .grantRelease who => Sys2Proof.Machine.execGrantRelease who s
  | .grantEventSecond u => Sys2Proof.Machine.execGrantEventSecond u s
  | .directGrantRetry u => Sys2Proof.Machine.execDirectGrantRetry u s
  | .grantLedgerCompare differ => Sys2Proof.Machine.execGrantLedgerCompare differ s
  | .grantLaneCheckDone failA failB => Sys2Proof.Machine.execGrantLaneCheckDone failA failB s
  | .setGrant sess ph => Sys2Proof.Machine.execSetGrant sess ph s
  | .syncSend => Sys2Proof.Machine.execSyncSend s
  | .syncFrameReceived f g => Sys2Proof.Machine.execSyncFrameReceived f g s
  | .syncTimeout => Sys2Proof.Machine.execSyncTimeout s
  | .hbSend => Sys2Proof.Machine.execHbSend s
  | .hbReceived f => Sys2Proof.Machine.execHbReceived f s
  | .peerLossCheck => Sys2Proof.Machine.execPeerLossCheck s
  | .peerFrameForward f => Sys2Proof.Machine.execPeerFrameForward f s
  | .bindFrameReceived f => Sys2Proof.Machine.execBindFrameReceived f s
  | .unbindFrameReceived f => Sys2Proof.Machine.execUnbindFrameReceived f s
  | .bindackFrameReceived f => Sys2Proof.Machine.execBindackFrameReceived f s
  | .fireFrameReceived f => Sys2Proof.Machine.execFireFrameReceived f s
  | .remoteFireRelease u => Sys2Proof.Machine.execRemoteFireRelease u s
  | .cancelFrameReceived f => Sys2Proof.Machine.execCancelFrameReceived f s
  | .reportFrameReceived f => Sys2Proof.Machine.execReportFrameReceived f s
  | .dutyFrameReceived f => Sys2Proof.Machine.execDutyFrameReceived f s
  | .posFrameReceived f => Sys2Proof.Machine.execPosFrameReceived f s
  | .phrFrameReceived f => Sys2Proof.Machine.execPhrFrameReceived f s
  | .rplFrameReceived f => Sys2Proof.Machine.execRplFrameReceived f s
  | .ackFrameReceived f => Sys2Proof.Machine.execAckFrameReceived f s
  | .peerResend node typ key => Sys2Proof.Machine.execPeerResend node typ key s
  | .phrFragmentTimeout node msg => Sys2Proof.Machine.execPhrFragmentTimeout node msg s
  | .startPeer sess ph => Sys2Proof.Machine.execStartPeer sess ph s
  | .stopPeer sess ph => Sys2Proof.Machine.execStopPeer sess ph s
  | .canFrameReceived n ts f => Sys2Proof.Machine.execCanFrameReceived n ts f s
  | .canTxComplete n ts tdcv => Sys2Proof.Machine.execCanTxComplete n ts tdcv s
  | .canArbitrationLost n => Sys2Proof.Machine.execCanArbitrationLost n s
  | .canBusError n lec tx dom => Sys2Proof.Machine.execCanBusError n lec tx dom s
  | .canBusoffRecovery n => Sys2Proof.Machine.execCanBusoffRecovery n s
  | .canIntegrated n => Sys2Proof.Machine.execCanIntegrated n s
  | .startCan sess ph => Sys2Proof.Machine.execStartCan sess ph s
  | .stopCan sess ph => Sys2Proof.Machine.execStopCan sess ph s
  | .testCan sess ph => Sys2Proof.Machine.execTestCan sess ph s
  | .getCanRx sess ph => Sys2Proof.Machine.execGetCanRx sess ph s
  | .resetCanRx sess ph => Sys2Proof.Machine.execResetCanRx sess ph s
  | .armCanTx sess ph => Sys2Proof.Machine.execArmCanTx sess ph s
  | .disarmCanTx sess ph => Sys2Proof.Machine.execDisarmCanTx sess ph s
  | .uartFrameReceived n r => Sys2Proof.Machine.execUartFrameReceived n r s
  | .uartHuntIdle n => Sys2Proof.Machine.execUartHuntIdle n s
  | .uartXonSend n => Sys2Proof.Machine.execUartXonSend n s
  | .setUartEnable sess ph => Sys2Proof.Machine.execSetUartEnable sess ph s
  | .portSettingsApply n => Sys2Proof.Machine.execPortSettingsApply n s
  | .armUart2Tx sess ph => Sys2Proof.Machine.execArmUart2Tx sess ph s
  | .getUart2Rx sess ph => Sys2Proof.Machine.execGetUart2Rx sess ph s
  | .resetUart2Rx sess ph => Sys2Proof.Machine.execResetUart2Rx sess ph s
  | .spiCsFall ts => Sys2Proof.Machine.execSpiCsFall ts s
  | .spiCsRise ts bytes => Sys2Proof.Machine.execSpiCsRise ts bytes s
  | .i2cXferRead sess ph b => Sys2Proof.Machine.execI2cXferRead sess ph b s
  | .i2cXferWrite sess ph b => Sys2Proof.Machine.execI2cXferWrite sess ph b s
  | .i2cStretchTimeout n => Sys2Proof.Machine.execI2cStretchTimeout n s
  | .pinEdge k ts high => Sys2Proof.Machine.execPinEdge k ts high s
  | .pinEvminEnd k => Sys2Proof.Machine.execPinEvminEnd k s
  | .pinLevel k ts high => Sys2Proof.Machine.execPinLevel k ts high s
  | .pinBankDown b => Sys2Proof.Machine.execPinBankDown b s
  | .pinBankUp b levels => Sys2Proof.Machine.execPinBankUp b levels s
  | .setPinFunc sess ph => Sys2Proof.Machine.execSetPinFunc sess ph s
  | .resetPin sess ph => Sys2Proof.Machine.execResetPin sess ph s
  | .outSetWrite sess ph => Sys2Proof.Machine.execOutSetWrite sess ph s
  | .outClrWrite sess ph => Sys2Proof.Machine.execOutClrWrite sess ph s
  | .outTglWrite sess ph => Sys2Proof.Machine.execOutTglWrite sess ph s
  | .evtClearWrite sess ph => Sys2Proof.Machine.execEvtClearWrite sess ph s
  | .calCompare => Sys2Proof.Machine.execCalCompare s
  | .setTime sess ph => Sys2Proof.Machine.execSetTime sess ph s
  | .setTimeAlarmin sess ph => Sys2Proof.Machine.execSetTimeAlarmin sess ph s
  | .rtcAlarmDue => Sys2Proof.Machine.execRtcAlarmDue s
  | .rtcStop ts => Sys2Proof.Machine.execRtcStop ts s
  | .rtcRun ts => Sys2Proof.Machine.execRtcRun ts s
  | .leapApply => Sys2Proof.Machine.execLeapApply s
  | .hoursSave => Sys2Proof.Machine.execHoursSave s
  | .atticRecordWrite => Sys2Proof.Machine.execAtticRecordWrite s
  | .saveAttic sess ph => Sys2Proof.Machine.execSaveAttic sess ph s
  | .getAttic sess ph => Sys2Proof.Machine.execGetAttic sess ph s
  | .resetAttic sess ph => Sys2Proof.Machine.execResetAttic sess ph s
  | .attSelHiWrite sess ph => Sys2Proof.Machine.execAttSelHiWrite sess ph s
  | .traceLineOut => Sys2Proof.Machine.execTraceLineOut s
  | .startTrace sess ph => Sys2Proof.Machine.execStartTrace sess ph s
  | .stopTrace sess ph => Sys2Proof.Machine.execStopTrace sess ph s
  | .getTrace sess ph => Sys2Proof.Machine.execGetTrace sess ph s
  | .resetTrace sess ph => Sys2Proof.Machine.execResetTrace sess ph s
  | .traceSleepFlushEnd => Sys2Proof.Machine.execTraceSleepFlushEnd s
  | .vlogWarning mv => Sys2Proof.Machine.execVlogWarning mv s
  | .ignChange high ts => Sys2Proof.Machine.execIgnChange high ts s
  | .ignDelayExpiry => Sys2Proof.Machine.execIgnDelayExpiry s
  | .wakeholdEnd => Sys2Proof.Machine.execWakeholdEnd s
  | .atticCommit => Sys2Proof.Machine.execAtticCommit s
  | .shutdownFlushEnd => Sys2Proof.Machine.execShutdownFlushEnd s
  | .powerDown vlogMv => Sys2Proof.Machine.execPowerDown vlogMv s
  | .vlogReturn mv => Sys2Proof.Machine.execVlogReturn mv s
  | .powerOnReset backupLost periods => Sys2Proof.Machine.execPowerOnReset backupLost periods s
  | .rstnAssert => Sys2Proof.Machine.execRstnAssert s
  | .rstnRelease => Sys2Proof.Machine.execRstnRelease s
  | .boot r => Sys2Proof.Machine.execBoot r s
  | .tcxoRetry found => Sys2Proof.Machine.execTcxoRetry found s
  | .deferredBootresTest u r => Sys2Proof.Machine.execDeferredBootresTest u r s
  | .railStateChange dieB state mv => Sys2Proof.Machine.execRailStateChange dieB state mv s
  | .vxsLow mv => Sys2Proof.Machine.execVxsLow mv s
  | .standbyWake w => Sys2Proof.Machine.execStandbyWake w s
  | .wakeSequenceComplete r => Sys2Proof.Machine.execWakeSequenceComplete r s
  | .standbyVlogLoss backupLost => Sys2Proof.Machine.execStandbyVlogLoss backupLost s
  | .faultDetection d => Sys2Proof.Machine.execFaultDetection d s
  | .statusFrame u hs fw ls ts => Sys2Proof.Machine.execStatusFrame u hs fw ls ts s
  | .seqWatchdog island => Sys2Proof.Machine.execSeqWatchdog island s
  | .dielinkFrameTimeout dieB => Sys2Proof.Machine.execDielinkFrameTimeout dieB s
  | .dielinkRetry dieB => Sys2Proof.Machine.execDielinkRetry dieB s
  | .phraseLaneCompare differ decode => Sys2Proof.Machine.execPhraseLaneCompare differ decode s
  | .phraseLaneCheckDone failA failB => Sys2Proof.Machine.execPhraseLaneCheckDone failA failB s
  | .clockMonitorFault island stop khz => Sys2Proof.Machine.execClockMonitorFault island stop khz s
  | .regulatorOut r => Sys2Proof.Machine.execRegulatorOut r s
  | .checkerTest missing => Sys2Proof.Machine.execCheckerTest missing s
  | .testFault sess ph missing => Sys2Proof.Machine.execTestFault sess ph missing s
  | .resetFault sess ph => Sys2Proof.Machine.execResetFault sess ph s
  | .fltLatchWrite sess ph => Sys2Proof.Machine.execFltLatchWrite sess ph s
  | .hosthbExpiry part => Sys2Proof.Machine.execHosthbExpiry part s
  | .faultCoverEvent => Sys2Proof.Machine.execFaultCoverEvent s
  | .devLockWrite sess ph => Sys2Proof.Machine.execDevLockWrite sess ph s
  | .getReg sess ph => Sys2Proof.Machine.execGetReg sess ph s
  | .showReg sess ph => Sys2Proof.Machine.execShowReg sess ph s
  | .setReg sess ph => Sys2Proof.Machine.execSetReg sess ph s
  | .sramBackgroundPass island multi => Sys2Proof.Machine.execSramBackgroundPass island multi s
  | .vbakLow low => Sys2Proof.Machine.execVbakLow low s
  | .vxsReturn mv => Sys2Proof.Machine.execVxsReturn mv s
  | .channelStateAdvance c cn0 dop => Sys2Proof.Machine.execChannelStateAdvance c cn0 dop s
  | .carrierCycleSlip c ts => Sys2Proof.Machine.execCarrierCycleSlip c ts s
  | .effectiveStateChange sec => Sys2Proof.Machine.execEffectiveStateChange sec s
  | .remoteFireTime sec => Sys2Proof.Machine.execRemoteFireTime sec s

end Sys2Proof.Machine
end

