-- ==== Sys2Proof/Safety.lean ====
section
/-!
DEFINITION. Sys2Proof/Safety.lean: the terms that statements are made in: when a session may run a phrase, what a reply puts into a session's
output, and what it means for the bounded queues of the spec to be kept.
-/
namespace Sys2Proof.Machine

/-- The session may run the phrase now (R53, R69 to R73, R87, R92, R94, R130, R621, R622): it is open, nothing waits before the phrase and nothing is
owed to it, the phrase carries the check the session demands, no partition it names is resetting, its decoding is not disputed, and the device
is READY or RUN. -/
def State.mayRun (s : State) (i : Nat) (p : Phrase) : Bool :=
  let x := s.sessAt i
  x.opened && x.owed.isEmpty && x.await.isNone && x.queue.isEmpty && (!x.reqcheck || p.checked)
    && !s.awaitsNode i && !s.resetHolds i && !s.power.noPhrases && !s.mustWait p && !s.faults.disputed.contains i
    && (s.power.dstate = .ready || s.power.dstate = .run)

end Sys2Proof.Machine

namespace Sys2Proof

/-- The phrase names one instance of a noun, or the noun alone. -/
abbrev Phrase.names (p : Phrase) (v : Verb) (n : Noun) (k : Option Nat) (sub : String := "") : Prop :=
  p.verb = v ∧ p.noun = some ⟨n, (match k with
    | some j => .one j
    | none => .none), sub⟩

end Sys2Proof

namespace Sys2Proof.Machine

/-- The lines of a successful reply (R65, R66, R62, R61): its data, then OK, which QUIET keeps back. -/
def replyLines (p : Phrase) (das : List KVs) : List String :=
  (das.map (daLines p.tag p.checked (p.ranged || 1 < das.length))).flatten ++ (if p.adv .quiet then [] else [okLine p.tag p.checked])

/-- From `s` to `t` the session was given these lines in order, in its output queue or owed to it (R73), with a prompt behind them where the
session has one (R75), and nothing else. -/
abbrev State.gave (s t : State) (i : Nat) (ls : List String) : Prop :=
  let had := (s.sessAt i).out ++ (s.sessAt i).owed
  let has := (t.sessAt i).out ++ (t.sessAt i).owed
  has = had ++ ls ∨ has = had ++ ls ++ ["> "]

/-- The EV line that a session would be given next (R64, R68). -/
def evLine (x : Session) (body : String) : String := withCheck x.evcheck ("EV " ++ toString x.evseq ++ " " ++ body) ++ crlf

/-- `t` with what the answering of a phrase itself changes taken from `s`: session records, counters and partition records. A frame is stated as an
equation about it. -/
def State.butReply (t s : State) : State := { t with sess := s.sess, cnts := s.cnts, parts := s.parts }

/-- The counters of a session's phrases and lines (Table PHR-11). -/
def phraseCounters : List String := ["PHR_CNT", "ERR_CNT", "CHK_CNT", "QFULL_CNT", "CHAR_CNT", "EVDROP_CNT"]

/-- Answering a phrase of session `i` concerned that session only: no other session changed, of the partitions no more than the instant of the last
heartbeat (R660), and of the counters only those of the session's phrases. -/
def State.answeredOnly (s t : State) (i : Nat) : Prop :=
  (∀ j, j ≠ i → t.sessAt j = s.sessAt j)
    ∧ (∀ n, { t.partAt n with hbStart := (s.partAt n).hbStart } = s.partAt n)
    ∧ ∀ c k, c ∉ phraseCounters ∨ k ≠ i → t.cnt c k = s.cnt c k

/-- The state in which a peer frame of a type acts: its instant has come, and its controller has counted it (R449). -/
abbrev State.heard (s : State) (typ : Nat) (f : PeerIn) : State := (s.peerRx typ f).1

/-- The canonical form of an addressed memory (R210): addresses strictly rising, and no byte listed that equals what an unlisted address reads as. -/
def Memory.wf (c : List Host.Cell) : Bool := Tab.wf (0 : BitVec 8) c

/-- The four staging windows are in canonical form. -/
def State.windowsWf (s : State) : Bool := (List.range 4).all fun n => Memory.wf (s.stage n)

end Sys2Proof.Machine
end

