-- ==== Sys2Proof/WellFormed.lean ====
section
/-!
DEFINITION. Sys2Proof/WellFormed.lean: which commands are well formed: numbers of sessions, units, ports, pins and the like lie in the ranges of the
spec's tables, a phrase's noun, index and sub are in Table PHR-9, and no attribute stands twice in a phrase (R55, R69).
-/
namespace Sys2Proof

/-- The noun has the index and the sub (Table PHR-9). -/
def NounRef.wf (r : NounRef) : Bool := decide (Machine.nounCheck r.noun r.idx r.sub = .ok r)

/-- A phrase in the form of Table PHR-2: its noun is in Table PHR-9 and no attribute appears twice; only a noun's instances take a range. -/
def Phrase.wf (p : Phrase) : Bool :=
  (match p.noun with
    | some r => r.wf || (p.verb = .help && r.idx = .none && r.sub = "")
    | none => true) &&
  decide ((p.attrs.map AttrTok.name).Nodup)

/-- A command with every operand in its range. -/
def Instr.wf (i : Instr) : Bool :=
  match i with
  | .sessionInputCharacter sess ch _ => sess < 11 && ch < 256
  | .phraseLineComplete sess ch => sess < 11 && ch < 256
  | .outputSpaceReturn sess _ => sess < 11
  | .setAttributes sess ph => sess < 11 && ph.wf
  | .getAttributes sess ph => sess < 11 && ph.wf
  | .getLatchedResult sess ph => sess < 11 && ph.wf
  | .getLatchedNew sess ph => sess < 11 && ph.wf
  | .show sess ph => sess < 11 && ph.wf
  | .help sess ph => sess < 11 && ph.wf
  | .watch sess ph => sess < 11 && ph.wf
  | .watchEveryTick sess noun => sess < 11 && noun.wf
  | .watchChangeDelivery sess noun => sess < 11 && noun.wf
  | .watchUntilExpiry sess noun => sess < 11 && noun.wf
  | .setSession sess ph => sess < 11 && ph.wf
  | .getSession sess ph => sess < 11 && ph.wf
  | .resetSession sess ph => sess < 11 && ph.wf
  | .logout sess ph => sess < 11 && ph.wf
  | .routedPhraseSend sess => sess < 11
  | .routedPhraseSilence sess => sess < 11
  | .peerSessionIdleExpiry sess => sess < 11
  | .loginSuper sess ph => sess < 11 && ph.wf
  | .loginSuperResp sess ph => sess < 11 && ph.wf
  | .loginChallengeExpiry sess => sess < 11
  | .loginLockoutEnd => true
  | .superIdleExpiry sess => sess < 11
  | .setPartOwnership sess ph => sess < 11 && ph.wf
  | .setDeviceSecpin sess ph => sess < 11 && ph.wf
  | .setDevicePinlock sess ph => sess < 11 && ph.wf
  | .setDeviceOwnlock sess ph => sess < 11 && ph.wf
  | .setKey sess ph => sess < 11 && ph.wf
  | .getKey sess ph => sess < 11 && ph.wf
  | .stopPart sess ph => sess < 11 && ph.wf
  | .resetPart sess ph => sess < 11 && ph.wf
  | .partResetComplete part _ => part < 4
  | .resetDevice sess ph => sess < 11 && ph.wf
  | .plannerCycle _ => true
  | .plannerLaneCheckDone _ _ => true
  | .secStoptimeExpiry sec => sec < 256
  | .lostholdExpiry impl => impl < 4
  | .startImpl sess ph => sess < 11 && ph.wf
  | .implBindTimeout impl => impl < 4
  | .stopImpl sess ph => sess < 11 && ph.wf
  | .setImplPos sess ph => sess < 11 && ph.wf
  | .setImplMot sess ph => sess < 11 && ph.wf
  | .getImplSample sess ph => sess < 11 && ph.wf
  | .setSecManual sess ph => sess < 11 && ph.wf
  | .setSecOverlap sess ph => sess < 11 && ph.wf
  | .commandRelease sec => sec < 256
  | .cellarInitComplete _ => true
  | .scrubBurst _ => true
  | .setCellar sess ph => sess < 11 && ph.wf
  | .resetCellar sess ph => sess < 11 && ph.wf
  | .setMapStage sess ph => sess < 11 && ph.wf
  | .loadMapTile sess ph => sess < 11 && ph.wf
  | .getMapTile sess ph => sess < 11 && ph.wf
  | .getMapCell sess ph => sess < 11 && ph.wf
  | .resetMapLayer sess ph => sess < 11 && ph.wf
  | .resetMapAll sess ph => sess < 11 && ph.wf
  | .saveMap sess ph => sess < 11 && ph.wf
  | .loadMapNor sess ph => sess < 11 && ph.wf
  | .mapCopyComplete _ => true
  | .logInterval => true
  | .logChangeWrite => true
  | .logNorWrite => true
  | .getLog sess ph => sess < 11 && ph.wf
  | .resetLog sess ph => sess < 11 && ph.wf
  | .larderBackgroundPass _ => true
  | .saveProfile sess ph => sess < 11 && ph.wf
  | .loadProfile sess ph => sess < 11 && ph.wf
  | .setProfileBoot sess ph => sess < 11 && ph.wf
  | .resetProfile sess ph => sess < 11 && ph.wf
  | .meteringCycle => true
  | .fbTimeout prod => prod < 8
  | .startProd sess ph => sess < 11 && ph.wf
  | .stopProd sess ph => sess < 11 && ph.wf
  | .setProdTarget sess ph => sess < 11 && ph.wf
  | .odoCountEdge unit _ _ => unit < 8
  | .odoIndexEdge unit _ => unit < 8
  | .odoSnapshot => true
  | .odoWindowGate unit => unit < 8
  | .odoZerotime unit => unit < 8
  | .cmpListRefill unit => unit < 8
  | .cmpPulseEnd unit => unit < 8
  | .odoPlausCheck => true
  | .startOdo sess ph => sess < 11 && ph.wf
  | .stopOdo sess ph => sess < 11 && ph.wf
  | .armOdoIdx sess ph => sess < 11 && ph.wf
  | .disarmOdoIdx sess ph => sess < 11 && ph.wf
  | .getOdoIdx sess ph => sess < 11 && ph.wf
  | .setOdoMpcProposed sess ph => sess < 11 && ph.wf
  | .armCmp sess ph => sess < 11 && ph.wf
  | .disarmCmp sess ph => sess < 11 && ph.wf
  | .getCmp sess ph => sess < 11 && ph.wf
  | .getCmpList sess ph => sess < 11 && ph.wf
  | .sspCycleDue port _ => port < 2
  | .sspTimeout port => port < 2
  | .sspCycleComplete port _ => port < 2
  | .startSsp sess ph => sess < 11 && ph.wf
  | .stopSsp sess ph => sess < 11 && ph.wf
  | .startGnss sess ph => sess < 11 && ph.wf
  | .stopGnss sess ph => sess < 11 && ph.wf
  | .antStateChange state _ => state < 4
  | .antShortRetest _ => true
  | .notchStateChange k state _ _ => k < 4 && state < 3
  | .jamEval jami => jami < 256
  | .acqBurst _ _ => true
  | .acqRetry => true
  | .navSubframeDecoded _ => true
  | .channelLockLost c => c < 24
  | .watchCorrelatorScan c _ _ => c < 24
  | .gnssEpochLatch _ _ _ => true
  | .gnssSolution _ => true
  | .gpsTimeTimeout => true
  | .aidPeriodicSave => true
  | .getGnssPos sess ph => sess < 11 && ph.wf
  | .getGnssRaw sess ph => sess < 11 && ph.wf
  | .setGnssSubscription sess ph => sess < 11 && ph.wf
  | .setAidTime sess ph => sess < 11 && ph.wf
  | .setAidPos sess ph => sess < 11 && ph.wf
  | .setAidEph sess ph => sess < 11 && ph.wf
  | .setAidAlm sess ph => sess < 11 && ph.wf
  | .setAidIono sess ph => sess < 11 && ph.wf
  | .getAid sess ph => sess < 11 && ph.wf
  | .saveAid sess ph => sess < 11 && ph.wf
  | .loadAid sess ph => sess < 11 && ph.wf
  | .resetAid sess ph => sess < 11 && ph.wf
  | .phaseEndTime u => u < 56
  | .phaseTargetReached u _ => u < 56
  | .phaseTlim u => u < 56
  | .decayTfastEnd u => u < 56
  | .slowDecayTimeout u => u < 56
  | .decayComplete u _ => u < 56
  | .pwmPeriodStart u => u < 56
  | .pwmPulseEnd u => u < 56
  | .ditherHalf u => u < 56
  | .dutySample u _ => u < 56
  | .dutyEval u => u < 56
  | .senseCal u _ => u < 56
  | .safenLow _ => true
  | .safenHigh _ => true
  | .startChan sess ph => sess < 11 && ph.wf
  | .stopChan sess ph => sess < 11 && ph.wf
  | .setChanState sess ph => sess < 11 && ph.wf
  | .setChanDuty sess ph => sess < 11 && ph.wf
  | .setChanTarget sess ph => sess < 11 && ph.wf
  | .setPairLink sess ph => sess < 11 && ph.wf
  | .onstateFinding u _ => u < 56
  | .overcurrentTrip u _ _ _ _ => u < 56
  | .overtempTrip u _ => u < 56
  | .overtempRelease u _ => u < 56
  | .diagSweepStart => true
  | .offstateTestStart u => u < 56
  | .offstateTestComplete u _ => u < 56
  | .diagRetest u _ => u < 56
  | .suspectExpiry u => u < 56
  | .testDiag sess ph _ => sess < 11 && ph.wf
  | .resetDiag sess ph _ => sess < 11 && ph.wf
  | .grantStart u => u < 56
  | .grantRelease who => who < 156
  | .grantEventSecond u => u < 56
  | .directGrantRetry u => u < 56
  | .grantLedgerCompare _ => true
  | .grantLaneCheckDone _ _ => true
  | .setGrant sess ph => sess < 11 && ph.wf
  | .syncSend => true
  | .syncFrameReceived _ _ => true
  | .syncTimeout => true
  | .hbSend => true
  | .hbReceived _ => true
  | .peerLossCheck => true
  | .peerFrameForward _ => true
  | .bindFrameReceived _ => true
  | .unbindFrameReceived _ => true
  | .bindackFrameReceived _ => true
  | .fireFrameReceived _ => true
  | .remoteFireRelease u => u < 56
  | .cancelFrameReceived _ => true
  | .reportFrameReceived _ => true
  | .dutyFrameReceived _ => true
  | .posFrameReceived _ => true
  | .phrFrameReceived _ => true
  | .rplFrameReceived _ => true
  | .ackFrameReceived _ => true
  | .peerResend node typ _ => node < 128 && typ < 256
  | .phrFragmentTimeout node _ => node < 128
  | .startPeer sess ph => sess < 11 && ph.wf
  | .stopPeer sess ph => sess < 11 && ph.wf
  | .canFrameReceived n _ _ => n < 4
  | .canTxComplete n _ tdcv => n < 4 && tdcv < 128
  | .canArbitrationLost n => n < 4
  | .canBusError n lec _ _ => n < 4 && lec < 8
  | .canBusoffRecovery n => n < 4
  | .canIntegrated n => n < 4
  | .startCan sess ph => sess < 11 && ph.wf
  | .stopCan sess ph => sess < 11 && ph.wf
  | .testCan sess ph => sess < 11 && ph.wf
  | .getCanRx sess ph => sess < 11 && ph.wf
  | .resetCanRx sess ph => sess < 11 && ph.wf
  | .armCanTx sess ph => sess < 11 && ph.wf
  | .disarmCanTx sess ph => sess < 11 && ph.wf
  | .uartFrameReceived n _ => n < 3
  | .uartHuntIdle n => n < 3
  | .uartXonSend n => n < 3
  | .setUartEnable sess ph => sess < 11 && ph.wf
  | .portSettingsApply n => n < 6
  | .armUart2Tx sess ph => sess < 11 && ph.wf
  | .getUart2Rx sess ph => sess < 11 && ph.wf
  | .resetUart2Rx sess ph => sess < 11 && ph.wf
  | .spiCsFall _ => true
  | .spiCsRise _ _ => true
  | .i2cXferRead sess ph _ => sess < 11 && ph.wf
  | .i2cXferWrite sess ph _ => sess < 11 && ph.wf
  | .i2cStretchTimeout n => n < 2
  | .pinEdge k _ _ => k < 64
  | .pinEvminEnd k => k < 64
  | .pinLevel k _ _ => k < 64
  | .pinBankDown b => b < 4
  | .pinBankUp b _ => b < 4
  | .setPinFunc sess ph => sess < 11 && ph.wf
  | .resetPin sess ph => sess < 11 && ph.wf
  | .outSetWrite sess ph => sess < 11 && ph.wf
  | .outClrWrite sess ph => sess < 11 && ph.wf
  | .outTglWrite sess ph => sess < 11 && ph.wf
  | .evtClearWrite sess ph => sess < 11 && ph.wf
  | .calCompare => true
  | .setTime sess ph => sess < 11 && ph.wf
  | .setTimeAlarmin sess ph => sess < 11 && ph.wf
  | .rtcAlarmDue => true
  | .rtcStop _ => true
  | .rtcRun _ => true
  | .leapApply => true
  | .hoursSave => true
  | .atticRecordWrite => true
  | .saveAttic sess ph => sess < 11 && ph.wf
  | .getAttic sess ph => sess < 11 && ph.wf
  | .resetAttic sess ph => sess < 11 && ph.wf
  | .attSelHiWrite sess ph => sess < 11 && ph.wf
  | .traceLineOut => true
  | .startTrace sess ph => sess < 11 && ph.wf
  | .stopTrace sess ph => sess < 11 && ph.wf
  | .getTrace sess ph => sess < 11 && ph.wf
  | .resetTrace sess ph => sess < 11 && ph.wf
  | .traceSleepFlushEnd => true
  | .vlogWarning _ => true
  | .ignChange _ _ => true
  | .ignDelayExpiry => true
  | .wakeholdEnd => true
  | .atticCommit => true
  | .shutdownFlushEnd => true
  | .powerDown _ => true
  | .vlogReturn _ => true
  | .powerOnReset _ _ => true
  | .rstnAssert => true
  | .rstnRelease => true
  | .boot _ => true
  | .tcxoRetry _ => true
  | .deferredBootresTest u _ => u < 56
  | .railStateChange _ _ _ => true
  | .vxsLow _ => true
  | .standbyWake _ => true
  | .wakeSequenceComplete _ => true
  | .standbyVlogLoss _ => true
  | .faultDetection _ => true
  | .statusFrame u _ _ _ _ => u < 56
  | .seqWatchdog island => island < 64
  | .dielinkFrameTimeout _ => true
  | .dielinkRetry _ => true
  | .phraseLaneCompare _ _ => true
  | .phraseLaneCheckDone _ _ => true
  | .clockMonitorFault island _ _ => island < 64
  | .regulatorOut _ => true
  | .checkerTest _ => true
  | .testFault sess ph _ => sess < 11 && ph.wf
  | .resetFault sess ph => sess < 11 && ph.wf
  | .fltLatchWrite sess ph => sess < 11 && ph.wf
  | .hosthbExpiry part => part < 4
  | .faultCoverEvent => true
  | .devLockWrite sess ph => sess < 11 && ph.wf
  | .getReg sess ph => sess < 11 && ph.wf
  | .showReg sess ph => sess < 11 && ph.wf
  | .setReg sess ph => sess < 11 && ph.wf
  | .sramBackgroundPass island _ => island < 64
  | .vbakLow _ => true
  | .vxsReturn _ => true
  | .channelStateAdvance c _ _ => c < 24
  | .carrierCycleSlip c _ => c < 24
  | .effectiveStateChange sec => sec < 256
  | .remoteFireTime sec => sec < 256

end Sys2Proof
end

