-- ==== Sys2Proof/Certificates/Slice0/Obligations.lean ====
section
/-!
DEFINITION. Sys2Proof/Certificates/Slice0/Obligations.lean: the statements for the provers.
-/
open Sys2Proof Sys2Proof.Machine

/-! ### The queue of commands -/

/-- A step takes the command at the front of the queue and has exactly its effect, on the state with the rest of the queue; on an empty queue one
clock edge passes. It rests on the model's choices of assumption 1. -/
def Obligations.StepRunsFrontCommand : Prop :=
(∀ (c : Instr) (rest : List Instr) (s : State), step { s with pending := c :: rest } = exec c { s with pending := rest })
    ∧ ∀ s : State, step { s with pending := [] } = .next (idleEdge { s with pending := [] })

/-- The block never stops but for counting or index edges closer together than R280 allows: every other command answers a next state in every state,
and those two stop for no other reason. -/
def Obligations.OnlyEdgesTooCloseStop : Prop :=
∀ (c : Instr) (s : State),
    (∃ t, exec c s = .next t)
      ∨ ((∃ u ts k, c = .odoCountEdge u ts k) ∨ (∃ u ts, c = .odoIndexEdge u ts)) ∧ exec c s = .fault .edgesTooClose

/-- Commands are taken strictly in order: whatever a command does, it adds nothing to the queue of waiting commands and takes nothing from it, so a run of
`n` steps takes exactly the first `n` commands. -/
def Obligations.CommandsTakenInOrder : Prop :=
(∀ (c : Instr) (s t : State), exec c s = .next t → t.pending = s.pending)
    ∧ ∀ (n : Nat) (s t : State), n ≤ s.pending.length → core.run n s = .next t → t.pending = s.pending.drop n

/-- BOOT has begun with cause POWERON (R616, R618), SYSTIME is 0 (R572), every attribute has its table's default, every counter is 0, no session is open, no unit on, no island retired, nothing waits and FLTN is asserted (R665); the staging windows
and the attic queue satisfy the invariant of EveryStepKeepsWindowsAndAttic. That the windows read 0, the rails UV and the variant SDX-9640 are the model's choices. It rests on the model's choices of assumptions 6, 7 and 9. -/
def Obligations.ResetState : Prop :=
(State.reset.power.dstate = .boot ∧ State.reset.power.cause = .poweron ∧ State.reset.now = 0 ∧ State.reset.pending = [])
    ∧ (∀ n ix sub name, State.reset.val n ix name sub = dfltOf n ix sub name)
    ∧ (∀ c k, State.reset.cnt c k = 0)
    ∧ (∀ i, (State.reset.sessAt i).opened = false ∧ (State.reset.sessAt i).queue = [] ∧ (State.reset.sessAt i).out = [])
    ∧ (∀ u, (State.reset.unitAt u).on = false ∧ (State.reset.unitAt u).retired = false)
    ∧ (∀ i, State.reset.retired i = false) ∧ (∀ n, (State.reset.partAt n).state = .stopped)
    ∧ (State.reset.ownlock = false ∧ State.reset.pinlock = false ∧ State.reset.key0 = none ∧ State.reset.fltn = true)
    ∧ (State.reset.windowsWf = true ∧ State.reset.attic.pend = []) ∧ (∀ n a, stageRead (State.reset.stage n) a = 0)
    ∧ (State.reset.power.railA = .uv ∧ State.reset.power.railB = .uv ∧ State.reset.power.variant = .sdx9640)

/-! ### Sessions (02_phrases.md) -/

/-- SESSION_INPUT_CHARACTER (R54, R74): with ECHO=OFF a character joins the line and nothing else changes; with ECHO=ON a printable character is also
echoed, BS and DEL take the last character back, other control characters do nothing, and the LF that follows a CR is dropped. It rests on the model's choices of assumptions 23 and 26. -/
def Obligations.InputCharacterJoinsLine : Prop :=
  ∀ (s : State) (i ch : Nat), i < 3 → (s.sessAt i).opened = true → (if i = 2 then s.spi.rxbuf = [] else (Tab.get {} s.uarts i).rx = []) → ch < 256 →
    (ch ≠ 13 → ch ≠ 10 → (s.sessAt i).echo = false → (s.sessAt i).line.length < 200 →
        exec (.sessionInputCharacter i ch false) s = .next (s.setSess i { s.sessAt i with line := (s.sessAt i).line ++ [ch], afterCR := false }))
    ∧ (0x20 ≤ ch → ch ≤ 0x7E → (s.sessAt i).echo = true → (s.sessAt i).line.length < 200 → outRoom (s.sessAt i) 1 = true →
        exec (.sessionInputCharacter i ch false) s = .next (s.setSess i { s.sessAt i with
                line := (s.sessAt i).line ++ [ch], afterCR := false, out := (s.sessAt i).out ++ [String.singleton (Char.ofNat ch)] }))
    ∧ ((ch = 8 ∨ ch = 0x7F) → (s.sessAt i).echo = true → (s.sessAt i).line ≠ [] → outRoom (s.sessAt i) 3 = true →
        exec (.sessionInputCharacter i ch false) s = .next (s.setSess i { s.sessAt i with
                line := (s.sessAt i).line.dropLast, afterCR := false, out := (s.sessAt i).out ++ [String.ofList [Char.ofNat 8, ' ', Char.ofNat 8]] }))
    ∧ (ch < 0x20 → ch ∉ [3, 8, 10, 13] → (s.sessAt i).echo = true →
        exec (.sessionInputCharacter i ch false) s = .next (s.setSess i { s.sessAt i with afterCR := false }))
    ∧ (ch = 10 → (s.sessAt i).afterCR = true →
        exec (.sessionInputCharacter i ch false) s = .next (s.setSess i { s.sessAt i with afterCR := false }))

/-- PHRASE_LINE_COMPLETE (R53, R71, R72): CR ends the line; a phrase joins the end of its session's queue while it holds fewer than 16, and a
further one is answered E-QUEUE and not kept. No other session changes. -/
def Obligations.CompleteLineIsQueued : Prop :=
  ∀ (s : State) (i : Nat) (p : Phrase), i < 3 → (s.sessAt i).opened = true → (if i = 2 then s.spi.rxbuf = [] else (Tab.get {} s.uarts i).rx = []) → s.power.noPhrases = false → (s.sessAt i).tooLong = false → ((s.sessAt i).line.all fun c => 0x20 ≤ c && c ≤ 0x7E) = true → readLine ((s.sessAt i).line.map fun c => Char.ofNat (c % 256)) false false (some s.ownAddr) = .phrase p →
    (s.heldBy i < 16 →
        ∃ t, exec (.phraseLineComplete i 13) s = .next t ∧ (t.sessAt i).line = [] ∧ (t.sessAt i).queue = (s.sessAt i).queue ++ [.phrase p]
          ∧ (∀ j, j ≠ i → t.sessAt j = s.sessAt j))
    ∧ (16 ≤ s.heldBy i →
        ∃ t, exec (.phraseLineComplete i 13) s = .next t ∧ (t.sessAt i).line = [] ∧ (t.sessAt i).queue = (s.sessAt i).queue
          ∧ t.cnt "QFULL_CNT" i = (s.cnt "QFULL_CNT" i + 1) % 2 ^ 32 ∧ (∀ j, j ≠ i → t.sessAt j = s.sessAt j))

/-- OUTPUT_SPACE_RETURN (R73, R83): characters that left a UART's session make room, which the lines still owed take in order, and then, where 64
characters are free, the EV SESSION LOST line with the count of lines lost; a peer session's next line leaves as RPL frames. It rests on the model's choices of assumption 21. -/
def Obligations.OutputRoomReturns : Prop :=
  ∀ (s : State) (i n : Nat), (s.sessAt i).opened = true →
    (i < 2 → s.uartRuns i = true → (s.uartAt i).paused = false → (s.sessAt i).owed = [] → (s.sessAt i).lost = 0 →
        ∃ t, exec (.outputSpaceReturn i n) s = .next t ∧ t = s.setSess i { s.sessAt i with out := drainOut n (s.sessAt i).out })
    ∧ (∀ (l : String), i < 2 → s.uartRuns i = true → (s.uartAt i).paused = false → (s.sessAt i).out = [] → (s.sessAt i).owed = [l] → l.length ≤ 4096 →
        ∃ t, exec (.outputSpaceReturn i n) s = .next t ∧ (t.sessAt i).out.head? = some l ∧ (t.sessAt i).owed = [])
    ∧ (i < 2 → s.uartRuns i = true → (s.uartAt i).paused = false → (s.sessAt i).out = [] → (s.sessAt i).owed = [] → 0 < (s.sessAt i).lost →
        (s.sessAt i).lost < 1000000 → (s.sessAt i).evseq < 65536 →
        ∃ t, exec (.outputSpaceReturn i n) s = .next t ∧ (t.sessAt i).out = [evLine (s.sessAt i) ("SESSION LOST count=" ++ toString (s.sessAt i).lost)] ∧ (t.sessAt i).lost = 0
          ∧ (t.sessAt i).evseq = ((s.sessAt i).evseq + 1) % 65536)
    ∧ (∀ (l : String) (ls : List String) (a o : Nat), 3 ≤ i → (s.sessAt i).out = l :: ls → (s.sessAt i).origin = some (a, o) → s.peer.state = 1 → s.peer.waits = [] →
        pieces (l.toList.filter fun c => 32 ≤ c.toNat) ≠ [] → (s.sessAt i).owed = [] → (s.sessAt i).lost = 0 →
        ∃ t, exec (.outputSpaceReturn i n) s = .next t ∧ (t.sessAt i).out = ls ∧ t.peer.waits ≠ [] ∧ (t.peer.waits.all fun w => w.typ = 0x11 && w.dst = a) = true)

/-- GET_SESSION, SET_SESSION, RESET_SESSION and LOGOUT (R60, R87, R88, R110): what each does to its session. A SET gives every named attribute its value and
leaves the others; a RESET ends watches, role and queue and restores the defaults it resets. It rests on the model's choices of assumption 14. -/
def Obligations.SessionPhrasesComplete : Prop :=
  ∀ (s : State) (i : Nat) (p : Phrase), s.mayRun i p = true →
    (p.names .get .session none → getErrs sessionAttrs p = [] →
        ∃ t, exec (.getSession i p) s = .next t ∧ s.gave t i (replyLines p [(getNames p .session none).map fun n => (lower n, s.sessionRead i n)]) ∧ t.butReply s = s
          ∧ s.answeredOnly t i)
    ∧ (p.names .set .session none → setAttrErrs sessionAttrs true p = [] → (p.attrs.map AttrTok.name).Nodup →
        (∀ a ∈ p.attrs, a.name ≠ "PART" ∧ (a.name = "ECHO" ∨ a.name = "PROMPT" → i < 2)) →
        ∃ t, exec (.setSession i p) s = .next t
          ∧ (∀ a ∈ p.attrs, (a.name = "REQCHECK" → (t.sessAt i).reqcheck = ((a.value.map upper) = some "ON")) ∧ (a.name = "EVCHECK" → (t.sessAt i).evcheck = ((a.value.map upper) = some "ON"))
              ∧ (a.name = "ECHO" → (t.sessAt i).echo = ((a.value.map upper) = some "ON")) ∧ (a.name = "PROMPT" → (t.sessAt i).prompt = ((a.value.map upper) = some "ON"))
              ∧ (a.name = "EVENTS" → (t.sessAt i).faultOnly = ((a.value.map upper) = some "FAULT")))
          ∧ (p.has "REQCHECK" = false → (t.sessAt i).reqcheck = (s.sessAt i).reqcheck) ∧ (p.has "EVCHECK" = false → (t.sessAt i).evcheck = (s.sessAt i).evcheck)
          ∧ (p.has "ECHO" = false → (t.sessAt i).echo = (s.sessAt i).echo) ∧ (p.has "PROMPT" = false → (t.sessAt i).prompt = (s.sessAt i).prompt)
          ∧ (p.has "EVENTS" = false → (t.sessAt i).faultOnly = (s.sessAt i).faultOnly) ∧ (t.sessAt i).part = (s.sessAt i).part
          ∧ t.butReply s = { s with cans := t.cans, trace := t.trace })
    ∧ (∀ (v : String) (n : Nat), p.names .set .session none → p.attrs = [⟨"PART", some v, "PART=" ++ v⟩] → parseInt v = some (n : Int) → n < 4 →
        n ≠ (s.sessAt i).part →
        ∃ t, exec (.setSession i p) s = .next t ∧ (t.sessAt i).part = n ∧ (t.sessAt i).watches = [] ∧ t.butReply s = { s with cans := t.cans, trace := t.trace })
    ∧ (p.names .reset .session none → p.attrs = [] →
        ∃ t, exec (.resetSession i p) s = .next t
          ∧ ((t.sessAt i).watches = [] ∧ (t.sessAt i).queue = [] ∧ (t.sessAt i).super = false ∧ (t.sessAt i).reqcheck = false ∧ (t.sessAt i).evcheck = false ∧ (t.sessAt i).faultOnly = false ∧ (t.sessAt i).evseq = 0)
          ∧ t.butReply s = { s with trace := t.trace })
    ∧ (p.verb = .logout → p.attrs = [] →
        ∃ t, exec (.logout i p) s = .next t ∧ (t.sessAt i).super = false ∧ t.butReply s = s ∧ s.answeredOnly t i)

/-- LOGIN_SUPER and LOGIN_SUPER_RESP (R107 to R112): in factory state the role is given at once; once KEY0 is written a challenge from the device's random
source is given, and the response of R108 to it, within 10 s and with no lockout under way, gives the role; another response is a failure, and from the
fourth failure in a row a lockout of 30 s begins. The challenge is a free value: the statement holds for every challenge. It rests on the model's choices of assumptions 27 and 28. -/
def Obligations.LoginGivesSupervisorRole : Prop :=
  ∀ (s : State) (i : Nat) (p : Phrase), s.mayRun i p = true → p.verb = .login → p.noun = none →
    (p.attrs = [⟨"SUPER", none, "SUPER"⟩] → s.key0 = none →
        ∃ t, exec (.loginSuper i p) s = .next t ∧ ((t.sessAt i).super = true ∧ (t.sessAt i).chal = none ∧ t.authFails = 0 ∧ t.key0 = none)
          ∧ t.butReply s = { s with authFails := 0, cans := t.cans, trace := t.trace })
    ∧ (p.attrs = [⟨"SUPER", none, "SUPER"⟩] → s.key0 ≠ none → s.lockedOut = false →
        ∃ t, exec (.loginSuper i p) s = .next t ∧ (t.sessAt i).super = (s.sessAt i).super ∧ (t.sessAt i).chal = some (Config.freeBits s.freeIx, s.now)
          ∧ s.gave t i (replyLines p [[("challenge", showHex 16 (Config.freeBits s.freeIx).toNat)]]) ∧ t.butReply s = { s with freeIx := s.freeIx + 1 } ∧ s.answeredOnly t i)
    ∧ (∀ (v : String) (k : BitVec 256) (c : BitVec 64) (r : Nat), p.attrs = [⟨"SUPER", none, "SUPER"⟩, ⟨"RESP", some v, "RESP=" ++ v⟩] → parseNat v = some r →
        s.key0 = some k → s.challenge i = some c → s.lockedOut = false → r = loginResp k c →
        ∃ t, exec (.loginSuperResp i p) s = .next t ∧ ((t.sessAt i).super = true ∧ (t.sessAt i).chal = none ∧ t.authFails = 0 ∧ t.key0 = some k))
    ∧ (∀ (v : String) (k : BitVec 256) (c : BitVec 64) (r : Nat), p.attrs = [⟨"SUPER", none, "SUPER"⟩, ⟨"RESP", some v, "RESP=" ++ v⟩] → parseNat v = some r →
        s.key0 = some k → s.challenge i = some c → s.lockedOut = false → r ≠ loginResp k c →
        ∃ t, exec (.loginSuperResp i p) s = .next t
          ∧ ((t.sessAt i).super = (s.sessAt i).super ∧ (t.sessAt i).chal = none ∧ t.authFails = s.authFails + 1 ∧ t.lockoutEnd = (if 4 ≤ s.authFails + 1 then some (s.now + 30 * nsS) else s.lockoutEnd))
          ∧ t.cnt "AUTHFAIL_CNT" 0 = (s.cnt "AUTHFAIL_CNT" 0 + 1) % 2 ^ 32)

/-- The times that end roles and sessions: a challenge expires after 10 s (R109), a lockout ends (R109), a supervisor idle for 600 s loses the role (R110), a
peer session with nothing queued and no watch closes after 60 s (R84). Each moves time to its instant, never back, and changes nothing else but
what it ends; the end of a role is announced on the session. It rests on the model's choices of assumption 2. -/
def Obligations.SessionTimesExpire : Prop :=
  ∀ (s : State) (i : Nat),
    (∀ (c : BitVec 64) (t0 : Nat), (s.sessAt i).chal = some (c, t0) →
        exec (.loginChallengeExpiry i) s = .next ((s.advanceTo (t0 + 10 * nsS)).setSess i { s.sessAt i with chal := none }))
    ∧ (∀ (t0 : Nat), s.lockoutEnd = some t0 →
        exec .loginLockoutEnd s = .next { s.advanceTo t0 with lockoutEnd := none })
    ∧ ((s.sessAt i).super = true →
        ∃ t, exec (.superIdleExpiry i) s = .next t ∧ (t.sessAt i).super = false ∧ t.now = max s.now ((s.sessAt i).lastPhrase + 600 * nsS) ∧ (∀ j, j ≠ i → t.sessAt j = s.sessAt j))
    ∧ (3 ≤ i → (s.sessAt i).opened = true → s.heldBy i = 0 → (s.sessAt i).watches = [] →
        exec (.peerSessionIdleExpiry i) s = .next ((s.advanceTo ((s.sessAt i).lastUse + 60 * nsS)).setSess i {}))

/-- A phrase answered with an error changes nothing (R69) but the session's own record and counters: its line goes out, ERR_CNT counts it. The statement is about
the one path by which every phrase command runs, for a phrase whose chapter states no effect of its own on an error and whose error is not E-LOCKED (R124). -/
def Obligations.PhraseErrorChangesNothing : Prop :=
∀ (row : String) (s : State) (i : Nat) (p : Phrase) (f : State → Ans) (e : Err),
    s.mayRun i p = true → rowOf p = row → (∀ a, (f a).onErr = none) → (∀ a, pickErr (f a).errs = some e) → e.code ∉ [.locked, .check, .queue, .char] →
      (runRow row i p f s).butReply s = s ∧ s.answeredOnly (runRow row i p f s) i
        ∧ s.gave (runRow row i p f s) i [erLine (namedErr p e) p.tag p.checked]
        ∧ (runRow row i p f s).cnt "ERR_CNT" i = (s.cnt "ERR_CNT" i + 1) % 2 ^ 32
        ∧ (runRow row i p f s).cnt "PHR_CNT" i = (s.cnt "PHR_CNT" i + 1) % 2 ^ 32

/-- Of the errors found the one answered stands first in the order of checks of R70: it was found, and none of the others stands earlier. -/
def Obligations.FirstErrorInOrderIsAnswered : Prop :=
∀ (es : List Err), (es ≠ [] → ∃ e, pickErr es = some e) ∧ ∀ e : Err, pickErr es = some e → e ∈ es ∧ ∀ x ∈ es, errRank e.code ≤ errRank x.code

/-- ROUTED_PHRASE_SEND and ROUTED_PHRASE_SILENCE (R70, R71, R82, R465): at its turn a routed phrase leaves for a present node under a message number and holds its
place; with the peer link not running or the node not present it draws E-NODE, and so does one whose node gives no sign of life for 500 ms. It rests on the model's choices of assumption 25. -/
def Obligations.RoutedPhrasesWaitOrFail : Prop :=
  ∀ (s : State) (i n : Nat) (tag : Option String) (c : Bool) (x : String) (rest : List QEntry), s.routedFront i = some (n, tag, c, x, rest) → ((s.sessAt i).reqcheck = true → c = true) →
    (s.peer.state = 1 → (s.node n).present = true → s.power.dstate = .ready →
        ∃ t, exec (.routedPhraseSend i) s = .next t ∧ t.awaitsNode i = true ∧ (t.routed.any fun r => r.sess = i && r.node = n && r.since = s.now && r.msg = (s.node n).msg) = true
          ∧ (t.sessAt i).queue = rest ∧ { t with sess := s.sess, cnts := s.cnts, routed := s.routed, peer := s.peer, larder := s.larder, trace := s.trace } = s)
    ∧ ((s.peer.state ≠ 1 ∨ (s.node n).present = false) → rest = [] → s.power.dstate = .ready →
        ∃ t, exec (.routedPhraseSend i) s = .next t ∧ s.gave t i [erLine ⟨.node, none⟩ tag c] ∧ t.cnt "ERR_CNT" i = (s.cnt "ERR_CNT" i + 1) % 2 ^ 32
          ∧ { t with sess := s.sess, cnts := s.cnts } = s)

/-- ROUTED_PHRASE_SILENCE (Table PHR-7): 500 ms after the last sign of life of the node the phrase of the session is answered E-NODE and no longer awaited. It rests on the model's choices of assumption 25. -/
def Obligations.RoutedSilenceIsNodeError : Prop :=
  ∀ (s : State) (i : Nat) (r : Routed),
    s.routed = [r] → r.sess = i → (s.sessAt i).opened = true → (s.sessAt i).queue = [] →
      ∃ t, exec (.routedPhraseSilence i) s = .next t ∧ t.routed = [] ∧ t.now = max s.now (r.since + 500 * nsMs) ∧ s.gave t i [erLine ⟨.node, none⟩ r.tag r.checked]
        ∧ t.cnt "ERR_CNT" i = (s.cnt "ERR_CNT" i + 1) % 2 ^ 32

/-- WATCH and WATCH_UNTIL_EXPIRY (R77, R78): a WATCH without errors begins the session's one watch on that noun and index, with the attributes, interval and end it
names, in place of an earlier one, and keeps every other watch; with UNTIL=0ms it ends the watch; a watch ends at its UNTIL. No more than 16 are held. It rests on the model's choices of assumption 154. -/
def Obligations.WatchesBeginAndEnd : Prop :=
  ∀ (s : State) (i : Nat) (p : Phrase) (r : NounRef), p.noun = some r →
    (∀ (k : Nat), s.mayRun i p = true → p.verb = .watch → s.watchErrs i p = [] → ((s.sessAt i).watches.length < 16 ∨ (s.watchOn i r).isSome = true) →
        p.adv .once = false → adverbTime p .until 0 86400000000 ≠ some 0 → r.idx = .one k →
        ∃ t, exec (.watch i p) s = .next t
          ∧ ((t.sessAt i).watches.any fun w => w.ref = r && w.names = p.attrs.map AttrTok.name && w.every = adverbTime p .every 10000 3600000000 && w.untilAt = (adverbTime p .until 0 86400000000).map (s.now + ·)) = true
          ∧ ((t.sessAt i).watches.filter fun w => decide (w.ref ≠ r)) = ((s.sessAt i).watches.filter fun w => decide (w.ref ≠ r)) ∧ t.butReply s = { s with trace := t.trace })
    ∧ (s.mayRun i p = true → p.verb = .watch → s.watchErrs i p = [] → adverbTime p .until 0 86400000000 = some 0 →
        ∃ t, exec (.watch i p) s = .next t ∧ ((t.sessAt i).watches = (s.sessAt i).watches.filter fun w => !decide (w.ref = r)) ∧ t.butReply s = s)
    ∧ (∀ (w : Watch) (e : Nat), s.watchOn i r = some w → w.untilAt = some e →
        ∃ t, exec (.watchUntilExpiry i r) s = .next t ∧ t.now = max s.now e ∧ ((t.sessAt i).watches = (s.sessAt i).watches.filter fun v => !decide (v = w))
          ∧ (∀ j, j ≠ i → t.sessAt j = s.sessAt j) ∧ { t with sess := s.sess, cnts := s.cnts, times := s.times, trace := s.trace } = s)

/-- WATCH_EVERY_TICK and WATCH_CHANGE_DELIVERY (R77): with EVERY the watch sends its named values once an interval after its last line; without it, values other than those of
its last line are sent 10 ms after that line at the earliest. Each line is an EV line with the next sequence number where the output queue has room. It rests on the model's choices of assumption 154. -/
def Obligations.WatchesDeliver : Prop :=
  ∀ (s : State) (i : Nat) (r : NounRef) (w : Watch) (l : KVs), s.watchOn i r = some w → (s.sessAt i).opened = true → (s.sessAt i).owed = [] → (s.sessAt i).lost = 0 → i < 11 → w.noun = .odo → w.sub = "" →
    (∀ (e : Nat), w.every = some e → ((s.advanceTo (w.lastAt + e)).watchLines i w).toOption = some [l] →
        outRoom (s.sessAt i) (evLine (s.sessAt i) (w.nounText ++ " WATCH " ++ joinWith " " (kvText l))).length = true →
        ∃ t, exec (.watchEveryTick i r) s = .next t ∧ t.now = max s.now (w.lastAt + e)
          ∧ (t.sessAt i).out = (s.sessAt i).out ++ [evLine (s.sessAt i) (w.nounText ++ " WATCH " ++ joinWith " " (kvText l))]
          ∧ (t.sessAt i).evseq = ((s.sessAt i).evseq + 1) % 65536 ∧ { t with sess := s.sess, times := s.times, trace := s.trace, cnts := s.cnts } = s)
    ∧ (w.every = none → w.lastErr = false → s.watchDue i w = true → ((s.advanceTo (w.lastAt + 10 * nsMs)).watchLines i w).toOption = some [l] →
        (s.advanceTo (w.lastAt + 10 * nsMs)).watchDue i w = true →
        outRoom (s.sessAt i) (evLine (s.sessAt i) (w.nounText ++ " WATCH " ++ joinWith " " (kvText l))).length = true →
        ∃ t, exec (.watchChangeDelivery i r) s = .next t ∧ t.now = max s.now (w.lastAt + 10 * nsMs)
          ∧ (t.sessAt i).out = (s.sessAt i).out ++ [evLine (s.sessAt i) (w.nounText ++ " WATCH " ++ joinWith " " (kvText l))]
          ∧ (t.sessAt i).evseq = ((s.sessAt i).evseq + 1) % 65536 ∧ { t with sess := s.sess, times := s.times, trace := s.trace, cnts := s.cnts } = s)

/-- GET_ATTRIBUTES, GET_LATCHED_RESULT, GET_LATCHED_NEW, SHOW and HELP (R58, R66, R79 to R81, R85, R86): without errors, one line with the values read of the instance and
OK; nothing but the session's own record and counters changes, and a latched result notes its epoch as read by this session. It rests on the model's choices of assumption 153. -/
def Obligations.ReadingPhrasesOnlyRead : Prop :=
  ∀ (s : State) (i k : Nat) (p : Phrase), s.mayRun i p = true →
    (∀ (n : Noun), p.names .get n (some k) → rowOf p = "GET_ATTRIBUTES" → s.getAttrErrs i p n k = [] →
        ∃ t, exec (.getAttributes i p) s = .next t ∧ s.gave t i (replyLines p [s.attrKVs i n (some k) "" (getNames p n (some k))]) ∧ t.butReply s = s ∧ s.answeredOnly t i)
    ∧ (p.names .get .odo (some k) → p.attrs = [] → p.adv .new = false → s.unitErrs i p .odo (some k) = [] → (s.odoAt k).snap.isSome = true →
        ∃ t, exec (.getLatchedResult i p) s = .next t
          ∧ s.gave t i (replyLines p [s.attrKVs i .odo (some k) "" (getSet .odo (some k) "") ++ [("epoch", toString (s.odoAt k).epoch)]])
          ∧ (t.sessAt i).epochs.find (.odo, k, "") = some (s.odoAt k).epoch ∧ t.butReply s = s ∧ s.answeredOnly t i)
    ∧ (p.names .get .ssp (some k) → p.attrs = [] → p.adv .new = true → s.unitErrs i p .ssp (some k) = [] → (s.sspAt k).epoch ≠ 0 →
        (s.sessAt i).epochs.find (.ssp, k, "") ≠ some (s.sspAt k).epoch →
        ∃ t, exec (.getLatchedNew i p) s = .next t ∧ s.gave t i (replyLines p [s.attrKVs i .ssp (some k) "" (getSet .ssp (some k) "") ++ [("epoch", toString (s.sspAt k).epoch)]])
          ∧ (t.sessAt i).epochs.find (.ssp, k, "") = some (s.sspAt k).epoch ∧ t.butReply s = s ∧ s.answeredOnly t i)
    ∧ (p.names .get .ssp (some k) → p.attrs = [] → p.adv .new = true → s.unitErrs i p .ssp (some k) = [] →
        (s.sessAt i).epochs.find (.ssp, k, "") = some (s.sspAt k).epoch →
        ∃ t, exec (.getLatchedNew i p) s = .next t ∧ s.gave t i [erLine ⟨.notready, none⟩ p.tag p.checked] ∧ t.butReply s = s)
    ∧ (∀ (n : Noun), p.names .showV n (some k) → n ∉ [.aid, .gnss, .impl, .reg, .filter] → s.unitErrs i p n (some k) = [] → getErrs (specs n (some k) "") p = [] →
        ∃ t, exec (.show i p) s = .next t ∧ s.gave t i (replyLines p [s.attrKVs i n (some k) "" (showNames p n k)]) ∧ t.butReply s = s ∧ s.answeredOnly t i)
    ∧ (p.verb = .help → p.noun = none → p.attrs = [] →
        ∃ t, exec (.help i p) s = .next t ∧ s.gave t i (replyLines p (helpVerbs.map verbLine)) ∧ t.butReply s = s ∧ s.answeredOnly t i)

/-- SET_ATTRIBUTES (R58, R59, R118, R119, R309): SET of an odometry unit that is STOPPED, without errors, gives each named attribute the value named; every other stored
attribute of every unit keeps its value and nothing else changes. A verb that the noun does not accept is E-ATTR at the verb and changes nothing. It rests on the model's choices of assumptions 15 and 29. -/
def Obligations.SetStoresNamedAttributes : Prop :=
  ∀ (s : State) (i k : Nat) (p : Phrase), s.mayRun i p = true → rowOf p = "SET_ATTRIBUTES" →
    (p.names .set .odo (some k) → s.unitErrs i p .odo (some k) = [] → (p.attrs.map AttrTok.name).Nodup → setAttrErrs odoAttrs (s.sessAt i).super p = [] →
        (s.newVal p odoAttrs .odo k "CHGDN").int < (s.newVal p odoAttrs .odo k "CHGUP").int → (s.odoAt k).state = 0 →
        ∃ t, exec (.setAttributes i p) s = .next t ∧ (∀ a ∈ p.attrs, some (t.val .odo k a.name) = (specFind a.name odoAttrs).bind (fun x => a.value.bind (parseVal x.form)))
          ∧ (∀ n ix sub name, (n, ix, sub) ≠ (.odo, k, "") ∨ p.has name = false → t.val n ix name sub = s.val n ix name sub) ∧ { t.butReply s with cfg := s.cfg } = s
          ∧ s.answeredOnly t i)
    ∧ (p.names .arm .chan (some k) → s.unitErrs i p .chan (some k) = [] →
        ∃ t, exec (.setAttributes i p) s = .next t ∧ s.gave t i [erLine ⟨.attr, some p.verbTok⟩ p.tag p.checked] ∧ t.butReply s = s ∧ s.answeredOnly t i)

/-! ### Partitions (03_partitions.md) -/

/-- SET_PART_OWNERSHIP, SET_DEVICE_SECPIN, SET_DEVICE_OWNLOCK and SET_DEVICE_PINLOCK (R101 to R105): a supervisor gives units to a partition and pins to SECURE, every other
unit keeping its owner, and sets the locks, which a SET never takes off. It rests on the model's choices of assumption 30. -/
def Obligations.OwnershipAndLocks : Prop :=
  ∀ (s : State) (i : Nat) (p : Phrase), s.mayRun i p = true → (s.sessAt i).super = true →
    (∀ (n : Nat), n < 4 → p.names .set .part (some n) → setAttrErrs (partAttrs n) true p = [] → s.ownErrs n p = [] →
        ∃ t, exec (.setPartOwnership i p) s = .next t ∧ (∀ u ∈ namedUnits p, t.owner u.2.1 u.2.2 = n)
          ∧ (∀ c ∈ ownClasses, ∀ k, (∀ u ∈ namedUnits p, ¬(u.2.1 = c.2.1 ∧ u.2.2 = k)) → t.owner c.2.1 k = s.owner c.2.1 k)
          ∧ { t.butReply s with own := s.own, pins := s.pins, cfg := s.cfg, trace := s.trace } = s)
    ∧ (∀ (v : String), p.names .set .device none → (upper v = "ON" ∨ upper v = "OFF") → s.ownlock = false → p.attrs = [⟨"OWNLOCK", some v, "OWNLOCK=" ++ v⟩] →
        ∃ t, exec (.setDeviceOwnlock i p) s = .next t ∧ t.ownlock = decide (upper v = "ON") ∧ { t.butReply s with ownlock := s.ownlock } = s ∧ s.answeredOnly t i)
    ∧ (∀ (v : String), p.names .set .device none → (upper v = "ON" ∨ upper v = "OFF") → s.pinlock = false → p.attrs = [⟨"PINLOCK", some v, "PINLOCK=" ++ v⟩] →
        ∃ t, exec (.setDevicePinlock i p) s = .next t ∧ t.pinlock = decide (upper v = "ON") ∧ { t.butReply s with pinlock := s.pinlock } = s ∧ s.answeredOnly t i)
    ∧ (p.names .set .device none → setAttrErrs deviceAttrs true p = [] → p.attrs.map AttrTok.name = ["SECPIN"] → s.pinlock = false → s.ownlock = false →
        (∀ k ∈ secPins p, s.mayMove .pin k secureOwner = true) →
        ∃ t, exec (.setDeviceSecpin i p) s = .next t ∧ (∀ k ∈ secPins p, t.owner .pin k = secureOwner) ∧ (∀ k, k ∉ secPins p → t.owner .pin k = s.owner .pin k)
          ∧ { t.butReply s with own := s.own, pins := s.pins, cfg := s.cfg, trace := s.trace } = s)
    ∧ ((p.names .set .device none ∧ s.ownlock = true ∧ p.attrs = [⟨"OWNLOCK", some "OFF", "OWNLOCK=OFF"⟩]) →
        ∃ t, exec (.setDeviceOwnlock i p) s = .next t ∧ t.ownlock = true ∧ t.cnt "LOCKWR_CNT" 0 = (s.cnt "LOCKWR_CNT" 0 + 1) % 2 ^ 32)

/-- SET_KEY and GET_KEY (R113, R114): KEY0 is written once, by a supervisor in factory state, most significant word first, and every other session loses the role; reading
gives whether it is written and its check value. -/
def Obligations.KeyWrittenOnceAndNeverRead : Prop :=
  ∀ (s : State) (i : Nat) (p : Phrase), s.mayRun i p = true →
    (∀ (w0 w1 w2 w3 : Nat), (w0 < 2 ^ 64 ∧ w1 < 2 ^ 64 ∧ w2 < 2 ^ 64 ∧ w3 < 2 ^ 64) → p.names .set .key (some 0) → (s.sessAt i).super = true → s.key0 = none →
        p.attrs.map AttrTok.name = ["W0", "W1", "W2", "W3"] →
        p.attrs.map (fun a => (a.value.bind (parseVal (.hex 16))).map Val.int) = [some (w0 : Int), some (w1 : Int), some (w2 : Int), some (w3 : Int)] →
        ∃ t, exec (.setKey i p) s = .next t ∧ t.key0 = some (BitVec.ofNat 256 (((w0 * 2 ^ 64 + w1) * 2 ^ 64 + w2) * 2 ^ 64 + w3)) ∧ (t.sessAt i).super = true
          ∧ (∀ j, j < 11 → j ≠ i → (t.sessAt j).super = false) ∧ { t.butReply s with trace := s.trace, key0 := none } = s)
    ∧ (p.names .get .key (some 0) → p.attrs = [] →
        ∃ t, exec (.getKey i p) s = .next t
          ∧ s.gave t i (replyLines p [[("written", if s.key0.isSome then "YES" else "NO"), ("kcv", match s.key0 with
                | none => "----"
                | some k => String.ofList (hexDigits (keyKcv k) 4))]])
          ∧ t.butReply s = s)

/-- STOP_PART (R117), RESET_PART with its end (R122), and RESET_DEVICE (R94, R618). Stopping ends the implement and every port and function of the partition; a reset begins with
RESETTING and ends in STOPPED, counted; a device reset begins BOOT with cause DEVICE, no session open, the configuration, ownership and OWNLOCK at their defaults, and keeps KEY0 and PINLOCK. It rests on the model's choices of assumptions 31, 32 and 135. -/
def Obligations.StoppingAndResetting : Prop :=
  ∀ (s : State) (i n : Nat) (p : Phrase), n < 4 →
    (s.mayRun i p = true → p.names .stop .part (some n) → p.attrs = [] → s.unitErrs i p .part (some n) = [] → (s.partAt n).state = .running →
        s.peer.nodeBinds = [] → (∀ u, u < 56 → (s.unitAt u).direct = true → s.unitPresent u = true) →
        ∃ t, exec (.stopPart i p) s = .next t ∧ (t.implAt n).running = false ∧ (∀ m, m < 2 → s.owner .ssp m = n → (t.sspAt m).running = false) ∧ (t.partAt n).state = .stopped
          ∧ (t.ownlock = s.ownlock ∧ t.key0 = s.key0 ∧ t.own = s.own ∧ t.gnss = s.gnss ∧ t.cellar = s.cellar))
    ∧ (s.mayRun i p = true → p.names .reset .part (some n) → p.attrs = [] → s.unitErrs i p .part (some n) = [] → (s.partAt n).state ≠ .resetting →
        ∃ t, exec (.resetPart i p) s = .next t ∧ (t.partAt n).state = .resetting ∧ (t.implAt n).running = false ∧ (∀ m, m < 2 → s.owner .ssp m = n → (t.sspAt m).running = false)
          ∧ (t.own = s.own ∧ t.ownlock = s.ownlock ∧ t.key0 = s.key0))
    ∧ ((s.partAt n).state = .resetting → (s.partAt n).pendFault = none → (s.partAt n).wasLast = [] → (∀ u, u < 56 → (s.unitAt u).held = false) →
        ∃ t, exec (.partResetComplete n []) s = .next t ∧ (t.partAt n).state = .stopped ∧ (t.partAt n).resets = (s.partAt n).resets + 1 ∧ (∀ m, m ≠ n → t.partAt m = s.partAt m)
          ∧ { t with parts := s.parts, sess := s.sess, cnts := s.cnts, trace := s.trace, power := s.power } = s)
    ∧ (s.mayRun i p = true → p.names .reset .device none → p.attrs = [] → (s.sessAt i).super = true → i < 3 →
        ∃ t, exec (.resetDevice i p) s = .next t ∧ (t.power.dstate = .boot ∧ t.power.cause = .device ∧ t.power.variant = s.power.variant) ∧ (∀ j, (t.sessAt j).opened = false)
          ∧ (t.key0 = s.key0 ∧ t.pinlock = s.pinlock ∧ t.ownlock = false ∧ t.cfg = [] ∧ t.own = [] ∧ t.pantry = s.pantry))

/-! ### Planner and implements (04_planner.md, 05_switch_timing.md) -/

/-- PLANNER_CYCLE (R135, R139): the cycle runs at the next multiple of 5 ms; in it every RUNNING implement takes its motion from its speed, STOP below 100 mm/s, FWD from 100 mm/s, REV from
−100 mm/s down; in STOP a heading it had before is held and the derived yaw rate is 0. An implement whose STOP waits stops (R135). It rests on the model's choices of assumption 3. -/
def Obligations.MotionFollowsSpeed : Prop :=
  ∀ (s : State) (n : Nat) (d : Bool), n < 4 → (s.implAt n).running = true →
    ((s.implAt n).stopDue = false →
        ∃ t, exec (.plannerCycle d) s = .next t ∧ t.now = s.nextTick "PLAN" 0 (5 * nsMs) ∧ (t.implAt n).cycled = true
          ∧ (-100 < (t.implAt n).speed ∧ (t.implAt n).speed < 100 → (t.implAt n).motion = 0) ∧ (100 ≤ (t.implAt n).speed → (t.implAt n).motion = 1)
          ∧ ((t.implAt n).speed ≤ -100 → (t.implAt n).motion = 2) ∧ ((t.implAt n).motion = 0 → (s.implAt n).moved = true → (t.implAt n).hdg = (s.implAt n).hdg)
          ∧ ((t.implAt n).motion = 0 → s.word .impl n "YAWSRC" = "DERIVED" → (t.implAt n).yaw = 0))
    ∧ ((s.implAt n).stopDue = true →
        ∃ t, exec (.plannerCycle d) s = .next t ∧ (t.implAt n).running = false ∧ t.now = s.nextTick "PLAN" 0 (5 * nsMs))

/-- SEC_STOPTIME_EXPIRY (R155): a section with STOP=CLOSE is decided closed with reason STOP and its unit commanded off. LOSTHOLD_EXPIRY (R157): the hold of a lost position ends.
PLANNER_LANE_CHECK_DONE (R159): the check of both lanes ends and retires the one lane that failed, or both where none or both failed. It rests on the model's choices of assumption 138. -/
def Obligations.PlannerTimersAct : Prop :=
  ∀ (s : State) (n k : Nat),
    (∀ (t0 : Nat), s.owner .sec k = n → (s.implAt n).running = true → (s.implAt n).stopAt = some t0 → s.list .sec k "BIND" ≠ [0] → s.word .sec k "STOP" = "CLOSE" →
        (s.secAt k).stopDone = false → (s.secAt k).unserved = none →
        ∃ t, exec (.secStoptimeExpiry k) s = .next t ∧ t.now = max s.now (t0 + s.ns .sec k "STOPTIME") ∧ (t.secAt k).stopDone = true
          ∧ ((s.secAt k).opened = true ∨ (s.secAt k).decided = true → (t.secAt k).decided = false ∧ (t.secAt k).reason = 5 ∧ (t.secAt k).cmdOn = false)
          ∧ (∀ m, m ≠ n → t.implAt m = s.implAt m))
    ∧ (∀ (t0 : Nat), n < 4 → (s.implAt n).running = true → (s.implAt n).lostAt = some t0 → s.word .impl n "LOSTPOS" = "HOLD" → (s.implAt n).lostDone = false →
        ∃ t, exec (.lostholdExpiry n) s = .next t ∧ t.now = max s.now (t0 + s.ns .impl n "LOSTHOLD") ∧ (t.implAt n).lostDone = true)
    ∧ (∀ (a b : Bool), n < 4 → (s.implAt n).laneEnd = some k → (∀ m, m < 4 → m ≠ n → (s.implAt m).laneEnd = none ∧ (s.implAt m).running = false) →
        (s.retired 10 = false ∧ s.retired 11 = false) → s.power.dstate = .run →
        ∃ t, exec (.plannerLaneCheckDone a b) s = .next t ∧ t.now = max s.now k ∧ (t.implAt n).laneEnd = none ∧ t.retired 10 = (a || !b) ∧ t.retired 11 = (b || !a))

/-- START_IMPL (R119, R160), STOP_IMPL (R135, R160) and IMPL_BIND_TIMEOUT (R458): with no error and no remote binding the implement runs with drawbar angle 0, every planned section
decided closed; STOP waits for the next planner cycle, or acts at once with NOW; a START whose bindings are not all answered in 100 ms fails with E-NODE. It rests on the model's choices of assumptions 49 and 51. -/
def Obligations.ImplementsStartAndStop : Prop :=
  ∀ (s : State) (i n : Nat) (p : Phrase), n < 4 →
    (s.mayRun i p = true → p.names .start .impl (some n) → p.attrs = [] → s.unitErrs i p .impl (some n) = [] → s.implStartErrs n p.nounTok = [] →
        s.reserveRefused n = false → s.remotes n = [] →
        ∃ t, exec (.startImpl i p) s = .next t ∧ (t.implAt n).running = true ∧ (t.implAt n).gamma = 0 ∧ (t.partAt n).state = .running
          ∧ (∀ k ∈ s.planned n, (t.secAt k).decided = false ∧ (t.secAt k).held = []) ∧ (t.cfg = s.cfg ∧ t.own = s.own))
    ∧ (s.mayRun i p = true → p.names .stop .impl (some n) → p.attrs = [] → s.unitErrs i p .impl (some n) = [] → (s.implAt n).running = true →
        (s.implAt n).bindWait = none → p.adv .now = false →
        ∃ t, exec (.stopImpl i p) s = .next t ∧ t.implAt n = { s.implAt n with stopDue := true } ∧ { t.butReply s with impls := s.impls } = s ∧ s.answeredOnly t i)
    ∧ (s.mayRun i p = true → p.names .stop .impl (some n) → p.attrs = [] → s.unitErrs i p .impl (some n) = [] → (s.implAt n).running = true →
        (s.implAt n).bindWait = none → p.adv .now = true →
        ∃ t, exec (.stopImpl i p) s = .next t ∧ t.implAt n = {} ∧ (∀ k ∈ s.planned n, t.secAt k = {}))
    ∧ (∀ (j t0 : Nat) (q : Phrase), (s.implAt n).bindWait = some (j, t0) → j < 3 → (s.sessAt j).await = some q → (s.sessAt j).opened = true →
        (s.sessAt j).queue = [] → (s.sessAt j).owed = [] →
        ∃ t, exec (.implBindTimeout n) s = .next t ∧ t.now = max s.now (t0 + 100 * nsMs) ∧ (t.implAt n).bindWait = none ∧ (t.sessAt j).await = none
          ∧ t.cnt "ERR_CNT" j = (s.cnt "ERR_CNT" j + 1) % 2 ^ 32)

/-- SET_IMPL_POS, SET_IMPL_MOT and GET_IMPL_SAMPLE (R140, R141, R162): a sample of a RUNNING implement whose time of validity is new, no more than 1 ms ahead and within MAXAGE is the last accepted
sample, which GET returns; a stale one is E-RANGE, counted, and changes nothing else. It rests on the model's choices of assumption 46. -/
def Obligations.InjectedSamplesAreTaken : Prop :=
  ∀ (s : State) (i n : Nat) (p : Phrase), s.mayRun i p = true →
    (p.names .set .impl (some n) "POS" → s.unitErrs i p .impl (some n) = [] → setAttrErrs (sampleAttrs true) (s.sessAt i).super p = [] →
        (p.has "TOV" = true ↔ p.has "AGE" = false) → (p.has "LAT" = true ∧ p.has "LON" = true ∧ p.has "FIX" = true) →
        s.staleSample n true (s.phraseSample p true).tov = false → (s.implAt n).running = true →
        ∃ t, exec (.setImplPos i p) s = .next t ∧ (t.implAt n).pos = some (s.phraseSample p true) ∧ (t.implAt n).mot = (s.implAt n).mot
          ∧ { t.butReply s with impls := s.impls, peer := s.peer, larder := s.larder, trace := s.trace } = s)
    ∧ (p.names .set .impl (some n) "POS" → s.unitErrs i p .impl (some n) = [] → setAttrErrs (sampleAttrs true) (s.sessAt i).super p = [] →
        (p.has "TOV" = true ∧ p.has "AGE" = false) → (p.has "LAT" = true ∧ p.has "LON" = true ∧ p.has "FIX" = true) →
        s.staleSample n true (s.phraseSample p true).tov = true →
        ∃ t, exec (.setImplPos i p) s = .next t ∧ s.gave t i [erLine ⟨.range, p.tok "TOV"⟩ p.tag p.checked] ∧ t.cnt "STALE_CNT" n = (s.cnt "STALE_CNT" n + 1) % 2 ^ 32
          ∧ t.butReply s = s)
    ∧ (p.names .set .impl (some n) "MOT" → s.unitErrs i p .impl (some n) = [] → setAttrErrs (sampleAttrs false) (s.sessAt i).super p = [] →
        (p.has "TOV" = true ↔ p.has "AGE" = false) → (p.has "HDG" = true ∨ p.has "YAW" = true ∨ p.has "SPD" = true) →
        s.staleSample n false (s.phraseSample p false).tov = false → (s.implAt n).running = true →
        ∃ t, exec (.setImplMot i p) s = .next t ∧ (t.implAt n).mot = some (s.phraseSample p false) ∧ (t.implAt n).pos = (s.implAt n).pos
          ∧ { t.butReply s with impls := s.impls, peer := s.peer, larder := s.larder, trace := s.trace } = s)
    ∧ (∀ (x : Sample), p.names .get .impl (some n) "MOT" → p.attrs = [] → s.accessErr i .get .impl (some n) = [] → (s.implAt n).mot = some x →
        ∃ t, exec (.getImplSample i p) s = .next t
          ∧ s.gave t i (replyLines p [(match x.hdg with | some v => [("hdg", toString v)] | none => []) ++ (match x.yaw with | some v => [("yaw", toString v)] | none => []) ++ (match x.spd with | some v => [("spd", toString v)] | none => []) ++ [("tov", toString (x.tov / 1000))]])
          ∧ t.butReply s = s ∧ s.answeredOnly t i)

/-- SET_SEC_MANUAL (R154) and SET_SEC_OVERLAP (R150, R169): MANUAL is stored and, on a section of a RUNNING implement, OFF closes it at once with reason MANUAL and discards its triggers;
ONPCT and OFFPCT are stored, an OFFPCT below ONPCT is E-RANGE. -/
def Obligations.SectionSettingsAct : Prop :=
  ∀ (s : State) (i k : Nat) (p : Phrase), s.mayRun i p = true → s.unitErrs i p .sec (some k) = [] → setAttrErrs secAttrs (s.sessAt i).super p = [] → p.names .set .sec (some k) →
    (p.attrs = [⟨"MANUAL", some "OFF", "MANUAL=OFF"⟩] → (s.newVal p secAttrs .sec k "ONPCT").int ≤ (s.newVal p secAttrs .sec k "OFFPCT").int →
        (s.implAt (s.owner .sec k)).running = true → s.list .sec k "BIND" ≠ [0] → (s.secAt k).unserved = none →
        ((s.forced k).isNone = true ∨ (s.forced k).map Prod.fst = some 8) →
        ∃ t, exec (.setSecManual i p) s = .next t ∧ t.word .sec k "MANUAL" = "OFF"
          ∧ ((t.secAt k).decided = false ∧ (t.secAt k).reason = 8 ∧ (t.secAt k).cmdOn = false ∧ t.trigsOf k = []))
    ∧ (p.attrs.map AttrTok.name = ["ONPCT", "OFFPCT"] → (s.newVal p secAttrs .sec k "ONPCT").int ≤ (s.newVal p secAttrs .sec k "OFFPCT").int →
        ∃ t, exec (.setSecOverlap i p) s = .next t ∧ t.val .sec k "ONPCT" = s.newVal p secAttrs .sec k "ONPCT" ∧ t.val .sec k "OFFPCT" = s.newVal p secAttrs .sec k "OFFPCT"
          ∧ { t.butReply s with cfg := s.cfg } = s ∧ s.answeredOnly t i)
    ∧ (p.attrs.map AttrTok.name = ["ONPCT", "OFFPCT"] → (s.newVal p secAttrs .sec k "OFFPCT").int < (s.newVal p secAttrs .sec k "ONPCT").int →
        (s.implAt (s.owner .sec k)).running = false →
        ∃ t, exec (.setSecOverlap i p) s = .next t ∧ s.gave t i [erLine ⟨.range, p.tok "ONPCT"⟩ p.tag p.checked] ∧ t.butReply s = s)

/-- COMMAND_RELEASE (R182, R183), EFFECTIVE_STATE_CHANGE (R158) and REMOTE_FIRE_TIME (R247): the held command that is due first is released at its instant, an OFF always and at once; the effective state
takes its next change at its instant; a remote command's fire time moves the section into or out of the open set. It rests on the model's choices of assumptions 53 and 55. -/
def Obligations.CommandsReachSections : Prop :=
  ∀ (s : State) (k : Nat), (s.secAt k).unserved = none →
    (∀ (h : Held) (u : Nat), (s.secAt k).held = [h] → h.on = false → s.secUnit k = some u →
        ∃ t, exec (.commandRelease k) s = .next t ∧ t.now = max s.now h.due ∧ (t.secAt k).held = [] ∧ (t.secAt k).cmdOn = false
          ∧ (h.late + s.delayOf k false, false) ∈ (t.secAt k).effDue ∧ (t.unitAt u).enabled = false)
    ∧ (∀ (h : Held) (u : Nat), (s.secAt k).held = [h] → h.on = true → s.secUnit k = some u →
        ∃ t, exec (.commandRelease k) s = .next t ∧ t.now = max s.now h.due ∧ (t.secAt k).held = []
          ∧ ((t.secAt k).refused = true ∨ ((t.secAt k).cmdOn = true ∧ (h.late + s.delayOf k true, true) ∈ (t.secAt k).effDue)))
    ∧ (∀ (e : Nat × Bool) (rest : List (Nat × Bool)), (s.secAt k).effDue = e :: rest →
        ∃ t, exec (.effectiveStateChange k) s = .next t ∧ t.now = max s.now e.1 ∧ (t.secAt k).eff = e.2 ∧ (t.secAt k).effDue = rest
          ∧ (t.secAt k).logDue = ((s.secAt k).logDue || (s.secAt k).eff != e.2))
    ∧ (∀ (c : LeadCmd), s.peer.sent = [c] → c.sec = k → c.applied = false → c.now = false →
        ∃ t, exec (.remoteFireTime k) s = .next t ∧ t.now = max s.now c.ftime ∧ (t.secAt k).cmdOn = c.on ∧ (t.secAt k).metOpen = c.on)

/-! ### Cellar, larder, pantry (06_cellar_larder.md) -/

/-- CELLAR_INIT_COMPLETE (R199), SCRUB_BURST (R202), SET_CELLAR (R204, R231) and RESET_CELLAR (R199, R214): at its end each memory is READY, FAILED or absent; an uncorrectable line found by scrub is
poisoned and counted, a corrected one counted; settings are stored and take effect with the next initialisation, which empties every layer. It rests on the model's choices of assumptions 57 and 59. -/
def Obligations.CellarMemoriesReportTheirState : Prop :=
  ∀ (s : State) (i : Nat) (p : Phrase) (r : CellarInit) (q : ScrubRead),
    (s.cellar.init = true →
        ∃ t, exec (.cellarInitComplete r) s = .next t ∧ t.cellar.init = false
          ∧ t.cellar.psram = (if s.celUse "PSRAM" = .w "NONE" then .none_ else if r.psramFail.isSome || s.power.vxslow then .failed else .ready)
          ∧ (t.cellar.nor = (if r.norKiB = 0 ∧ r.norFail = none then .none_ else if r.norFail.isSome || s.power.vxslow then .failed else .ready))
          ∧ { t with cellar := s.cellar, sess := s.sess, cnts := s.cnts, trace := s.trace } = s)
    ∧ (s.psReady = true → q.passEnd = none →
        ∃ t, exec (.scrubBurst q) s = .next t ∧ (q.errs = 0 → t.cellar = s.cellar)
          ∧ (q.errs = 1 → t.cellar = s.cellar ∧ t.cnt "CEL_CORR_CNT" 0 = (s.cnt "CEL_CORR_CNT" 0 + 1) % 2 ^ 32) ∧ (q.errs = 2 → (q.layer, q.te, q.tn, q.line) ∈ t.cellar.poison)
          ∧ (t.cellar.tiles = s.cellar.tiles ∧ t.cfg = s.cfg ∧ t.units = s.units))
    ∧ (s.mayRun i p = true → p.names .set .cellar none → (s.sessAt i).super = true → setAttrErrs cellarAttrs true p = [] →
        p.attrs.map AttrTok.name = ["PSRAM", "COVSIZE"] → (s.newVal p cellarAttrs .cellar 0 "PSRAM" = .n 64 ∧ s.norReady = false) →
        s.regionErrs (.n 64) (s.newVal p cellarAttrs .cellar 0 "COVSIZE").int.toNat (s.nat .cellar 0 "RXSIZE") (s.nat .cellar 0 "STAGESIZE") (s.nat .trace 0 "TRACESIZE") (s.word .trace 0 "DEST") = [] →
        ∃ t, exec (.setCellar i p) s = .next t ∧ t.val .cellar 0 "PSRAM" = .n 64 ∧ t.val .cellar 0 "COVSIZE" = s.newVal p cellarAttrs .cellar 0 "COVSIZE"
          ∧ { t.butReply s with cfg := s.cfg } = s ∧ s.answeredOnly t i)
    ∧ (s.mayRun i p = true → p.names .reset .cellar none → p.attrs = [] → (s.sessAt i).super = true → s.nounRetired .cellar 0 = false →
        (∀ n, n < 4 → (s.implAt n).running = false) → (∀ n, n < 8 → (s.prodAt n).state ≠ 1) → s.mapBusy = false →
        ∃ t, exec (.resetCellar i p) s = .next t ∧ (t.cellar.init = true ∧ t.cellar.tiles = [] ∧ t.cellar.poison = [] ∧ t.psReady = false) ∧ t.origin = none
          ∧ (t.cellar.saved = s.cellar.saved ∧ t.cellar.logRing = s.cellar.logRing ∧ t.cellar.logSeq = s.cellar.logSeq)
          ∧ { t.butReply s with cellar := s.cellar, trace := s.trace, cfg := s.cfg } = s)

/-- SET_MAP_STAGE and LOAD_MAP_TILE (R210, R211, R242): a staging write beyond the window is E-RANGE and writes nothing; one inside puts its bytes, and only them, into the window of the
session's partition; neither touches another partition's window. A load turns the staged bytes into the tile. -/
def Obligations.StagingWritesStayInTheirWindow : Prop :=
  ∀ (s : State) (i l off : Nat) (d : List Nat) (p : Phrase), s.mayRun i p = true → s.unitErrs i p .map (some l) = [] → (s.sessAt i).part < 4 →
    (p.names .set .map (some l) → p.attrs.map AttrTok.name = ["STAGE", "D"] →
        (attrInt p "STAGE" 0 4294967295 = some (off : Int) ∧ attrVal p "D" (.bytes 1 64) = some (.l d)) → s.winBytes < off + d.length →
        ∃ t, exec (.setMapStage i p) s = .next t ∧ s.gave t i [erLine ⟨.range, p.tok "STAGE"⟩ p.tag p.checked] ∧ t.butReply s = s)
    ∧ (p.names .set .map (some l) → p.attrs.map AttrTok.name = ["STAGE", "D"] →
        (attrInt p "STAGE" 0 4294967295 = some (off : Int) ∧ attrVal p "D" (.bytes 1 64) = some (.l d)) → off + d.length ≤ s.winBytes → s.psReady = true →
        (∀ b ∈ d, b < 256) →
        ∃ t, exec (.setMapStage i p) s = .next t ∧ (∀ j, j < d.length → stageRead (t.stage (s.sessAt i).part) (off + j) = d.getD j 0)
          ∧ (∀ a, (a < off ∨ off + d.length ≤ a) → stageRead (t.stage (s.sessAt i).part) a = stageRead (s.stage (s.sessAt i).part) a)
          ∧ (∀ m, m < 4 → m ≠ (s.sessAt i).part → t.stage m = s.stage m) ∧ { t.butReply s with cellar := s.cellar } = s)
    ∧ (∀ (te tn : Int), p.names .load .map (some l) → p.attrs.map AttrTok.name = ["TE", "TN", "STAGE"] →
        (attrVal p "TE" (s.tileRange l) = some (.n te) ∧ attrVal p "TN" (s.tileRange l) = some (.n tn) ∧ attrInt p "STAGE" 0 4294967295 = some (off : Int)) →
        (off + tileBytes l ≤ s.winBytes ∧ s.psReady = true ∧ s.mapBusy = false ∧ s.slotFree (coverLayer l) = true) →
        (coverLayer l = true → (s.implAt l).running = false) → (s.askHeavy 2).2 = some s.now →
        ∃ t, exec (.loadMapTile i p) s = .next t ∧ t.tile l te tn = some (tileOf l ((List.range (tileBytes l)).map fun j => stageRead (s.stage (s.sessAt i).part) (off + j)))
          ∧ (∀ k e n, (k, e, n) ≠ (l, te, tn) → t.tile k e n = s.tile k e n) ∧ (∀ m, m < 4 → t.stage m = s.stage m))

/-- Whatever command stands in front, in any state: if the four staging windows are in canonical form (R210), or at most 64 records wait for the attic (R584), so it is after the step; and windows in canonical form that read alike everywhere are equal data. -/
def Obligations.EveryStepKeepsWindowsAndAttic : Prop :=
(∀ s t : State, s.windowsWf = true → step s = .next t → t.windowsWf = true)
    ∧ (∀ s t : State, s.attic.pend.length ≤ 64 → step s = .next t → t.attic.pend.length ≤ 64)
    ∧ ∀ c d : List Host.Cell, Memory.wf c = true → Memory.wf d = true → (∀ a, stageRead c a = stageRead d a) → c = d

/-- GET_MAP_TILE, GET_MAP_CELL (R206, R212), RESET_MAP_LAYER and RESET_MAP_ALL (R213): bytes of a tile, and the value of the cell that holds a field point with the tile's numbers; a reset frees the tiles of one
layer, or of all with the field origin. It rests on the model's choices of assumption 10. -/
def Obligations.MapsAreReadAndCleared : Prop :=
  ∀ (s : State) (i l : Nat) (p : Phrase), s.mayRun i p = true →
    (∀ (te tn : Int) (off len : Nat), p.names .get .map (some l) → s.unitErrs i p .map (some l) = [] → p.attrs.map AttrTok.name = ["TE", "TN", "OFF", "LEN"] →
        (attrVal p "TE" (s.tileRange l) = some (.n te) ∧ attrVal p "TN" (s.tileRange l) = some (.n tn)) →
        (attrInt p "OFF" 0 ((tileBytes l - 1 : Nat) : Int) = some (off : Int) ∧ attrInt p "LEN" 1 64 = some (len : Int)) →
        (off + len ≤ tileBytes l ∧ s.psReady = true ∧ s.poisonIn l te tn off len = false) →
        ∃ t, exec (.getMapTile i p) s = .next t
          ∧ s.gave t i (replyLines p [[("te", toString te), ("tn", toString tn), ("off", toString off), ("d", showBytes ((List.range len).map fun j => tileByte l ((s.tile l te tn).getD []) (off + j)))]])
          ∧ t.butReply s = s ∧ s.answeredOnly t i)
    ∧ (∀ (e n : Int), p.names .get .map (some l) → s.unitErrs i p .map (some l) = [] → p.attrs.map AttrTok.name = ["E", "N"] →
        (attrInt p "E" (-20000000) 20000000 = some e ∧ attrInt p "N" (-20000000) 20000000 = some n) → (s.psReady = true ∧ s.cellar.poison = []) →
        ∃ t, exec (.getMapCell i p) s = .next t
          ∧ (let a := s.cellIx l (1000 * e); let b := s.cellIx l (1000 * n); s.gave t i (replyLines p [[("value", toString (Tab.get (cellFill l) ((s.tile l (tileIx l a) (tileIx l b)).getD []) (cellPos l a b))), ("te", toString (tileIx l a)), ("tn", toString (tileIx l b))]]))
          ∧ t.butReply s = s ∧ s.answeredOnly t i)
    ∧ (p.names .reset .map (some l) → p.attrs = [] → s.unitErrs i p .map (some l) = [] → (l < 4 ∨ 10 ≤ l) →
        (if coverLayer l then (s.implAt l).running = false else (s.prodAt (l - 10)).state ≠ 1) → s.mapBusy = false →
        ∃ t, exec (.resetMapLayer i p) s = .next t ∧ (t.cellar.tiles = s.cellar.tiles.filter fun x => decide (x.1.1 ≠ l)) ∧ { t.butReply s with cellar := s.cellar } = s
          ∧ s.answeredOnly t i)
    ∧ (p.names .reset .map none → p.attrs = [] → (s.sessAt i).super = true → (s.nounRetired .map 0 = false ∧ s.anyImpl = false ∧ s.mapBusy = false) →
        ∃ t, exec (.resetMapAll i p) s = .next t ∧ (t.cellar.tiles = [] ∧ t.origin = none) ∧ { t.butReply s with cellar := s.cellar, cfg := s.cfg } = s ∧ s.answeredOnly t i)

/-- SAVE_MAP, LOAD_MAP_NOR and MAP_COPY_COMPLETE (R214): a save copies the layers, cell sizes and the origin as they stand when it begins, and the set is VALID at its end; a load replaces every layer by
those of the saved set that find room, and the origin. It rests on the model's choices of assumption 58. -/
def Obligations.SavedSetCopies : Prop :=
  ∀ (s : State) (i : Nat) (p : Phrase),
    (s.mayRun i p = true → p.names .save .map none → p.attrs = [] → (s.sessAt i).super = true →
        (s.nounRetired .map 0 = false ∧ s.norReady = true ∧ s.psReady = true ∧ s.anyImpl = false ∧ s.mapBusy = false) → s.norNeed ≤ s.norRest →
        (s.askHeavy 2).2.isSome = true →
        ∃ t, exec (.saveMap i p) s = .next t ∧ (t.cellar.copy = some (true, s.snapshotMaps, i) ∧ t.cellar.saved = none ∧ t.cellar.tiles = s.cellar.tiles)
          ∧ (t.cfg = s.cfg ∧ t.units = s.units))
    ∧ (∀ (m : SavedSet), s.mayRun i p = true → p.names .load .map none → p.attrs = [⟨"SRC", some "NOR", "SRC=NOR"⟩] → (s.sessAt i).super = true →
        (s.nounRetired .map 0 = false ∧ s.norReady = true ∧ s.psReady = true ∧ s.anyImpl = false ∧ s.mapBusy = false) →
        (s.cellar.saved = some m ∧ s.savedFits m = true) → (s.askHeavy 2).2.isSome = true →
        ∃ t, exec (.loadMapNor i p) s = .next t ∧ (t.cellar.copy = some (false, m, i) ∧ t.cellar.saved = some m ∧ t.cellar.tiles = s.cellar.tiles)
          ∧ (t.cfg = s.cfg ∧ t.units = s.units))
    ∧ (∀ (m : SavedSet) (j : Nat), s.cellar.copy = some (true, m, j) →
        ∃ t, exec (.mapCopyComplete { ok := true }) s = .next t ∧ (t.cellar.copy = none ∧ t.cellar.saved = some m ∧ t.cellar.tiles = s.cellar.tiles)
          ∧ { t with cellar := s.cellar, sess := s.sess, cnts := s.cnts, trace := s.trace } = s)
    ∧ (∀ (m : SavedSet) (j : Nat), s.cellar.copy = some (false, m, j) → m.tiles.length ≤ s.slots false → (m.tiles.all fun x => !coverLayer x.1.1) = true →
        ∃ t, exec (.mapCopyComplete { ok := true }) s = .next t ∧ (t.cellar.copy = none ∧ t.cellar.tiles = m.tiles ∧ t.origin = m.origin)
          ∧ (t.units = s.units ∧ t.impls = s.impls))

/-- LOG_INTERVAL, LOG_CHANGE_WRITE (R217), LOG_NOR_WRITE (R219), GET_LOG (R220, R243) and RESET_LOG (R219): with no implement moving no record is made; a change write ends its merge and clears what was due; the record at the
front of the larder queue goes to the ring under the next number; a read gives the records it names that are still held, and what is gone. It rests on the model's choices of assumptions 60 and 63. -/
def Obligations.AsAppliedLogIsKept : Prop :=
  ∀ (s : State) (i : Nat) (p : Phrase),
    ((∀ n, n < 4 → (s.implAt n).running = false) →
        ∃ t, exec (.logInterval) s = .next t ∧ t = s.tick "LOG" 0 (s.ns .log 0 "LOGINT"))
    ∧ (∀ (e : Nat), s.cellar.logMerge = some e →
        ∃ t, exec (.logChangeWrite) s = .next t ∧ (t.cellar.logMerge = none ∧ t.now = max s.now e) ∧ (∀ k, k < 256 → s.owner .sec k < 4 → (t.secAt k).logDue = false)
          ∧ (t.cfg = s.cfg ∧ t.units = s.units ∧ t.cellar.tiles = s.cellar.tiles ∧ t.cellar.logRing = s.cellar.logRing))
    ∧ (∀ (r : LogRec) (rest : List LogRec), s.cellar.logPend = r :: rest → (s.norReady = true ∧ s.cellar.logLost = 0) → s.cellar.logRing.length < s.logSlots →
        ∃ t, exec (.logNorWrite) s = .next t
          ∧ t = { s with cellar := { s.cellar with logPend := rest, logRing := s.cellar.logRing ++ [{ r with seq := s.cellar.logSeq }], logSeq := (s.cellar.logSeq + 1) % 4294967296 } })
    ∧ (∀ (f c : Nat), s.mayRun i p = true → p.names .get .log none → p.attrs.map AttrTok.name = ["FIRST", "COUNT"] →
        (attrInt p "FIRST" 0 4294967295 = some (f : Int) ∧ attrInt p "COUNT" 1 32 = some (c : Int) ∧ s.norReady = true ∧ s.accessErr i .get .log none = []) →
        ∃ t, exec (.getLog i p) s = .next t
          ∧ s.gave t i (replyLines p ([[("oldest", toString s.logOldest), ("newest", toString s.logNewest)]] ++ (if f < s.logOldest then [[("gone", toString f ++ "-" ++ toString (min (f + c) s.logOldest - 1))]] else []) ++ (s.cellar.logRing.filter fun r => f ≤ r.seq && r.seq < f + c).map LogRec.keys))
          ∧ t.butReply s = s ∧ s.answeredOnly t i)
    ∧ (s.mayRun i p = true → p.names .reset .log none → p.attrs = [] → ((s.sessAt i).super = true ∧ s.nounRetired .log 0 = false ∧ s.norReady = true) →
        ∃ t, exec (.resetLog i p) s = .next t ∧ t.cellar = { s.cellar with logRing := [] } ∧ { t.butReply s with cellar := s.cellar } = s ∧ s.answeredOnly t i)

/-- LARDER_BACKGROUND_PASS (R221, R656): corrected errors are counted, a lost block is withdrawn from the pool for good. SAVE_PROFILE, SET_PROFILE_BOOT, RESET_PROFILE and LOAD_PROFILE (R226 to R229, R234): a slot takes
the stored configuration but for the field origin, the owners, the variant and the operating hours; a supervisor's load applies it whole. It rests on the model's choices of assumptions 61 and 65. -/
def Obligations.LarderBlocksAndProfiles : Prop :=
  ∀ (s : State) (i n : Nat) (p : Phrase),
    (∀ (r : LarderRead), r.lost = none →
        ∃ t, exec (.larderBackgroundPass r) s = .next t ∧ t = s.bumpBy "LAR_CORR_CNT" 0 r.corrected)
    ∧ (∀ (c b : Nat), b < 2048 → b ∉ s.larder.bad →
        ∃ t, exec (.larderBackgroundPass { corrected := c, lost := some (b, .free) }) s = .next t ∧ b ∈ t.larder.bad ∧ (∀ x ∈ s.larder.bad, x ∈ t.larder.bad)
          ∧ (t.cfg = s.cfg ∧ t.cans = s.cans ∧ t.cellar = s.cellar))
    ∧ (s.mayRun i p = true → p.names .save .profile (some n) → ((s.sessAt i).super = true ∧ p.attrs = [⟨"NAME", some "Corn8", "NAME=Corn8"⟩]) →
        ∃ t, exec (.saveProfile i p) s = .next t
          ∧ (t.slot n = some { name := "Corn8", cfg := s.cfg.filter fun e => !(e.1.noun = .map && (e.1.name = "ORGLAT" || e.1.name = "ORGLON")), own := s.own, variant := variantCode s.power.variant, hours := s.hours })
          ∧ (∀ m, m ≠ n → t.slot m = s.slot m) ∧ { t.butReply s with pantry := s.pantry } = s ∧ s.answeredOnly t i)
    ∧ (s.mayRun i p = true → p.names .set .profile none → ((s.sessAt i).super = true ∧ p.attrs = [⟨"BOOT", some "5", "BOOT=5"⟩]) →
        ∃ t, exec (.setProfileBoot i p) s = .next t ∧ t.pantry = { s.pantry with boot := some 5 } ∧ { t.butReply s with pantry := s.pantry } = s ∧ s.answeredOnly t i)
    ∧ (s.mayRun i p = true → p.names .reset .profile (some n) → ((s.sessAt i).super = true ∧ p.attrs = []) →
        ∃ t, exec (.resetProfile i p) s = .next t ∧ t.slot n = none ∧ (∀ m, m ≠ n → t.slot m = s.slot m) ∧ { t.butReply s with pantry := s.pantry } = s)
    ∧ (∀ (q : Profile), s.mayRun i p = true → p.names .load .profile (some n) → ((s.sessAt i).super = true ∧ p.attrs = []) →
        (s.slot n = some q ∧ q.corrupt = false ∧ s.wholeErrs q true = []) → (movedUnits s.own q.own = []) →
        (∀ u ∈ enablePorts, ((s.applyWhole q).isOn u.1 u.2 "ENABLE" = s.isOn u.1 u.2 "ENABLE")) →
        ∃ t, exec (.loadProfile i p) s = .next t ∧ (∀ k : CKey, inProfile k = true → cfgVal t.cfg k = cfgVal q.cfg k)
          ∧ s.gave t i (replyLines p [[("applied", toString (s.unitCount none))]]) ∧ (t.pantry = s.pantry ∧ t.units = s.units ∧ t.own = s.own))

/-! ### Metering (07_metering.md) -/

/-- METERING_CYCLE (R255, R258): the cycle runs at the next multiple of 20 ms. A RUNNING product with no required flow is idle: it shows ACTUAL 0, keeps its integrator and follows IDLEOUT; with flow
required and an output that is not held, a VALVE or MOTOR output lies in UMIN to UMAX. A product whose STOP waits stops. It rests on the model's choices of assumptions 66 and 69. -/
def Obligations.MeteringCycleDrivesOutputs : Prop :=
  ∀ (s : State) (p : Nat), p < 8 → (s.prodAt p).state = 1 → (∀ q, q < 8 → q ≠ p → (s.prodAt q).state ≠ 1) →
    ((s.prodAt p).stopDue = false → s.word .prod p "BASIS" = "TIME" → s.nat .prod p "TARGET" = 0 → s.word .prod p "IDLEOUT" = "ZERO" →
        ∃ t, exec (.meteringCycle) s = .next t ∧ t.now = s.nextTick "METER" 0 (20 * nsMs)
          ∧ ((t.prodAt p).qt = 0 ∧ (t.prodAt p).idle = true ∧ (t.prodAt p).actual = 0 ∧ (t.prodAt p).integ = (s.prodAt p).integ ∧ (t.prodAt p).alarm = (s.prodAt p).alarm)
          ∧ (t.prodAt p).out = s.int .prod p "UMIN")
    ∧ ((s.prodAt p).stopDue = false → s.word .prod p "OUT" ≠ "NOZZLE" → s.int .prod p "UMIN" ≤ s.int .prod p "UMAX" → (s.prodAt p).lost = false →
        ∃ t, exec (.meteringCycle) s = .next t ∧ t.now = s.nextTick "METER" 0 (20 * nsMs)
          ∧ ((t.prodAt p).qt ≠ 0 → s.int .prod p "UMIN" ≤ (t.prodAt p).out ∧ (t.prodAt p).out ≤ s.int .prod p "UMAX") ∧ (t.prodAt p).target = s.nat .prod p "TARGET")
    ∧ ((s.prodAt p).stopDue = true →
        ∃ t, exec (.meteringCycle) s = .next t ∧ (t.prodAt p).state = 0 ∧ (t.prodAt p).stopDue = false)

/-- START_PROD, STOP_PROD, SET_PROD_TARGET (R119, R255, R266, R268, R273) and FB_TIMEOUT (R264): a start without errors runs the product with a clear loop at its stored target; STOP waits for the next cycle unless NOW; a
target is stored and, without NOW, the one in force stays; missing pulses lose the feedback, counted, and with FBLOSS=CLOSE stop the product. It rests on the model's choices of assumption 68. -/
def Obligations.ProductsStartStopAndLoseFeedback : Prop :=
  ∀ (s : State) (i k : Nat) (p : Phrase), k < 8 →
    (s.mayRun i p = true → p.names .start .prod (some k) → p.attrs = [] → s.unitErrs i p .prod (some k) = [] → s.outputErrs k p.nounTok = [] →
        s.fbErrs k p.nounTok = [] → (s.word .prod k "BASIS" = "AREA" → s.carriers k ≠ []) → s.nat .prod k "DUTYMIN" ≤ s.nat .prod k "DUTYMAX" →
        (s.prodAt k).state = 0 → (s.partAt (s.owner .prod k)).state ≠ .faulted →
        ∃ t, exec (.startProd i p) s = .next t
          ∧ ((t.prodAt k).state = 1 ∧ (t.prodAt k).target = s.nat .prod k "TARGET" ∧ (t.prodAt k).integ = 0 ∧ (t.prodAt k).qf = none ∧ (t.prodAt k).alarm = 0)
          ∧ (∀ m, m ≠ k → t.prodAt m = s.prodAt m) ∧ (t.cfg = s.cfg ∧ t.own = s.own))
    ∧ (s.mayRun i p = true → p.names .stop .prod (some k) → p.attrs = [] → s.unitErrs i p .prod (some k) = [] → (s.prodAt k).state = 1 → p.adv .now = false →
        ∃ t, exec (.stopProd i p) s = .next t ∧ t.prodAt k = { s.prodAt k with stopDue := true } ∧ { t.butReply s with prods := s.prods } = s ∧ s.answeredOnly t i)
    ∧ (s.mayRun i p = true → p.names .stop .prod (some k) → p.attrs = [] → s.unitErrs i p .prod (some k) = [] → p.adv .now = true → (s.prodAt k).state ≠ 2 →
        ∃ t, exec (.stopProd i p) s = .next t ∧ (t.prodAt k).state = 0 ∧ (∀ m, m ≠ k → t.prodAt m = s.prodAt m))
    ∧ (s.mayRun i p = true → p.names .set .prod (some k) → p.attrs.map AttrTok.name = ["TARGET"] → s.unitErrs i p .prod (some k) = [] →
        setAttrErrs prodAttrs (s.sessAt i).super p = [] → p.adv .now = false →
        ∃ t, exec (.setProdTarget i p) s = .next t ∧ t.val .prod k "TARGET" = s.newVal p prodAttrs .prod k "TARGET" ∧ { t.butReply s with cfg := s.cfg } = s ∧ s.answeredOnly t i)
    ∧ (∀ (t0 m : Nat), (s.prodAt k).silent = some t0 → s.natOpt .prod k "FBODO" = some m → (s.prodAt k).state = 1 → (s.prodAt k).lost = false →
        s.word .prod k "FB" = "ODO" → s.word .prod k "FBLOSS" ≠ "CLOSE" →
        ∃ t, exec (.fbTimeout k) s = .next t ∧ t.now = max s.now (max t0 (((s.odoAt m).lastEdge).getD 0) + s.ns .prod k "FBTIMEOUT") ∧ (t.prodAt k).lost = true
          ∧ t.cnt "FBLOST_CNT" k = (s.cnt "FBLOST_CNT" k + 1) % 2 ^ 32 ∧ (t.units = s.units ∧ t.cfg = s.cfg))

/-! ### Odometry and serial sensors (08_odometry.md) -/

/-- ODO_COUNT_EDGE (R278 to R281, R285, R292, R297): on a unit counting PINS an accepted edge counts one up or down, signed 32-bit and wrapping, by MODE, DIRIN and DIRPOL; edges on both inputs in one clock
leave the count; a change of direction holds the rate and is counted; an entry of the hardware list at the new count fires and leaves it; an edge less than 200 ns after the last on its input is the block's fault. It rests on the model's choices of assumptions 13 and 73. -/
def Obligations.CountingEdgesCount : Prop :=
  ∀ (s : State) (u ts : Nat), u < 8 → (s.odoAt u).state ≠ 0 → s.nounRetired .odo u = false → s.word .odo u "SRC" = "PINS" →
    (∀ (h : Bool), (s.word .odo u "MODE" = "STEPDIR" ∧ s.word .odo u "DIRIN" = "PIN" ∧ s.word .odo u "DIRPOL" = "HIGHUP") → tooClose (s.odoAt u).lastA ts = false →
        ∃ t, exec (.odoCountEdge u ts (.a h)) s = .next t ∧ (t.odoAt u).count = wrap32 ((s.odoAt u).count + (if h then 1 else -1))
          ∧ ((t.odoAt u).lastA = some ts ∧ (t.odoAt u).lastEdge = some ts ∧ (t.odoAt u).down = !h) ∧ t.now = max s.now ts ∧ (∀ m, m ≠ u → (t.odoAt m).count = (s.odoAt m).count))
    ∧ (s.word .odo u "MODE" = "UPDOWN" → tooClose (s.odoAt u).lastB ts = false →
        ∃ t, exec (.odoCountEdge u ts .b) s = .next t ∧ (t.odoAt u).count = wrap32 ((s.odoAt u).count - 1) ∧ ((t.odoAt u).lastB = some ts ∧ (t.odoAt u).lastA = (s.odoAt u).lastA))
    ∧ (∀ (h : Bool), s.word .odo u "MODE" = "UPDOWN" → (tooClose (s.odoAt u).lastA ts = false ∧ tooClose (s.odoAt u).lastB ts = false) →
        ∃ t, exec (.odoCountEdge u ts (.both h)) s = .next t ∧ t = (s.advanceTo ts).setOdo u { s.odoAt u with lastA := some ts, lastB := some ts })
    ∧ (∀ (e0 : Nat), (s.word .odo u "MODE" = "STEPDIR" ∧ s.word .odo u "DIRIN" = "PIN" ∧ s.word .odo u "DIRPOL" = "HIGHUP") → tooClose (s.odoAt u).lastA ts = false →
        ((s.odoAt u).lastEdge = some e0 ∧ (s.odoAt u).down = false) →
        ∃ t, exec (.odoCountEdge u ts (.a false)) s = .next t ∧ (t.odoAt u).heldV = some ((s.odoAt u).report ts (s.ns .odo u "ZEROTIME"))
          ∧ t.cnt "DIRCHG_CNT" u = (s.cnt "DIRCHG_CNT" u + 1) % 2 ^ 32 ∧ ((t.odoAt u).window = false ∧ (t.odoAt u).down = true))
    ∧ (∀ (e : Entry), (s.word .odo u "MODE" = "STEPDIR" ∧ s.word .odo u "DIRIN" = "PIN" ∧ s.word .odo u "DIRPOL" = "HIGHUP") → tooClose (s.odoAt u).lastA ts = false →
        (s.odoAt u).entries = [e] → (e.hw = true ∧ e.value = (s.odoAt u).count + 1 ∧ e.value < 2147483648 ∧ e.dir ≠ 2 ∧ e.act = 1 ∧ e.pulse = true) →
        -2147483648 ≤ (s.odoAt u).count →
        ∃ t, exec (.odoCountEdge u ts (.a true)) s = .next t ∧ (t.odoAt u).entries = [] ∧ ((t.odoAt u).cmpOn = true ∧ (t.odoAt u).cmpEnd = t.now + s.ns .odo u "PULSEW")
          ∧ t.cnt "CMPFIRE_CNT" u = (s.cnt "CMPFIRE_CNT" u + 1) % 2 ^ 32)
    ∧ (∀ (h : Bool), s.countAct u (.a h) ≠ .nothing → tooClose (s.odoAt u).lastA ts = true →
        exec (.odoCountEdge u ts (.a h)) s = .fault .edgesTooClose)

/-- ODO_INDEX_EDGE (R288 to R290), ARM_ODO_IDX, DISARM_ODO_IDX and GET_ODO_IDX (R288, R309): an index edge in tolerance sets the count to IDXVAL and latches the count it found; a slip is counted and with VETO=ON keeps
the count and puts the unit into FAULTED, whose partition faults with it; arming lasts for one edge. It rests on the model's choices of assumption 74. -/
def Obligations.IndexEdgesPresetOrVeto : Prop :=
  ∀ (s : State) (i u ts : Nat) (p : Phrase), u < 8 → (s.odoAt u).state = 1 →
    (s.nounRetired .odo u = false → (s.word .odo u "IDXMODE" = "ALWAYS" ∨ s.word .odo u "IDXMODE" = "ARMED-ONCE" ∧ (s.odoAt u).armed = true) →
        idxSlips (s.odoAt u) (s.word .odo u "IDXMODE") (s.int .odo u "IDXEXP") (s.int .odo u "IDXVAL") (s.natOpt .odo u "IDXTOL") = false →
        ∃ t, exec (.odoIndexEdge u ts) s = .next t
          ∧ t = (s.advanceTo ts).setOdo u { s.odoAt u with idx := some ((s.odoAt u).count, false), idxEpoch := nextEpoch (s.odoAt u).idxEpoch, idxSeen := true, armed := false, count := s.int .odo u "IDXVAL" })
    ∧ (s.nounRetired .odo u = false → s.word .odo u "IDXMODE" = "ARMED-ONCE" → (s.odoAt u).armed = true →
        idxSlips (s.odoAt u) "ARMED-ONCE" (s.int .odo u "IDXEXP") (s.int .odo u "IDXVAL") (s.natOpt .odo u "IDXTOL") = true → s.isOn .odo u "VETO" = true →
        ∃ t, exec (.odoIndexEdge u ts) s = .next t ∧ (t.odoAt u).state = 2 ∧ (t.odoAt u).count = (s.odoAt u).count ∧ t.cnt "SLIP_CNT" u = (s.cnt "SLIP_CNT" u + 1) % 2 ^ 32
          ∧ 6 ∈ t.faults.latch)
    ∧ (s.mayRun i p = true → p.names .arm .odo (some u) "IDX" → p.attrs = [] → s.unitErrs i p .odo (some u) = [] → s.word .odo u "IDXMODE" = "ARMED-ONCE" →
        ∃ t, exec (.armOdoIdx i p) s = .next t ∧ t.odoAt u = { s.odoAt u with armed := true } ∧ { t.butReply s with odos := s.odos } = s ∧ s.answeredOnly t i)
    ∧ (s.mayRun i p = true → p.names .disarm .odo (some u) "IDX" → p.attrs = [] → s.unitErrs i p .odo (some u) = [] →
        ∃ t, exec (.disarmOdoIdx i p) s = .next t ∧ t.odoAt u = { s.odoAt u with armed := false } ∧ { t.butReply s with odos := s.odos } = s ∧ s.answeredOnly t i)
    ∧ (∀ (c : Int) (z : Bool), s.mayRun i p = true → p.names .get .odo (some u) "IDX" → (p.attrs = [] ∧ p.adv .new = false) → s.accessErr i .get .odo (some u) = [] →
        (s.odoAt u).idx = some (c, z) →
        ∃ t, exec (.getOdoIdx i p) s = .next t
          ∧ s.gave t i (replyLines p [[("count", toString c), ("slip", if z then "YES" else "NO"), ("epoch", toString (s.odoAt u).idxEpoch)]])
          ∧ (t.sessAt i).epochs.find (.odo, u, "IDX") = some (s.odoAt u).idxEpoch ∧ t.butReply s = s)

/-- ODO_SNAPSHOT (R287) latches every unit that is not STOPPED; ODO_WINDOW_GATE (R283, R284) takes the gate's rate; ODO_ZEROTIME (R283) sets the rate to 0; CMP_LIST_REFILL (R293) promotes the nearest entry; CMP_PULSE_END
(R297) ends the pulse; ODO_PLAUS_CHECK (R304, R305) faults a unit at the fifth violation in a row. It rests on the model's choices of assumptions 72 and 75. -/
def Obligations.OdometryTimesAct : Prop :=
  ∀ (s : State) (u : Nat), u < 8 →
    (∃ t, exec (.odoSnapshot) s = .next t ∧ t.now = s.nextTick "SNAP" 0 nsMs
        ∧ ((s.odoAt u).state ≠ 0 → (t.odoAt u).epoch = nextEpoch (s.odoAt u).epoch ∧ (t.odoAt u).snap.map Prod.fst = some (s.odoAt u).count)
        ∧ ((s.odoAt u).state = 0 → t.odoAt u = s.odoAt u) ∧ (∀ m, m < 8 → (t.odoAt m).count = (s.odoAt m).count)
        ∧ { t with odos := s.odos, times := s.times, lastTick := s.lastTick } = s)
    ∧ ((s.odoAt u).state ≠ 0 → (s.odoAt u).window = true → (2 ≤ (s.odoAt u).gateN ∧ (s.odoAt u).gateT1 < (s.odoAt u).gateTn) →
        ∃ t, exec (.odoWindowGate u) s = .next t ∧ (t.odoAt u).rate = ((s.odoAt u).gateN - 1) * 1000000000000 / ((s.odoAt u).gateTn - (s.odoAt u).gateT1)
          ∧ (t.odoAt u).winNext = decide (s.nat .odo u "CHGDN" * 1000 ≤ (t.odoAt u).rate) ∧ (t.odoAt u).gateN = 0)
    ∧ (∀ (e0 : Nat), (s.odoAt u).state ≠ 0 → (s.odoAt u).lastEdge = some e0 →
        exec (.odoZerotime u) s = .next ((s.advanceTo (e0 + s.ns .odo u "ZEROTIME")).setOdo u { s.odoAt u with rate := 0 }))
    ∧ (∀ (e : Entry), (s.odoAt u).entries = [e] → (e.hw = false ∧ e.passed = false) →
        ∃ t, exec (.cmpListRefill u) s = .next t ∧ (t.odoAt u).entries = [{ e with hw := true }] ∧ t.now = s.now + 500)
    ∧ ((s.odoAt u).cmpOn = true →
        exec (.cmpPulseEnd u) s = .next ((s.advanceTo (s.odoAt u).cmpEnd).setOdo u { s.odoAt u with cmpOn := false }))
    ∧ (∀ (ref : Int), (s.odoAt u).state = 1 → (∀ m, m < 8 → m ≠ u → (s.odoAt m).state = 0) → s.list .odo u "PLAUS" = [2] →
        (s.tick "PLAUS" 0 (10 * nsMs)).plausRef u = some ref →
        plausViolates (meanSpeed (s.odoAt u).speeds) ref (s.nat .odo u "PLAUSTOL") (s.nat .odo u "PLAUSMIN") false = true →
        ∃ t, exec (.odoPlausCheck) s = .next t ∧ t.now = s.nextTick "PLAUS" 0 (10 * nsMs)
          ∧ ((s.odoAt u).viol < 4 → (t.odoAt u).viol = (s.odoAt u).viol + 1 ∧ (t.odoAt u).plst = 1 ∧ (t.odoAt u).state = 1)
          ∧ (4 ≤ (s.odoAt u).viol → (t.odoAt u).state = 2 ∧ (t.odoAt u).plst = 3 ∧ t.cnt "IMPLAUS_CNT" u = (s.cnt "IMPLAUS_CNT" u + 1) % 2 ^ 32))

/-- START_ODO and STOP_ODO (R281, R307), SET_ODO_MPC_PROPOSED (R303): a start without errors runs the unit from PRESET with a clear list; a stop empties its list; MPC=PROPOSED stores the proposal, which is then gone. -/
def Obligations.OdometryStartsAndStops : Prop :=
  ∀ (s : State) (i u : Nat) (p : Phrase), u < 8 → s.mayRun i p = true → s.unitErrs i p .odo (some u) = [] →
    (p.names .start .odo (some u) → p.attrs = [] → s.odoStartErrs u = [] → (s.odoAt u).state = 0 → (s.partAt (s.owner .odo u)).state ≠ .faulted →
        ∃ t, exec (.startOdo i p) s = .next t
          ∧ ((t.odoAt u).state = 1 ∧ (t.odoAt u).count = s.int .odo u "PRESET" ∧ (t.odoAt u).entries = [] ∧ (t.odoAt u).lastEdge = none ∧ (t.odoAt u).snap = none)
          ∧ ((s.partAt (s.owner .odo u)).state = .stopped → (t.partAt (s.owner .odo u)).state = .running) ∧ (∀ m, m ≠ u → t.odoAt m = s.odoAt m))
    ∧ (p.names .stop .odo (some u) → p.attrs = [] → (s.odoDrives u = false ∧ s.odoFeeds u = false) → (s.odoAt u).state = 1 →
        ∃ t, exec (.stopOdo i p) s = .next t ∧ ((t.odoAt u).state = 0 ∧ (t.odoAt u).entries = [] ∧ (t.odoAt u).armed = false)
          ∧ (∀ m, m ≠ u → (t.odoAt m).count = (s.odoAt m).count) ∧ t.cfg = s.cfg)
    ∧ (∀ (v : Nat), p.names .set .odo (some u) → p.attrs = [⟨"MPC", some "PROPOSED", "MPC=PROPOSED"⟩] → (s.odoAt u).state = 0 → (s.odoAt u).prop = some v →
        s.int .odo u "CHGDN" < s.int .odo u "CHGUP" →
        ∃ t, exec (.setOdoMpcProposed i p) s = .next t ∧ t.val .odo u "MPC" = .n v ∧ (t.odoAt u).prop = none ∧ { t.butReply s with cfg := s.cfg, odos := s.odos } = s
          ∧ s.answeredOnly t i)

/-- ARM_CMP, DISARM_CMP, GET_CMP and GET_CMP_LIST (R293, R298, R310): a written entry joins the list last, with the value, direction, action, pulse and tag of the phrase; a disarm takes host entries out, all or those of a tag;
reading gives the counts and the host entries in list order. It rests on the model's choices of assumption 52. -/
def Obligations.CompareListIsEdited : Prop :=
  ∀ (s : State) (i u : Nat) (p : Phrase), u < 8 → s.mayRun i p = true → s.accessErr i .get .cmp (some u) = [] →
    (∀ (v : Int), p.names .arm .cmp (some u) → p.attrs.map AttrTok.name = ["VALUE"] → s.unitErrs i p .cmp (some u) = [] →
        attrVal p "VALUE" (.int (-2147483648) 2147483647) = some (.n v) → (s.odoAt u).state = 1 → s.cmpFull u = false →
        ∃ t, exec (.armCmp i p) s = .next t ∧ (t.odoAt u).entries = (s.odoAt u).entries ++ [{ value := v, dir := 1, act := 1, host := true, order := (s.odoAt u).order }]
          ∧ { t.butReply s with odos := s.odos } = s ∧ s.answeredOnly t i)
    ∧ (p.names .disarm .cmp (some u) → p.attrs = [] → s.unitErrs i p .cmp (some u) = [] →
        ∃ t, exec (.disarmCmp i p) s = .next t ∧ ((t.odoAt u).entries = (s.odoAt u).entries.filter fun e => !e.host) ∧ { t.butReply s with odos := s.odos } = s)
    ∧ (p.names .get .cmp (some u) → p.attrs = [] →
        ∃ t, exec (.getCmp i p) s = .next t
          ∧ (let es := (s.odoAt u).entries; s.gave t i (replyLines p [[("hw", toString (es.filter Entry.hw).length), ("queue", toString (es.filter fun e => !e.hw).length), ("host", toString (es.filter Entry.host).length), ("planner", toString (es.filter fun e => !e.host).length)]]))
          ∧ t.butReply s = s)
    ∧ (∀ (e : Entry), p.names .get .cmp (some u) → p.attrs = [⟨"LIST", none, "LIST"⟩] → (s.odoAt u).entries.filter Entry.host = [e] →
        ∃ t, exec (.getCmpList i p) s = .next t
          ∧ s.gave t i (replyLines p [[("value", toString e.value), ("dir", dirWord e.dir), ("act", actText e), ("pulse", if e.pulse then "ON" else "OFF"), ("tag", toString e.tag)]])
          ∧ t.butReply s = s)

/-- SSP_CYCLE_DUE, SSP_TIMEOUT, SSP_CYCLE_COMPLETE (R299 to R301), START_SSP and STOP_SSP (R308): a due cycle begins when the data line is high and none is under way, else it is skipped and counted; a word that passes its
check is latched whole and ends the failures; a timeout or a failing check counts one more. It rests on the model's choices of assumption 78. -/
def Obligations.SerialSensorsLatchWords : Prop :=
  ∀ (s : State) (i q : Nat) (p : Phrase), q < 2 →
    ((s.sspAt q).running = true → (s.sspAt q).cycle = none →
        ∃ t, exec (.sspCycleDue q true) s = .next t
          ∧ t = (s.advanceTo (s.sspAt q).nextDue).setSsp q { s.sspAt q with nextDue := (s.sspAt q).nextDue + s.ns .ssp q "PERIOD", cycle := some t.now })
    ∧ (∀ (c0 : Nat) (h : Bool), (s.sspAt q).running = true → (s.sspAt q).cycle = some c0 →
        ∃ t, exec (.sspCycleDue q h) s = .next t ∧ ((t.sspAt q).cycle = some c0 ∧ (t.sspAt q).fails = (s.sspAt q).fails + 1 ∧ (t.sspAt q).value = (s.sspAt q).value)
          ∧ t.cnt "SKIP_CNT" q = (s.cnt "SKIP_CNT" q + 1) % 2 ^ 32)
    ∧ (∀ (c0 : Nat), (s.sspAt q).cycle = some c0 →
        ∃ t, exec (.sspTimeout q) s = .next t ∧ t.now = max s.now (c0 + s.ns .ssp q "TIMEOUT")
          ∧ ((t.sspAt q).cycle = none ∧ (t.sspAt q).fails = (s.sspAt q).fails + 1 ∧ (t.sspAt q).epoch = (s.sspAt q).epoch)
          ∧ t.cnt "TIMEOUT_CNT" q = (s.cnt "TIMEOUT_CNT" q + 1) % 2 ^ 32)
    ∧ (∀ (c0 : Nat) (bs : List Bool), (s.sspAt q).cycle = some c0 → s.word .ssp q "CHK" = "NONE" → (bs.length = s.nat .ssp q "WORDBITS" ∧ s.nat .ssp q "FREQ" ≠ 0) →
        s.natOpt .ssp q "ERRBIT" = none →
        ∃ t, exec (.sspCycleComplete q bs) s = .next t
          ∧ ((t.sspAt q).raw = bitsNat bs ∧ (t.sspAt q).value = bitsNat bs / 2 ^ s.nat .ssp q "POSLSB" % 2 ^ (s.nat .ssp q "POSMSB" + 1 - s.nat .ssp q "POSLSB"))
          ∧ ((t.sspAt q).epoch = nextEpoch (s.sspAt q).epoch ∧ (t.sspAt q).fails = 0 ∧ (t.sspAt q).lost = false ∧ (t.sspAt q).cycle = none))
    ∧ (s.mayRun i p = true → p.names .start .ssp (some q) → p.attrs = [] → s.unitErrs i p .ssp (some q) = [] →
        s.funcErrs ["SSPCLK" ++ toString q, "SSPDAT" ++ toString q] [] = [] →
        (s.word .ssp q "CHK" = "NONE" ∧ s.natOpt .ssp q "ERRBIT" = none ∧ s.nat .ssp q "POSLSB" ≤ s.nat .ssp q "POSMSB" ∧ s.nat .ssp q "POSMSB" < s.nat .ssp q "WORDBITS") →
        ((s.sspAt q).running = false ∧ (s.partAt (s.owner .ssp q)).state ≠ .faulted) →
        ∃ t, exec (.startSsp i p) s = .next t ∧ t.sspAt q = { running := true, nextDue := s.now + s.ns .ssp q "PERIOD" }
          ∧ ((s.partAt (s.owner .ssp q)).state = .stopped → (t.partAt (s.owner .ssp q)).state = .running))
    ∧ (s.mayRun i p = true → p.names .stop .ssp (some q) → p.attrs = [] → s.unitErrs i p .ssp (some q) = [] →
        ∃ t, exec (.stopSsp i p) s = .next t ∧ t.sspAt q = { s.sspAt q with running := false, cycle := none } ∧ (∀ m, m ≠ q → t.sspAt m = s.sspAt m))

/-! ### The GPS receiver (09_gnss.md) -/

/-- START_GNSS, STOP_GNSS, SET_GNSS_SUBSCRIPTION (R323, R331, R340), ANT_STATE_CHANGE, ANT_SHORT_RETEST (R324), NOTCH_STATE_CHANGE (R326) and JAM_EVAL (R327): a start clears the results; a stop stores the aiding and frees every
channel; an antenna fault is counted, a short is left by a re-test at most 60 mA; the jamming level rises at once and falls one level after 1 s. It rests on the model's choices of assumptions 86 and 85. -/
def Obligations.ReceiverAndAntenna : Prop :=
  ∀ (s : State) (i n : Nat) (p : Phrase),
    (s.mayRun i p = true → p.names .start .gnss none → p.attrs = [] → s.unitErrs i p .gnss none = [] → s.nat .gnss 0 "POSRATE" % s.nat .gnss 0 "NMEARATE" = 0 →
        s.gnss.running = false →
        ∃ t, exec (.startGnss i p) s = .next t
          ∧ t.gnss = { s.gnss with running := true, solEpoch := 0, sol := [], rawEpoch := 0, raw := none, acqWait := none, acqEnd := none, last3d := none }
          ∧ { t.butReply s with gnss := s.gnss } = s)
    ∧ (s.mayRun i p = true → p.names .stop .gnss none → p.attrs = [] → s.unitErrs i p .gnss none = [] → s.gnss.running = true →
        ∃ t, exec (.stopGnss i p) s = .next t ∧ (t.gnss.running = false ∧ t.gnss.fix = false ∧ t.gnss.gpsV = false ∧ t.gnss.utcV = false) ∧ (∀ c, c < 24 → t.gch c = {})
          ∧ t.gnss.stored = { s.gnss.aid with utc := s.gnss.aid.iono.isSome, time := none } ∧ t.gnss.aid = s.gnss.aid)
    ∧ (n < 4 → s.mayRun i p = true → p.names .set .gnss (some n) → s.unitErrs i p .gnss (some n) = [] → (p.attrs.map AttrTok.name).Nodup →
        setAttrErrs (gnssAttrs true) (s.sessAt i).super p = [] →
        ∃ t, exec (.setGnssSubscription i p) s = .next t
          ∧ (∀ a ∈ p.attrs, some (t.val .gnss n a.name) = (specFind a.name (gnssAttrs true)).bind (fun x => a.value.bind (parseVal x.form)))
          ∧ (∀ m ix sub name, (m, ix, sub) ≠ (.gnss, n, "") ∨ p.has name = false → t.val m ix name sub = s.val m ix name sub) ∧ { t.butReply s with cfg := s.cfg } = s
          ∧ s.answeredOnly t i)
    ∧ (∀ (st ma : Nat), s.antOn = true → (1 ≤ st ∧ st ≤ 3) → s.gnss.ant ≠ 3 →
        ∃ t, exec (.antStateChange st ma) s = .next t ∧ t.gnss = { s.gnss with ant := st, antMa := ma, shortAt := if st = 3 then some (s.now + nsS) else none }
          ∧ (t.cnt "ANTFLT_CNT" 0 = (if 2 ≤ st ∧ s.gnss.ant ≠ st then (s.cnt "ANTFLT_CNT" 0 + 1) % 2 ^ 32 else s.cnt "ANTFLT_CNT" 0)))
    ∧ (∀ (ma k : Nat), s.antOn = true → s.gnss.shortAt = some k →
        ∃ t, exec (.antShortRetest ma) s = .next t ∧ t.now = max s.now k ∧ (60 < ma → t.gnss = { s.gnss with antMa := ma, shortAt := some (t.now + nsS) })
          ∧ (ma ≤ 60 → t.gnss = { s.gnss with ant := 1, antMa := ma, shortAt := none }))
    ∧ (∀ (st : Nat) (hz : Int), s.gnss.running = true → s.word .gnss 0 "NOTCH" ≠ "OFF" → (n < 4 ∧ 1 ≤ st ∧ st ≤ 2) →
        ∃ t, exec (.notchStateChange n st hz true) s = .next t ∧ t.notch n = (st, hz) ∧ (∀ j, j < 4 → j ≠ n → t.notch j = s.notch j)
          ∧ (t.gnss.notchFull = (List.range 4).all fun j => decide (j = n ∨ (s.notch j).1 ≠ 0)))
    ∧ (∀ (j : Nat), s.gnss.running = true → s.gnss.jam = 0 → j < 256 → s.nat .gnss 0 "JAMWARN" < s.nat .gnss 0 "JAMALARM" →
        ∃ t, exec (.jamEval j) s = .next t ∧ t.now = s.nextTick "JAM" 0 (100 * nsMs)
          ∧ (t.gnss.jami = j ∧ t.gnss.jam = if s.nat .gnss 0 "JAMALARM" ≤ j then 2 else if s.nat .gnss 0 "JAMWARN" ≤ j then 1 else 0)
          ∧ t.cnt "JAM_CNT" 0 = (if s.nat .gnss 0 "JAMWARN" ≤ j then (s.cnt "JAM_CNT" 0 + 1) % 2 ^ 32 else s.cnt "JAM_CNT" 0))
    ∧ (∀ (j k : Nat), s.gnss.running = true → s.gnss.jam = 2 → (j < 256 ∧ j + 8 < s.nat .gnss 0 "JAMALARM") → Tab.get none s.gnss.jamLow 2 = some k →
        ∃ t, exec (.jamEval j) s = .next t ∧ (k + nsS ≤ t.now → t.gnss.jam = 1) ∧ (t.now < k + nsS → t.gnss.jam = 2))

/-- ACQ_BURST and ACQ_RETRY (R329), CHANNEL_STATE_ADVANCE, CHANNEL_LOCK_LOST (R332, R334), CARRIER_CYCLE_SLIP, WATCH_CORRELATOR_SCAN (R333) and NAV_SUBFRAME_DECODED (R330, R342): a satellite takes the lowest idle channel; a refused burst
waits 1 s; the third scan above 3 dB begins a copy; a copy channel takes over from a lost original. It rests on the model's choices of assumptions 84 and 89. -/
def Obligations.ChannelsTrack : Prop :=
  ∀ (s : State) (c : Nat), c < 24 → s.gnss.running = true →
    (∀ (q k : Nat) (e : Int) (l : List Nat), (s.gnss.acqWait = none ∧ s.gnss.acqEnd = none) → (s.askHeavy 0).2 = some k →
        (1 ≤ q ∧ q ≤ 32 ∧ s.int .gnss 0 "ELMASK" ≤ e) → (s.tracked q = false ∧ s.gnss.aid.healthy q = true) → s.idleChans = c :: l →
        ∃ t, exec (.acqBurst [(q, some e)] []) s = .next t ∧ t.gch c = { state := 1, prn := q, el := e } ∧ t.gnss.acqEnd = some (k + 50 * nsMs) ∧ (∀ m, m ≠ c → t.gch m = s.gch m))
    ∧ (s.gnss.acqWait = none → s.gnss.acqEnd = none → (s.askHeavy 0).2 = none →
        ∃ t, exec (.acqBurst [] []) s = .next t ∧ t.gnss = { s.gnss with acqWait := some (s.now + nsS) } ∧ t.cnt "ACQREF_CNT" 0 = (s.cnt "ACQREF_CNT" 0 + 1) % 2 ^ 32)
    ∧ (∀ (k : Nat), s.gnss.acqWait = some k →
        ∃ t, exec (.acqRetry) s = .next t ∧ t.gnss = { s.gnss with acqWait := none } ∧ { t with gnss := s.gnss } = s.advanceTo k)
    ∧ (∀ (m : Nat) (d : Int), (1 ≤ (s.gch c).state ∧ (s.gch c).state < 5) → m < 1024 →
        ∃ t, exec (.channelStateAdvance c m d) s = .next t ∧ ((t.gch c).state = (s.gch c).state + 1 ∧ (t.gch c).prn = (s.gch c).prn ∧ (t.gch c).cn0 = m ∧ (t.gch c).dop = d)
          ∧ ((s.gch c).state = 2 → (t.gch c).lockAt = s.now) ∧ (∀ k, k ≠ c → t.gch k = s.gch k))
    ∧ ((s.gch c).state ≠ 0 → ((s.gch c).copy = false ∧ (s.gch c).isCopy = false) →
        exec (.channelLockLost c) s = .next (s.setGch c {}))
    ∧ (∀ (k : Nat), ((s.gch c).copy = true ∧ (s.gch c).isCopy = false ∧ (s.gch c).copyCh = some k ∧ (s.gch c).state ≠ 0) → (k < 24 ∧ k ≠ c ∧ 3 ≤ (s.gch k).state) →
        ∃ t, exec (.channelLockLost c) s = .next t ∧ t.gch c = {} ∧ t.gch k = { s.gch k with isCopy := false })
    ∧ (∀ (ts : Nat), 4 ≤ (s.gch c).state →
        exec (.carrierCycleSlip c ts) s = .next ((s.advanceTo ts).setGch c { s.gch c with slip := ((s.gch c).slip + 1) % 256, lockAt := max s.now ts }))
    ∧ (∀ (k : Nat) (l : List Nat) (off db : Int), (3 ≤ (s.gch c).state ∧ (s.gch c).isCopy = false ∧ (s.gch c).copy = false ∧ (s.gch c).hits = 2) →
        (30 < db ∧ -1536 ≤ off ∧ off ≤ 1536) → s.idleChans = k :: l →
        ∃ t, exec (.watchCorrelatorScan c off db) s = .next t ∧ ((t.gch c).copy = true ∧ (t.gch c).copyOff = off ∧ (t.gch c).copyDb = db ∧ (t.gch c).copyCh = some k)
          ∧ ((t.gch k).state = 1 ∧ (t.gch k).prn = (s.gch c).prn ∧ (t.gch k).isCopy = true) ∧ t.cnt "COPY_CNT" 0 = (s.cnt "COPY_CNT" 0 + 1) % 2 ^ 32)
    ∧ (∀ (db : Int), (3 ≤ (s.gch c).state ∧ (s.gch c).isCopy = false ∧ (s.gch c).copy = false) → (db ≤ 30 ∨ (s.gch c).hits < 2) →
        ∃ t, exec (.watchCorrelatorScan c 0 db) s = .next t ∧ t.gch c = { s.gch c with hits := if db ≤ 30 then 0 else (s.gch c).hits + 1 } ∧ (∀ m, m ≠ c → t.gch m = s.gch m)
          ∧ t.now = s.nextTick "SCAN" c (100 * nsMs))
    ∧ (∀ (q : Nat) (d : List Nat), (s.gch c).state = 5 → (d.length = 30 ∧ ∀ b ∈ d, b < 256) → (d.getD 6 0 % 64 = q ∧ 1 ≤ q ∧ q ≤ 32) →
        ∃ t, exec (.navSubframeDecoded { ch := c, sf := 5, data := d }) s = .next t
          ∧ (t.gnss.aid.alm.map fun a => (a.1, a.2.1)) = ((s.gnss.aid.alm.filter fun a => a.1 ≠ q).map fun a => (a.1, a.2.1)) ++ [(q, d.drop 6)] ∧ { t with gnss := s.gnss } = s)
    ∧ (∀ (d : List Nat), (s.gch c).state = 5 → (d.length = 30 ∧ ∀ b ∈ d, b < 256) → d.getD 6 0 % 64 = 56 →
        ∃ t, exec (.navSubframeDecoded { ch := c, sf := 4, data := d }) s = .next t ∧ (t.gnss.aid.iono = some (d.drop 6) ∧ t.gnss.aid.utc = true) ∧ t.gnss.utcV = t.gnss.gpsV)

/-- GNSS_EPOCH_LATCH (R335, R336), GNSS_SOLUTION (R337, R339, R342), GPS_TIME_TIMEOUT (R342), GET_GNSS_POS and GET_GNSS_RAW (R336, R339, R340): an epoch latches a header and one line for each channel that tracks code; four good satellites give a
fix, a position and GPS time; 60 s without a fix end GPS time; a subscribed session reads a result whole. It rests on the model's choices of assumptions 81 and 82. -/
def Obligations.ReceiverResults : Prop :=
  ∀ (s : State) (i n : Nat) (p : Phrase), s.gnss.running = true →
    (∀ (ms : List ChanMeas) (bias drift : Int),
        ∃ t, exec (.gnssEpochLatch ms bias drift) s = .next t ∧ t.now = max s.now s.nextEpochAt
          ∧ (t.gnss.rawEpoch = nextEpoch s.gnss.rawEpoch ∧ t.gnss.sol = s.gnss.sol ∧ t.gnss.aid = s.gnss.aid)
          ∧ (t.gnss.raw.map fun r => r.keep.length) = some (1 + ((List.range 24).filter fun c => 3 ≤ (s.gch c).state && !(s.gch c).isCopy).length)
          ∧ (t.gnss.raw.map fun r => r.follow.length) = some (1 + ((List.range 24).filter fun c => 3 ≤ (s.gch c).state && (s.gch c).copyCh.isNone).length))
    ∧ (∀ (r : GnssSol), (r.used.filter ((s.advanceTo r.sys).serves r.gps)).length = n → (4 ≤ n ∧ r.testOk = true) → (5 ≤ n ∨ s.isOn .gnss 0 "NEEDCHK" = false) →
        ∃ t, exec (.gnssSolution r) s = .next t ∧ t.now = max s.now r.sys
          ∧ (t.gnss.fix = true ∧ t.gnss.dim = 2 ∧ t.gnss.nsv = n ∧ t.gnss.chk = decide (5 ≤ n) ∧ t.gnss.solEpoch = nextEpoch s.gnss.solEpoch)
          ∧ t.gnss.nav = some { lat := r.lat, lon := r.lon, hgt := some r.hgt, fix := 1, tov := r.sys }
          ∧ (t.gnss.gpsV = true ∧ t.times.gpsOff = some ((r.gps : Int) - r.sys) ∧ t.gnss.lastFix = t.now) ∧ (t.gnss.ve = r.ve ∧ t.gnss.vn = r.vn))
    ∧ (∀ (r : GnssSol), (r.used.filter ((s.advanceTo r.sys).serves r.gps)).length < 3 →
        ∃ t, exec (.gnssSolution r) s = .next t ∧ (t.gnss.fix = false ∧ t.gnss.dim = 0 ∧ t.gnss.nav = s.gnss.nav ∧ t.gnss.gpsV = s.gnss.gpsV ∧ t.times.gpsOff = s.times.gpsOff)
          ∧ t.gnss.solEpoch = nextEpoch s.gnss.solEpoch)
    ∧ (s.gnss.gpsV = true → s.gnss.fix = false →
        ∃ t, exec (.gpsTimeTimeout) s = .next t ∧ t.now = max s.now (s.gnss.lastFix + 60 * nsS) ∧ (t.gnss.gpsV = false ∧ t.gnss.utcV = false ∧ t.times.gpsOff = none))
    ∧ (s.mayRun i p = true → p.names .get .gnss (some n) "POS" → (p.attrs = [] ∧ p.adv .new = false) → s.unitErrs i p .gnss (some n) = [] →
        (s.word .gnss n "OUT" = "POS" ∨ s.word .gnss n "OUT" = "BOTH") → s.gnss.sol ≠ [] →
        ∃ t, exec (.getGnssPos i p) s = .next t ∧ s.gave t i (replyLines p [s.gnss.sol]) ∧ (t.sessAt i).epochs.find (.gnss, n, "POS") = some s.gnss.solEpoch ∧ t.butReply s = s)
    ∧ (∀ (r : RawLatch), s.mayRun i p = true → p.names .get .gnss (some n) "RAW" → (p.attrs = [] ∧ p.adv .new = false) → s.unitErrs i p .gnss (some n) = [] →
        (s.word .gnss n "OUT" = "RAW" ∨ s.word .gnss n "OUT" = "BOTH") → (s.gnss.raw = some r ∧ r.keep ≠ [] ∧ r.follow ≠ []) →
        ∃ t, exec (.getGnssRaw i p) s = .next t ∧ s.gave t i (replyLines p (if s.word .gnss n "COPY" = "FOLLOW" then r.follow else r.keep))
          ∧ (t.sessAt i).epochs.find (.gnss, n, "RAW") = some s.gnss.rawEpoch ∧ t.butReply s = s)

/-- SET_AID_TIME, _POS, _EPH, _ALM, _IONO, GET_AID, SAVE_AID, LOAD_AID, RESET_AID and AID_PERIODIC_SAVE (R328 to R331, R346, R355): each SET stores its kind whole and leaves the others; SAVE keeps all but the time in the pantry, LOAD holds
that again, RESET clears both; ten minutes in FIX save it. It rests on the model's choices of assumption 88. -/
def Obligations.AidingDataIsHeld : Prop :=
  ∀ (s : State) (i : Nat) (p : Phrase),
    (s.mayRun i p = true → p.names .set .aid none "TIME" → s.unitErrs i p .aid none = [] → setAttrErrs (aidAttrs "TIME") (s.sessAt i).super p = [] →
        (p.has "WEEK" = true ∧ p.has "TOW" = true ∧ p.has "TUNC" = true) →
        ∃ t, exec (.setAidTime i p) s = .next t
          ∧ t.gnss = { s.gnss with aid := { s.gnss.aid with time := some ((aidNum p "WEEK").toNat, (aidNum p "TOW").toNat, (aidNum p "TUNC").toNat, s.now) } }
          ∧ { t.butReply s with gnss := s.gnss } = s ∧ s.answeredOnly t i)
    ∧ (s.mayRun i p = true → p.names .set .aid none "POS" → s.unitErrs i p .aid none = [] → setAttrErrs (aidAttrs "POS") (s.sessAt i).super p = [] →
        (p.has "LAT" = true ∧ p.has "LON" = true ∧ p.has "HGT" = true ∧ p.has "PUNC" = true) →
        ∃ t, exec (.setAidPos i p) s = .next t
          ∧ t.gnss = { s.gnss with aid := { s.gnss.aid with pos := some (aidNum p "LAT", aidNum p "LON", aidNum p "HGT", (aidNum p "PUNC").toNat) } }
          ∧ { t.butReply s with gnss := s.gnss } = s)
    ∧ (∀ (l : List Nat), s.mayRun i p = true → p.names .set .aid none "EPH" → s.unitErrs i p .aid none = [] → setAttrErrs (aidAttrs "EPH") (s.sessAt i).super p = [] →
        (p.has "PRN" = true ∧ p.has "SF" = true) → attrVal p "D" (.bytes 0 30) = some (.l l) →
        ∃ t, exec (.setAidEph i p) s = .next t ∧ ((aidNum p "PRN").toNat, (aidNum p "SF").toNat, iodeOf (aidNum p "SF").toNat l, l) ∈ t.gnss.aid.sub
          ∧ (t.gnss.aid.pos = s.gnss.aid.pos ∧ t.gnss.aid.alm = s.gnss.aid.alm ∧ t.gnss.aid.iono = s.gnss.aid.iono ∧ t.gnss.aid.time = s.gnss.aid.time ∧ t.gnss.aid.bsub = s.gnss.aid.bsub)
          ∧ { t.butReply s with gnss := s.gnss } = s)
    ∧ (∀ (l : List Nat), s.mayRun i p = true → p.names .set .aid none "ALM" → s.unitErrs i p .aid none = [] → setAttrErrs (aidAttrs "ALM") (s.sessAt i).super p = [] →
        p.has "PRN" = true → attrVal p "D" (.bytes 0 30) = some (.l l) →
        ∃ t, exec (.setAidAlm i p) s = .next t
          ∧ (t.gnss.aid.alm.map fun a => (a.1, a.2.1)) = ((s.gnss.aid.alm.filter fun a => a.1 ≠ (aidNum p "PRN").toNat).map fun a => (a.1, a.2.1)) ++ [((aidNum p "PRN").toNat, l)]
          ∧ { t.gnss.aid with alm := s.gnss.aid.alm } = s.gnss.aid ∧ { t.butReply s with gnss := s.gnss } = s)
    ∧ (∀ (l : List Nat), s.mayRun i p = true → p.names .set .aid none "IONO" → s.unitErrs i p .aid none = [] →
        setAttrErrs (aidAttrs "IONO") (s.sessAt i).super p = [] → attrVal p "D" (.bytes 0 30) = some (.l l) →
        ∃ t, exec (.setAidIono i p) s = .next t ∧ t.gnss = { s.gnss with aid := { s.gnss.aid with iono := some l, utc := false } } ∧ { t.butReply s with gnss := s.gnss } = s)
    ∧ (s.mayRun i p = true → p.names .get .aid none → p.attrs = [] → s.unitErrs i p .aid none = [] → (s.gnss.aid.eph = [] ∧ s.gnss.aid.alm = []) →
        ∃ t, exec (.getAid i p) s = .next t
          ∧ s.gave t i (replyLines p [[("level", "COLD"), ("eph", showList []), ("alm", showList []), ("iono", yesNo s.gnss.aid.iono.isSome), ("utc", yesNo s.gnss.aid.iono.isSome), ("pos", yesNo s.gnss.aid.pos.isSome)]])
          ∧ t.butReply s = s)
    ∧ (s.mayRun i p = true → p.names .save .aid none → p.attrs = [] → s.unitErrs i p .aid none = [] →
        ∃ t, exec (.saveAid i p) s = .next t ∧ t.gnss = { s.gnss with stored := { s.gnss.aid with utc := s.gnss.aid.iono.isSome, time := none } }
          ∧ { t.butReply s with gnss := s.gnss } = s)
    ∧ (s.mayRun i p = true → p.names .load .aid none → p.attrs = [] → s.unitErrs i p .aid none = [] →
        ∃ t, exec (.loadAid i p) s = .next t ∧ (t.gnss.aid = s.gnss.stored ∧ t.gnss.stored = s.gnss.stored ∧ t.gnss.ch = s.gnss.ch ∧ t.times.gpsOff = s.times.gpsOff))
    ∧ (s.mayRun i p = true → p.names .reset .aid none → p.attrs = [] → s.unitErrs i p .aid none = [] →
        ∃ t, exec (.resetAid i p) s = .next t ∧ t.gnss = { s.gnss with aid := {}, stored := {} } ∧ { t.butReply s with gnss := s.gnss } = s ∧ s.answeredOnly t i)
    ∧ (∀ (k : Nat), s.gnss.fixSince = some k →
        ∃ t, exec (.aidPeriodicSave) s = .next t
          ∧ t.gnss = { s.gnss with stored := { s.gnss.aid with utc := s.gnss.aid.iono.isSome, time := none }, fixSince := some (k + 600 * nsS) }
          ∧ { t with gnss := s.gnss } = s.advanceTo (k + 600 * nsS))

/-! ### Drives (10_drive_stage.md) -/

/-- PHASE_END_TIME, PHASE_TARGET_REACHED and PHASE_TLIM (R361, R363, R365), DECAY_TFAST_END, SLOW_DECAY_TIMEOUT and DECAY_COMPLETE (R366), PWM_PERIOD_START and PWM_PULSE_END (R368 to R370) and DITHER_HALF (R371): each is at its instant
and moves the sequencer of its unit as the profile says. It rests on the model's choices of assumption 2. -/
def Obligations.DriveSequencerSteps : Prop :=
  ∀ (s : State) (u : Nat),
    (∀ (q : Phase), (s.unitAt u).on = true → (s.phases u)[(s.unitAt u).phase]? = some q → (q.fin = 0 ∧ (s.unitAt u).ir = none) →
        ∃ t, exec (.phaseEndTime u) s = .next t ∧ t.now = max s.now ((s.unitAt u).phStart + q.t)
          ∧ ((t.unitAt u).phase = (s.unitAt u).phase + 1 ∧ (t.unitAt u).phStart = t.now ∧ (t.unitAt u).reached = none ∧ (t.unitAt u).on = true)
          ∧ ((s.unitAt u).phase + 2 = (s.phases u).length → (t.grants.list.filter fun g => g.who = u && !g.booked) = []) ∧ (∀ m, m ≠ u → t.unitAt m = s.unitAt m))
    ∧ (∀ (q : Phase) (r : Nat), (s.unitAt u).on = true → ((s.phases u)[(s.unitAt u).phase]? = some q ∧ (s.unitAt u).phase = 0) →
        (q.fin = 0 ∧ (s.unitAt u).ir = some r ∧ r ≠ 0) →
        ∃ t, exec (.phaseEndTime u) s = .next t ∧ t.now = max s.now ((s.unitAt u).phStart + ceilDiv (q.t * q.target) (r * 10000) * 10000) ∧ (t.unitAt u).phase = 1)
    ∧ (∀ (q : Phase) (ts : Nat), (s.unitAt u).on = true → (s.phases u)[(s.unitAt u).phase]? = some q → (q.fin = 1 ∧ (s.unitAt u).reached = none) →
        exec (.phaseTargetReached u ts) s = .next ((s.advanceTo ts).setUnit u { s.unitAt u with reached := some (max s.now ts) }))
    ∧ (∀ (q : Phase) (r : Nat), (s.unitAt u).on = true → (s.phases u)[(s.unitAt u).phase]? = some q →
        (q.fin = 1 ∧ (s.unitAt u).reached = some r ∧ (s.unitAt u).ir = none) →
        ∃ t, exec (.phaseEndTime u) s = .next t ∧ t.now = max s.now (r + q.t) ∧ (t.unitAt u).phase = (s.unitAt u).phase + 1)
    ∧ (∀ (q : Phase), (s.unitAt u).on = true → (s.phases u)[(s.unitAt u).phase]? = some q → (q.fin = 1 ∧ (s.unitAt u).reached = none ∧ (s.unitAt u).ir = none) →
        ∃ t, exec (.phaseTlim u) s = .next t ∧ t.now = max s.now ((s.unitAt u).phStart + q.tlim) ∧ t.cnt "REACHFAIL_CNT" u = (s.cnt "REACHFAIL_CNT" u + 1) % 2 ^ 32
          ∧ (t.unitAt u).phase = (s.unitAt u).phase + 1)
    ∧ (∀ (q : Phase) (k : Nat), ((s.unitAt u).fastSlow = true ∧ (s.unitAt u).decaySince = some k) → s.offPhase u = some q →
        exec (.decayTfastEnd u) s = .next ((s.advanceTo (k + q.tfast)).setUnit u { s.unitAt u with sw := .slow, fastSlow := false, decaySince := some (k + q.tfast) }))
    ∧ (∀ (k : Nat), ((s.unitAt u).sw = .slow ∧ (s.unitAt u).on = false ∧ (s.unitAt u).decaySince = some k) →
        exec (.slowDecayTimeout u) s = .next ((s.advanceTo (k + 200 * nsMs)).setUnit u { s.unitAt u with sw := .fast }))
    ∧ (∀ (k ts : Nat), (s.unitAt u).decaySince = some k →
        exec (.decayComplete u ts) s = .next ((s.advanceTo ts).setUnit u { s.unitAt u with sw := .off, decaySince := none, fastSlow := false, offDone := max s.now ts }))
    ∧ (∀ (j : Nat), (s.uWord u "MODE" = "PWM" ∧ s.unitPresent u = true) → (s.pwmIx u s.now = some j ∧ s.pwmStart u j < s.now) → (s.unitAt u).enabled = false →
        ∃ t, exec (.pwmPeriodStart u) s = .next t ∧ t.now = max s.now (s.pwmStart u (j + 1))
          ∧ t.unitAt u = { s.unitAt u with duty := (s.unitAt u).dutyNew.getD (s.unitAt u).duty, dutyNew := none } ∧ (∀ m, m ≠ u → t.unitAt m = s.unitAt m))
    ∧ (∀ (j : Nat), (s.uWord u "MODE" = "PWM" ∧ s.unitPresent u = true) → (s.pwmIx u s.now = some j ∧ s.pwmStart u j < s.now) →
        ((s.unitAt u).enabled = true ∧ (s.unitAt u).on = false ∧ (s.unitAt u).cut = false ∧ (s.unitAt u).blocked = false ∧ (s.unitAt u).retired = false) →
        (s.safenLow = false ∧ s.rail u = .ok ∧ s.needsGrant u = false) → ((s.unitAt u).dutyNew = none ∧ (s.unitAt u).duty < 1000) →
        s.minPulse u ≤ s.pwmOn u (s.unitAt u).duty →
        ∃ t, exec (.pwmPeriodStart u) s = .next t ∧ ((t.unitAt u).on = true ∧ (t.unitAt u).sw = .drive ∧ (t.unitAt u).onAt = t.now)
          ∧ (t.unitAt u).pulseEnd = some (s.pwmStart u (j + 1) + s.pwmOn u (s.unitAt u).duty)
          ∧ t.cnt "ON_CNT" u = (if (s.unitAt u).onDue then (s.cnt "ON_CNT" u + 1) % 2 ^ 32 else s.cnt "ON_CNT" u))
    ∧ (∀ (k : Nat) (q : Phase), ((s.unitAt u).pulseEnd = some k ∧ (s.unitAt u).on = true) → (s.phases u)[(s.unitAt u).phase]? = some q →
        ∃ t, exec (.pwmPulseEnd u) s = .next t ∧ t.now = max s.now k
          ∧ ((t.unitAt u).on = false ∧ (t.unitAt u).pulseEnd = none ∧ (t.unitAt u).sw = (if q.off = 0 then .slow else .fast) ∧ (t.unitAt u).fastSlow = decide (q.off = 2))
          ∧ (t.unitAt u).decaySince = some t.now)
    ∧ (∀ (j : Nat), (s.uWord u "MODE" = "PROPORTIONAL" ∧ (s.unitAt u).on = true) → s.uNat u "DFREQ" ≠ 0 → ((s.now + 1) * 2 * s.uNat u "DFREQ" - 1) / nsS = j →
        j * nsS / (2 * s.uNat u "DFREQ") ≠ s.now →
        ∃ t, exec (.ditherHalf u) s = .next t ∧ t.now = max s.now ((j + 1) * nsS / (2 * s.uNat u "DFREQ")) ∧ (t.unitAt u).dithHigh = decide ((j + 1) % 2 = 0)
          ∧ (∀ m, m ≠ u → t.unitAt m = s.unitAt m))

/-- DUTY_SAMPLE and DUTY_EVAL (R376 to R378), SENSE_CAL (R382), SAFEN_LOW and SAFEN_HIGH (R384): a sample enters the window; over the limit a unit is throttled by 5 % down to its floor, or cut, its command recorded; SAFEN low opens every
switch of every unit and holds it off, SAFEN high switches nothing on. It rests on the model's choices of assumptions 94 and 93. -/
def Obligations.DutyLimitCalibrationAndSafen : Prop :=
  ∀ (s : State) (u : Nat),
    (∀ (a l : Nat), u < 48 → s.natOpt (unitNoun u) (unitIx u) "DLIMIT" = some l →
        ∃ t, exec (.dutySample u a) s = .next t ∧ t.now = s.nextTick "DUTYS" u nsMs
          ∧ t.unitAt u = { s.unitAt u with ils := a, sums := (a * a :: (s.unitAt u).sums).take (s.uNat u "DWIN" / 1000) } ∧ (∀ m, m ≠ u → t.unitAt m = s.unitAt m))
    ∧ (∀ (l : Nat), (s.natOpt (unitNoun u) (unitIx u) "DLIMIT" = some l ∧ s.uWord u "DACT" = "THROTTLE") → l * 10000000 < (s.unitAt u).sums.sum →
        ((s.unitAt u).lastSum ≤ (s.unitAt u).sums.sum ∧ s.uNat u "THRFLOOR" < (s.unitAt u).scale) →
        ∃ t, exec (.dutyEval u) s = .next t ∧ t.now = s.nextTick "DUTYE" u nsS ∧ (t.unitAt u).scale = max (s.uNat u "THRFLOOR") ((s.unitAt u).scale - 50)
          ∧ t.cnt "THROTTLE_CNT" u = (s.cnt "THROTTLE_CNT" u + 1) % 2 ^ 32 ∧ ((t.unitAt u).on = (s.unitAt u).on ∧ (t.unitAt u).lastSum = (s.unitAt u).sums.sum))
    ∧ (∀ (l : Nat), (s.natOpt (unitNoun u) (unitIx u) "DLIMIT" = some l ∧ s.uWord u "DACT" = "CUT") →
        (l * 10000000 < (s.unitAt u).sums.sum ∧ (s.unitAt u).cut = false) →
        ∃ t, exec (.dutyEval u) s = .next t
          ∧ ((t.unitAt u).cut = true ∧ (t.unitAt u).recorded = some (s.unitAt u).enabled ∧ (t.unitAt u).enabled = false ∧ (t.unitAt u).on = false)
          ∧ t.cnt "CUT_CNT" u = (s.cnt "CUT_CNT" u + 1) % 2 ^ 32)
    ∧ (∀ (ts : Nat), (s.unitPresent u = true ∧ s.pairOdd u = false ∧ s.uWord u "MODE" ≠ "PWM") →
        ((s.unitAt u).on = false ∧ (s.unitAt u).sw = .off ∧ (s.unitAt u).decaySince = none ∧ (s.unitAt u).testing = none) →
        ((s.unitAt u).calAt = none ∧ (s.unitAt u).calStart = none ∧ (s.unitAt u).offDone + 200000 ≤ max s.now ts) → (s.advanceTo ts).onDueWithin u 250000 = false →
        exec (.senseCal u ts) s = .next ((s.advanceTo ts).setUnit u { s.unitAt u with calStart := some (max s.now ts) }))
    ∧ (∀ (ts : Nat), (u < 56 ∧ s.unitPresent u = true) → s.safenLow = false →
        ∃ t, exec (.safenLow ts) s = .next t ∧ ((t.unitAt u).on = false ∧ (t.unitAt u).sw = .off ∧ (t.unitAt u).enabled = false ∧ (t.unitAt u).safenHold = true)
          ∧ (t.safenLow = true ∧ t.now = max s.now ts) ∧ t.cnt "SAFEN_CNT" 0 = (s.cnt "SAFEN_CNT" 0 + 1) % 2 ^ 32)
    ∧ (∀ (ts : Nat), s.safenLow = true →
        ∃ t, exec (.safenHigh ts) s = .next t ∧ (t.safenLow = false ∧ t.now = max s.now ts) ∧ (t.units = s.units ∧ t.secs = s.secs ∧ t.cfg = s.cfg))

/-- START_CHAN, STOP_CHAN, SET_CHAN_STATE, SET_CHAN_DUTY, SET_CHAN_TARGET and SET_PAIR_LINK (R370 to R374): a started unit is operated directly and its partition runs; STATE switches it, DUTY waits for the next period, a lower TARGET
applies at once; a stopped unit is off and reads STATE=OFF. It rests on the model's choices of assumption 70. -/
def Obligations.DirectUnitsFollowPhrases : Prop :=
  ∀ (s : State) (i j : Nat) (n : Noun) (p : Phrase), (n = .chan ∧ j < 48 ∨ n = .gdr ∧ j < 8) → s.mayRun i p = true →
    (p.names .start n (some j) → p.attrs = [] → s.unitErrs i p n (some j) = [] → s.driveErrs (unitOfNoun n j) ["ONOFF", "PWM", "PROPORTIONAL"] = [] →
        ((s.unitAt (unitOfNoun n j)).direct = false ∧ s.pairOdd (unitOfNoun n j) = false ∧ s.unitNamed (unitOfNoun n j) = false) →
        (s.partAt (s.unitOwner (unitOfNoun n j))).state ≠ .faulted → s.word n j "STATE" = "OFF" →
        ∃ t, exec (.startChan i p) s = .next t
          ∧ (let x := t.unitAt (unitOfNoun n j); x.direct = true ∧ x.duty = s.nat n j "DUTY" ∧ x.target = s.nat n j "TARGET" ∧ x.scale = 1000 ∧ x.cut = false ∧ x.on = (s.unitAt (unitOfNoun n j)).on)
          ∧ ((s.partAt (s.unitOwner (unitOfNoun n j))).state = .stopped → (t.partAt (s.unitOwner (unitOfNoun n j))).state = .running)
          ∧ (∀ m, m ≠ unitOfNoun n j → t.unitAt m = s.unitAt m))
    ∧ (p.names .stop n (some j) → p.attrs = [] → s.unitErrs i p n (some j) = [] →
        (let x := s.unitAt (unitOfNoun n j); x.direct = true ∧ x.held = false ∧ x.cut = false ∧ x.blocked = false) → s.pairOdd (unitOfNoun n j) = false →
        ∃ t, exec (.stopChan i p) s = .next t ∧ (let x := t.unitAt (unitOfNoun n j); x.direct = false ∧ x.on = false ∧ x.enabled = false ∧ x.waiting = none ∧ x.retryAt = none)
          ∧ t.word n j "STATE" = "OFF" ∧ (∀ m, m ≠ unitOfNoun n j → t.unitAt m = s.unitAt m))
    ∧ (∀ (w k : String), p.names .set n (some j) → p.attrs = [⟨"STATE", some w, k⟩] → (w = "ON" ∨ w = "OFF") → s.unitErrs i p n (some j) = [] →
        ((s.unitAt (unitOfNoun n j)).direct = false ∧ s.pairOdd (unitOfNoun n j) = false ∧ s.unitInUse (unitOfNoun n j) = false) →
        ∃ t, exec (.setChanState i p) s = .next t ∧ t.word n j "STATE" = w ∧ { t.butReply s with cfg := s.cfg } = s ∧ s.answeredOnly t i)
    ∧ (∀ (k : String), p.names .set n (some j) → p.attrs = [⟨"STATE", some "ON", k⟩] → s.unitErrs i p n (some j) = [] →
        (let x := s.unitAt (unitOfNoun n j); x.direct = true ∧ x.on = false ∧ x.waiting = none ∧ x.retired = false ∧ x.held = false ∧ x.otwait = false ∧ x.cut = false ∧ x.blocked = false) →
        (s.pairOdd (unitOfNoun n j) = false ∧ s.safenLow = false ∧ s.unitPresent (unitOfNoun n j) = true) →
        (s.word n j "MODE" ≠ "PWM" ∧ s.rail (unitOfNoun n j) = .ok ∧ s.needsGrant (unitOfNoun n j) = false) →
        ∃ t, exec (.setChanState i p) s = .next t ∧ (let x := t.unitAt (unitOfNoun n j); x.on = true ∧ x.sw = .drive ∧ x.enabled = true ∧ x.onAt = s.now)
          ∧ t.word n j "STATE" = "ON" ∧ t.cnt "ON_CNT" (unitOfNoun n j) = (s.cnt "ON_CNT" (unitOfNoun n j) + 1) % 2 ^ 32)
    ∧ (∀ (k : String), p.names .set n (some j) → p.attrs = [⟨"STATE", some "OFF", k⟩] → s.unitErrs i p n (some j) = [] →
        (let x := s.unitAt (unitOfNoun n j); x.direct = true ∧ x.held = false ∧ x.cut = false ∧ x.blocked = false) → s.pairOdd (unitOfNoun n j) = false →
        ∃ t, exec (.setChanState i p) s = .next t ∧ (let x := t.unitAt (unitOfNoun n j); x.on = false ∧ x.enabled = false ∧ x.waiting = none ∧ x.retryAt = none ∧ x.direct = true)
          ∧ t.word n j "STATE" = "OFF")
    ∧ (∀ (v : Int), p.names .set n (some j) → p.attrs.map AttrTok.name = ["DUTY"] → attrVal p "DUTY" (.int 0 1000) = some (.n v) → s.unitErrs i p n (some j) = [] →
        ((s.unitAt (unitOfNoun n j)).direct = true ∧ (s.unitAt (unitOfNoun n j)).held = false ∧ s.pairOdd (unitOfNoun n j) = false ∧ p.adv .now = false) →
        ∃ t, exec (.setChanDuty i p) s = .next t ∧ t.unitAt (unitOfNoun n j) = { s.unitAt (unitOfNoun n j) with dutyNew := some v.toNat } ∧ t.val n j "DUTY" = .n v
          ∧ s.answeredOnly t i)
    ∧ (∀ (v : Int), p.names .set n (some j) → p.attrs.map AttrTok.name = ["TARGET"] → attrVal p "TARGET" (.int 50 (if n = .gdr then 20000 else 8000)) = some (.n v) →
        s.unitErrs i p n (some j) = [] → (let x := s.unitAt (unitOfNoun n j); x.direct = true ∧ x.held = false ∧ (v.toNat ≤ x.target ∨ x.on = false)) →
        (s.pairOdd (unitOfNoun n j) = false ∧ s.targetOk (unitOfNoun n j) v.toNat = true) →
        ∃ t, exec (.setChanTarget i p) s = .next t ∧ ((t.unitAt (unitOfNoun n j)).target = v.toNat ∧ (t.unitAt (unitOfNoun n j)).ramp = none) ∧ t.val n j "TARGET" = .n v)
    ∧ (∀ (w k : String), (n = .chan ∧ j % 2 = 0) → p.names .set .pair (some j) → p.attrs = [⟨"LINK", some w, k⟩] → (w = "ON" ∨ w = "OFF") →
        s.unitErrs i p .pair (some j) = [] → s.owner .chan j = s.owner .chan (j + 1) → (s.unitInUse j = false ∧ s.unitInUse (j + 1) = false) →
        ∃ t, exec (.setPairLink i p) s = .next t ∧ t.word .pair j "LINK" = w ∧ (w = "ON" → t.pairEven j = true ∧ t.pairOdd (j + 1) = true)
          ∧ { t.butReply s with cfg := s.cfg } = s ∧ s.answeredOnly t i)

/-! ### Grants (12_grants.md) -/

/-- GRANT_START, GRANT_RELEASE, GRANT_EVENT_SECOND, DIRECT_GRANT_RETRY, GRANT_LEDGER_COMPARE, GRANT_LANE_CHECK_DONE and SET_GRANT (R429, R434, R436 to R439, R653): a waiting switch-on begins at its grant's start; a grant's end leaves its
holder without one; two disagreements of the ledgers within 5 ms start the lane check; a budget is set while all partitions stand. It rests on the model's choices of assumption 99. -/
def Obligations.GrantsStartEndAndAreReported : Prop :=
  ∀ (s : State) (u k : Nat),
    (((s.unitAt u).waiting = some k ∧ ∀ e ∈ (s.unitAt u).pulseEnd, max s.now k < e) → s.rail u = .ok →
        ∃ t, exec (.grantStart u) s = .next t ∧ t.now = max s.now k
          ∧ ((t.unitAt u).on = true ∧ (t.unitAt u).waiting = none ∧ (t.unitAt u).onAt = t.now ∧ (t.unitAt u).pulseEnd = (s.unitAt u).pulseEnd)
          ∧ t.cnt "ON_CNT" u = (if (s.unitAt u).onDue then (s.cnt "ON_CNT" u + 1) % 2 ^ 32 else s.cnt "ON_CNT" u))
    ∧ (∀ (v : Nat), ((s.unitAt u).waiting = none ∧ (s.unitAt u).ramp = some (v, k)) → (s.grantOf u).bind Grant.ir = none →
        exec (.grantStart u) s = .next ((s.advanceTo k).setUnit u { s.unitAt u with target := v, ramp := none }))
    ∧ (∀ (g : Grant), s.grantOf u = some g → (s.unitAt u).ramp = none →
        ∃ t, exec (.grantRelease u) s = .next t ∧ t.now = max s.now (g.start + g.dur) ∧ (t.grants.list = s.grants.list.filter fun x => x.who ≠ u)
          ∧ { t with grants := s.grants, times := s.times } = s)
    ∧ (∀ (g : GrantEv) (l : List GrantEv), u < 56 → (s.unitAt u).gev = g :: l → g.cnt ≠ 0 →
        ∃ t, exec (.grantEventSecond u) s = .next t ∧ t.now = max s.now (g.at_ + nsS) ∧ t.unitAt u = { s.unitAt u with gev := l ++ [{ g with at_ := g.at_ + nsS, cnt := 0 }] }
          ∧ (∀ m, m ≠ u → t.unitAt m = s.unitAt m))
    ∧ (((s.unitAt u).retryAt = some k ∧ (s.unitAt u).direct = true ∧ s.uWord u "STATE" = "ON" ∧ s.uWord u "MODE" ≠ "PWM") →
        (let x := s.unitAt u; x.on = false ∧ x.waiting = none ∧ x.retired = false ∧ x.held = false ∧ x.otwait = false ∧ x.cut = false ∧ x.blocked = false) →
        (s.safenLow = false ∧ s.unitPresent u = true ∧ s.rail u = .ok) →
        ∃ t, exec (.directGrantRetry u) s = .next t ∧ t.now = max s.now k ∧ (s.needsGrant u = false → (t.unitAt u).on = true ∧ (t.unitAt u).retryAt = none)
          ∧ (s.needsGrant u = true ∧ s.grantsClosed = true → (t.unitAt u).on = false ∧ (t.unitAt u).retryAt = some (t.now + 5 * nsMs)))
    ∧ ((s.retired 37 = false ∧ s.retired 38 = false ∧ s.grants.chkEnd = none) →
        ∃ t, exec (.grantLedgerCompare true) s = .next t ∧ t.now = s.nextTick "LEDGER" 0 nsMs ∧ (∀ r, r < 3 → t.cnt "GR_LANE_CNT" r = (s.cnt "GR_LANE_CNT" r + 1) % 2 ^ 32)
          ∧ t.grants = { s.grants with disagree := some t.now, chkEnd := (match s.grants.disagree with | some d => if t.now ≤ d + 5 * nsMs then some (t.now + nsMs) else none | none => none) })
    ∧ (∀ (a b : Bool), s.grants.chkEnd = some k → (s.retired 37 = false ∧ s.retired 38 = false) → s.power.dstate = .run →
        ∃ t, exec (.grantLaneCheckDone a b) s = .next t ∧ t.now = max s.now k ∧ t.grants.chkEnd = none ∧ (t.retired 37 = (a || !b) ∧ t.retired 38 = (b || !a)))
    ∧ (∀ (i : Nat) (p : Phrase), s.mayRun i p = true → (u < 3 ∧ p.names .set .grant (some u)) → s.unitErrs i p .grant (some u) = [] →
        (p.attrs.map AttrTok.name).Nodup → setAttrErrs (grantAttrs u) (s.sessAt i).super p = [] →
        (∀ m, m < 4 → (s.partAt m).state = .stopped ∨ (s.partAt m).state = .faulted) →
        ∃ t, exec (.setGrant i p) s = .next t ∧ (∀ a ∈ p.attrs, some (t.val .grant u a.name) = (specFind a.name (grantAttrs u)).bind (fun x => a.value.bind (parseVal x.form)))
          ∧ (∀ n ix sub name, (n, ix, sub) ≠ (.grant, u, "") ∨ p.has name = false → t.val n ix name sub = s.val n ix name sub) ∧ { t.butReply s with cfg := s.cfg } = s
          ∧ s.answeredOnly t i)

/-! ### Drive diagnostics (11_drive_diagnostics.md) -/

/-- ONSTATE_FINDING, OVERCURRENT_TRIP, OVERTEMP_TRIP, OVERTEMP_RELEASE, DIAG_SWEEP_START, OFFSTATE_TEST_START and _COMPLETE, DIAG_RETEST, SUSPECT_EXPIRY, DEFERRED_BOOTRES_TEST, TEST_DIAG and RESET_DIAG (R399 to R410, R417, R418): a first
finding makes a unit SUSPECT, switched off and re-tested; a failing re-test retires it, a passing one accepts it. It rests on the model's choices of assumptions 96 and 97. -/
def Obligations.DriveDiagnosisDecides : Prop :=
  ∀ (s : State) (u : Nat), (u < 48 ∧ s.unitPresent u = true ∧ s.pairOdd u = false ∧ s.pairEven u = false) →
    (∀ (r : OnReading), ((s.unitAt u).on = true ∧ (s.unitAt u).retired = false ∧ (s.unitAt u).pulseEnd = none ∧ (s.unitAt u).suspectEnd = none) →
        (s.safenLow = false ∧ s.isOn .diag u "ONDIAG" = true ∧ s.word .diag u "ACTION" = "RETIRE") → (s.uWord u "WIRING" = "LOWSIDE" ∧ r.il < 20) →
        ∃ t, exec (.onstateFinding u r) s = .next t ∧ t.now = max s.now ((s.unitAt u).onAt + s.ns .diag u "BLANK" + s.ns .diag u "ONFILT")
          ∧ (let x := t.unitAt u; x.onres = 10 ∧ x.dcause = 10 ∧ x.on = false ∧ x.blocked = true ∧ x.suspectEnd = some (t.now + 60 * nsS) ∧ x.retestAt = some (t.now + 10 * nsMs))
          ∧ t.cnt "FIND_CNT" u = (s.cnt "FIND_CNT" u + 1) % 2 ^ 32)
    ∧ (∀ (r : OnReading), ((s.unitAt u).on = true ∧ (s.unitAt u).retired = false ∧ (s.unitAt u).pulseEnd = none) →
        (s.safenLow = false ∧ s.isOn .diag u "ONDIAG" = true ∧ s.uWord u "WIRING" = "TWOTERM") → (20 ≤ r.ih ∧ r.il = r.ih) →
        ∃ t, exec (.onstateFinding u r) s = .next t ∧ t.unitAt u = { s.unitAt u with onres := 0, ihs := r.ih, ils := r.il, temp := r.temp }
          ∧ t.cnt "FIND_CNT" u = s.cnt "FIND_CNT" u)
    ∧ (∀ (r : OnReading), ((s.unitAt u).retired = false ∧ (s.unitAt u).suspectEnd = none ∧ s.word .diag u "ACTION" = "RETIRE") →
        ∃ t, exec (.overcurrentTrip u true false false r) s = .next t
          ∧ (let x := t.unitAt u; x.onres = 2 ∧ x.on = false ∧ x.sw = .off ∧ x.blocked = true ∧ x.suspectEnd = some (t.now + 60 * nsS))
          ∧ t.cnt "OC_CNT" u = (s.cnt "OC_CNT" u + 1) % 2 ^ 32)
    ∧ (∀ (c : Int), ((s.unitAt u).retired = false ∧ (s.unitAt u).otwait = false ∧ (s.unitAt u).suspectEnd = none ∧ s.word .diag u "ACTION" = "RETIRE" ∧ 170 ≤ c) →
        ∃ t, exec (.overtempTrip u c) s = .next t ∧ (let x := t.unitAt u; x.onres = 6 ∧ x.otwait = true ∧ x.on = false ∧ x.sw = .off ∧ x.dcause = 6)
          ∧ t.cnt "OT_CNT" u = (s.cnt "OT_CNT" u + 1) % 2 ^ 32)
    ∧ (∀ (c : Int), ((s.unitAt u).otwait = true ∧ (s.unitAt u).blocked = false ∧ c < 150) →
        exec (.overtempRelease u c) s = .next (s.setUnit u { s.unitAt u with temp := c, otwait := false }))
    ∧ (∀ (k : Nat), (s.sweepUnits ≠ [] ∧ s.grants.sweep = none ∧ ∀ v, v < 56 → (s.unitAt v).swept = false) → ((s.tick "SWEEP" 0 (100 * nsMs)).askHeavy 3).2 = some k →
        ∃ t, exec (.diagSweepStart) s = .next t ∧ t.now = s.nextTick "SWEEP" 0 (100 * nsMs) ∧ t.grants.sweep = some k ∧ t.units = s.units)
    ∧ (∀ (k : Nat), (s.grants.sweep = some k ∧ s.sweepUnits.contains u = true ∧ (s.unitAt u).swept = false) →
        (s.advanceTo (ceilDiv (max s.now k) nsMs * nsMs)).eligible u = true →
        ∃ t, exec (.offstateTestStart u) s = .next t ∧ t.now = ceilDiv (max s.now k) nsMs * nsMs ∧ t.unitAt u = { s.unitAt u with testing := some (t.now, 0), swept := true })
    ∧ (∀ (k m : Nat) (r : OffReading), ((s.unitAt u).testing = some (k, m) ∧ r.stable = true ∧ s.unitInUse u = false) →
        (s.uWord u "WIRING" = "TWOTERM" ∧ r.temp < 170) →
        ∃ t, exec (.offstateTestComplete u r) s = .next t ∧ t.now = max s.now (k + 250000)
          ∧ (t.unitAt u = { s.unitAt u with testing := none, offres := offTwoTerm r.outh r.outl, temp := r.temp })
          ∧ (offTwoTerm .mid .mid = 0 ∧ offTwoTerm .high .low = 1 ∧ offTwoTerm .low .low = 7 ∧ offTwoTerm .high .high = 8)
          ∧ t.cnt "TEST_CNT" u = (s.cnt "TEST_CNT" u + 1) % 2 ^ 32)
    ∧ (∀ (k : Nat) (r : OffReading), ((s.unitAt u).blocked = true ∧ (s.unitAt u).retired = false ∧ (s.unitAt u).retestAt = some k) →
        (s.advanceTo (max k ((s.unitAt u).offDone + 10 * nsMs))).eligible u = true → (r.stable = true ∧ s.offDecide u r = 0) →
        ((s.unitAt u).otwait = false ∧ (s.unitAt u).findOn = false ∧ (s.unitAt u).recorded = none) →
        ∃ t, exec (.diagRetest u r) s = .next t ∧ (let x := t.unitAt u; x.blocked = false ∧ x.retestAt = none ∧ x.retired = false ∧ x.offres = 0 ∧ x.on = false)
          ∧ t.cnt "TEST_CNT" u = (s.cnt "TEST_CNT" u + 1) % 2 ^ 32)
    ∧ (∀ (k : Nat) (r : OffReading), ((s.unitAt u).blocked = true ∧ (s.unitAt u).retired = false ∧ (s.unitAt u).retestAt = some k) →
        (s.advanceTo (max k ((s.unitAt u).offDone + 10 * nsMs))).eligible u = true → (r.stable = true ∧ s.offDecide u r ≠ 0 ∧ s.word .diag u "ACTION" = "RETIRE") →
        ∃ t, exec (.diagRetest u r) s = .next t ∧ ((t.unitAt u).retired = true ∧ (t.unitAt u).dcause = s.offDecide u r) ∧ (s.isOn .diag u "FLTNON" = true → 15 ∈ t.faults.latch))
    ∧ (∀ (k : Nat), (s.unitAt u).suspectEnd = some k →
        exec (.suspectExpiry u) s = .next ((s.advanceTo k).setUnit u { s.unitAt u with suspectEnd := none }))
    ∧ (∀ (r : OffReading), ((s.unitAt u).bootDue = true ∧ s.eligible u = true ∧ r.stable = true) →
        ∃ t, exec (.deferredBootresTest u r) s = .next t ∧ (let x := t.unitAt u; x.bootres = s.offDecide u r ∧ x.bootDue = false ∧ x.offres = (s.unitAt u).offres)
          ∧ t.now = s.now + 250000)
    ∧ (∀ (i k : Nat) (p : Phrase) (rs : List (Nat × OffReading)) (r : OffReading), s.mayRun i p = true → (p.names .test .diag (some u) ∧ p.attrs = []) →
        s.unitErrs i p .diag (some u) = [] → ((s.unitAt u).retired = false ∧ (s.unitAt u).suspectEnd = none ∧ (s.unitAt u).blocked = false ∧ s.unitInUse u = false) →
        (s.eligibleAt u = some k ∧ readingOf rs u = r ∧ r.stable = true) →
        ∃ t, exec (.testDiag i p rs) s = .next t ∧ s.gave t i (replyLines p [[("unit", toString u), ("result", diagWord (s.offDecide u r))]])
          ∧ (t.unitAt u).offres = s.offDecide u r ∧ t.now = max s.now k + 250000)
    ∧ (∀ (i k : Nat) (p : Phrase) (rs : List (Nat × OffReading)) (r : OffReading), s.mayRun i p = true → (p.names .reset .diag (some u) ∧ p.attrs = []) →
        (s.unitErrs i p .diag (some u) = [] ∧ (s.sessAt i).super = true) →
        ((s.unitAt u).retired = true ∧ (s.unitAt u).retIsland = false ∧ (s.unitAt u).retFault = false ∧ s.unitInUse u = false) →
        (s.eligibleAt u = some k ∧ readingOf rs u = r ∧ r.stable = true ∧ s.offDecide u r = 0) →
        ∃ t, exec (.resetDiag i p rs) s = .next t ∧ (let x := t.unitAt u; x.retired = false ∧ x.suspectEnd = none ∧ x.blocked = false ∧ x.dcause = 15 ∧ x.offres = 0))

/-! ### The peer link (13_peer_link.md) -/

/-- START_PEER, STOP_PEER (R466), SYNC_SEND, SYNC_FRAME_RECEIVED, SYNC_TIMEOUT (R453, R454), HB_SEND, HB_RECEIVED, PEER_LOSS_CHECK (R455), PEER_FRAME_FORWARD (R447) and a frame's acceptance (R449, R450): alone a device is the master; a pair
100 us off steps the sync time, three close pairs sync; 60 ms without a heartbeat lose a device; a bad check or another's address is counted. It rests on the model's choices of assumptions 101 and 102. -/
def Obligations.PeerLinkTimeAndPresence : Prop :=
  ∀ (s : State) (i a : Nat) (p : Phrase) (f : PeerIn),
    (∀ (k : Nat), (s.peerHears f = true ∧ idTyp f.id = k ∧ (idDst f.id = 255 ∨ idDst f.id = s.ownAddr)) → (peerLenOk k f.data = true ∧ peerCrcOk f = true) →
        s.peerRx k f = ((s.advanceTo f.ts).recDown (s.peerCan f.onBridge), some f.data))
    ∧ (∀ (k : Nat), (s.peerHears f = true ∧ idTyp f.id = k) → (s.canAt (s.peerCan f.onBridge)).rec_ ≤ 127 →
        (idDst f.id ≠ 255 ∧ idDst f.id ≠ s.ownAddr ∧ s.isBridge = false → (s.peerRx k f).1.cnt "FOREIGN_CNT" 0 = (s.cnt "FOREIGN_CNT" 0 + 1) % 2 ^ 32 ∧ (s.peerRx k f).2 = none) ∧ (idDst f.id = 255 ∧ peerLenOk k f.data = true ∧ peerCrcOk f = false → (s.peerRx k f).1.cnt "CRC_CNT" 0 = (s.cnt "CRC_CNT" 0 + 1) % 2 ^ 32 ∧ (s.peerRx k f).2 = none))
    ∧ (s.mayRun i p = true → (p.names .start .peer none ∧ p.attrs = []) → (s.unitErrs i p .peer none = [] ∧ s.peerStartErrs = []) →
        ∃ t, exec (.startPeer i p) s = .next t ∧ (t.peer.state = 1 ∧ t.peer.master = some s.ownAddr ∧ t.peer.synced = true ∧ t.peer.offset = 0 ∧ t.peer.loop = false)
          ∧ (∀ c ∈ s.peerCans, (t.canAt c).running = true ∧ (t.canAt c).peer = true) ∧ (t.peer.leadBinds = [] ∧ t.peer.nodeBinds = [] ∧ t.peer.waits = []))
    ∧ (s.mayRun i p = true → (p.names .stop .peer none ∧ p.attrs = []) → s.unitErrs i p .peer none = [] →
        (s.peer.state ≠ 0 ∧ (s.peerBound = false ∨ p.adv .force = true)) →
        ∃ t, exec (.stopPeer i p) s = .next t ∧ t.peer = { inst := s.peer.inst } ∧ (∀ n, n < 4 → (s.canAt n).peer = true → (t.canAt n).running = false))
    ∧ ((s.peer.state = 1 ∧ s.peer.master = some s.ownAddr ∧ s.isBridge = false) → s.larderGives 4 1 = true →
        ∃ t, exec (.syncSend) s = .next t ∧ t.now = s.nextTick "SYNC" 0 (100 * nsMs)
          ∧ t.peer = { s.peer with seq := (s.peer.seq + 1) % 65536, tx := s.peer.tx ++ [{ typ := 0, dst := 255, src := s.ownAddr, data := leBytes ((s.peer.seq + 1) % 65536) 2 ++ [s.ownAddr, 0] }] })
    ∧ (∀ (g : PeerIn) (d b : List Nat), ((s.peerRx 0 f).2 = some d ∧ ((s.heard 0 f).peerRx 1 g).2 = some b) →
        (idSrc f.id = idSrc g.id ∧ fld d 0 2 = fld b 0 2 ∧ f.onBridge = g.onBridge) →
        (((s.heard 0 f).heard 1 g).peer.master = some (fld d 2 1) ∧ fld d 2 1 ≠ ((s.heard 0 f).heard 1 g).ownAddr ∧ f.onBridge = (((s.heard 0 f).heard 1 g).node (fld d 2 1)).onBridge) →
        ∃ t, exec (.syncFrameReceived f g) s = .next t
          ∧ (let e := sfld b 4 8 - ((s.heard 0 f).heard 1 g).syncOf f.ts; 100000 ≤ e.natAbs → t.peer.offset = ((s.heard 0 f).heard 1 g).peer.offset + e ∧ t.peer.synced = false ∧ t.peer.good = 0 ∧ t.cnt "SYNCSTEP_CNT" 0 = (((s.heard 0 f).heard 1 g).cnt "SYNCSTEP_CNT" 0 + 1) % 2 ^ 32)
          ∧ (let e := sfld b 4 8 - ((s.heard 0 f).heard 1 g).syncOf f.ts; e.natAbs ≤ 2000 ∧ 2 ≤ ((s.heard 0 f).heard 1 g).peer.good → t.peer.synced = true)
          ∧ (let e := sfld b 4 8 - ((s.heard 0 f).heard 1 g).syncOf f.ts; e.natAbs < 100000 → (t.peer.offset - ((s.heard 0 f).heard 1 g).peer.offset).natAbs ≤ e.natAbs ∧ 5000 * (t.peer.offset - ((s.heard 0 f).heard 1 g).peer.offset).natAbs ≤ f.ts - ((s.heard 0 f).heard 1 g).peer.lastPair)
          ∧ t.peer.lastPair = f.ts)
    ∧ ((s.peer.state ≠ 0 ∧ s.peer.synced = true ∧ s.peer.master ≠ some s.ownAddr) →
        ∃ t, exec (.syncTimeout) s = .next t ∧ t.now = max s.now (s.peer.lastPair + nsS) ∧ t.peer = { s.peer with good := 0, synced := false })
    ∧ ((s.peer.state = 1 ∧ s.isBridge = false ∧ s.peer.leadBinds = []) → s.larderGives 4 1 = true →
        ∃ t, exec (.hbSend) s = .next t ∧ t.now = max s.now s.nextHb ∧ t.peer.tx.dropLast = s.peer.tx
          ∧ (t.peer.tx.getLast?.map fun x => (x.typ, x.dst, x.src, x.data.drop 4)) = some (2, 255, s.ownAddr, leBytes s.times.boots 4 ++ leBytes s.peer.inst 4))
    ∧ (∀ (d : List Nat), (s.peerRx 2 f).2 = some d →
        (idSrc f.id = a ∧ a < 128 ∧ a ≠ (s.heard 2 f).ownAddr ∧ (s.heard 2 f).isBridge = false ∧ ((s.heard 2 f).node a).present = false) →
        ∃ t, exec (.hbReceived f) s = .next t
          ∧ (let x := t.node a; x.present = true ∧ x.hops = idHops f.id ∧ x.boots = fld d 4 4 ∧ x.inst = fld d 8 4 ∧ x.lastHb = (s.heard 2 f).now) ∧ t.peer.master = some t.lowest
          ∧ (∀ m, m ≠ a → t.node m = s.node m))
    ∧ (∀ (d : List Nat), (s.peerRx 2 f).2 = some d →
        (idSrc f.id = (s.heard 2 f).ownAddr ∧ fld d 8 4 ≠ (s.heard 2 f).peer.inst ∧ (s.heard 2 f).peer.state = 1 ∧ (s.heard 2 f).ownAddr < 128) →
        ∃ t, exec (.hbReceived f) s = .next t ∧ t.peer = { (s.heard 2 f).peer with state := 2, tx := [] })
    ∧ (s.peer.state ≠ 0 → (a < 128 ∧ (s.node a).present = true) →
        ∃ t, exec (.peerLossCheck) s = .next t ∧ t.now = s.nextTick "LOSS" 0 nsMs ∧ (t.node a).present = decide (t.now < (s.node a).lastHb + 60 * nsMs))
    ∧ ((s.peerHears f = true ∧ s.peer.state = 1 ∧ s.isBridge = true ∧ s.peer.loop = false) →
        (2 ≤ idTyp f.id ∧ peerCrcOk f = true ∧ idHops f.id < 3 ∧ f.data.length ≤ 64) → s.larderGives 4 1 = true →
        ∃ t, exec (.peerFrameForward f) s = .next t
          ∧ t.peer.tx = s.peer.tx ++ [{ typ := idTyp f.id, dst := idDst f.id, src := idSrc f.id, hops := idHops f.id + 1, data := f.data.take (f.data.length - 2), onBridge := !f.onBridge }]
          ∧ t.cnt "FWD_CNT" 0 = (s.cnt "FWD_CNT" 0 + 1) % 2 ^ 32)

/-- BIND, UNBIND, BINDACK (R457 to R459), FIRE, REMOTE_FIRE_RELEASE, CANCEL, DUTY, REPORT (R460 to R463, R472), POS (R464), PHR, RPL, ACK frames, PHR_FRAGMENT_TIMEOUT (R465) and PEER_RESEND (R451): an accepted frame has its effect once and its
answer is kept; a command due later is held; an answered frame is resent twice and then given up. It rests on the model's choices of assumptions 104 and 105. -/
def Obligations.RemoteBindingsAndFires : Prop :=
  ∀ (s : State) (f : PeerIn) (d : List Nat) (a : Nat),
    (((s.peerRx 4 f).2 = some d ∧ idSrc f.id = a ∧ (s.heard 4 f).doneOf a 4 (fld d 6 2) = none) →
        (s.heard 4 f).judgeBind a (fld d 0 1) (fld d 1 1) (fld d 2 1) = 0 →
        ((s.heard 4 f).peer.nodeBinds.any fun b => b.lead = a && b.utype = fld d 1 1 && b.unit = fld d 2 1) = false →
        ∃ t, exec (.bindFrameReceived f) s = .next t
          ∧ t.peer.nodeBinds = (s.heard 4 f).peer.nodeBinds ++ [{ lead := a, impl := fld d 0 1, utype := fld d 1 1, unit := fld d 2 1, spare := fld d 3 1 = 1, sec := fld d 4 1 }]
          ∧ t.doneOf a 4 (fld d 6 2) = some (leBytes (fld d 6 2) 2 ++ [0]))
    ∧ (((s.peerRx 4 f).2 = some d ∧ idSrc f.id = a ∧ (s.heard 4 f).doneOf a 4 (fld d 6 2) = none) →
        (s.heard 4 f).judgeBind a (fld d 0 1) (fld d 1 1) (fld d 2 1) ≠ 0 →
        ∃ t, exec (.bindFrameReceived f) s = .next t ∧ (t.peer.nodeBinds = (s.heard 4 f).peer.nodeBinds ∧ t.units = (s.heard 4 f).units)
          ∧ t.doneOf a 4 (fld d 6 2) = some (leBytes (fld d 6 2) 2 ++ [(s.heard 4 f).judgeBind a (fld d 0 1) (fld d 1 1) (fld d 2 1)]))
    ∧ (∀ (b : NodeBind), ((s.peerRx 5 f).2 = some d ∧ idSrc f.id = a ∧ (s.heard 5 f).doneOf a 5 (fld d 6 2) = none) →
        ((s.heard 5 f).peer.nodeBinds.find? fun b => b.lead = a && b.impl = fld d 0 1 && b.utype = fld d 1 1 && b.unit = fld d 2 1) = some b →
        (let x := (s.heard 5 f).unitAt (unitOfType b.utype b.unit); x.held = false ∧ x.cut = false ∧ x.blocked = false) →
        ∃ t, exec (.unbindFrameReceived f) s = .next t ∧ (t.peer.nodeBinds = (s.heard 5 f).peer.nodeBinds.filter fun c => c ≠ b)
          ∧ ((t.unitAt (unitOfType b.utype b.unit)).on = false ∧ (t.unitAt (unitOfType b.utype b.unit)).enabled = false))
    ∧ (∀ (b : LeadBind), ((s.peerRx 6 f).2 = some d ∧ idSrc f.id = a) →
        ((s.heard 6 f).peer.leadBinds.find? fun b => b.node = a && b.ref = fld d 0 2 && b.done.isNone && b.unbindEnd.isNone) = some b →
        (b.failed = false ∧ ((s.heard 6 f).implAt b.impl).bindWait = none) →
        ∃ t, exec (.bindackFrameReceived f) s = .next t ∧ (t.peer.leadBinds = (s.heard 6 f).peer.leadBinds.map fun c => if c = b then { c with done := some (fld d 2 1) } else c)
          ∧ (t.waitOf a 4 (fld d 0 2) = none ∧ t.waitOf a 5 (fld d 0 2) = none))
    ∧ (∀ (u k : Nat), ((s.peerRx 8 f).2 = some d ∧ idSrc f.id = a ∧ (s.heard 8 f).doneOf a 8 (fld d 0 2) = none) →
        ((s.heard 8 f).peer.nodeBinds.any fun b => b.lead = a && b.utype = fld d 3 1 && b.unit = fld d 4 1) = true →
        (unitOfType (fld d 3 1) (fld d 4 1) = u ∧ ((s.heard 8 f).sysOf (sfld d 8 8)).toNat = k) →
        (fld d 5 1 = 1 ∧ fld d 6 2 = 65535 ∧ (s.heard 8 f).peer.synced = true ∧ (s.heard 8 f).willBeOn u = false) →
        ((s.heard 8 f).now < k ∧ (s.heard 8 f).needsGrant u = false) →
        ∃ t, exec (.fireFrameReceived f) s = .next t
          ∧ t.peer.cmds = (s.heard 8 f).peer.cmds ++ [{ lead := a, cseq := fld d 0 2, impl := fld d 2 1, utype := fld d 3 1, unit := fld d 4 1, action := 1, duty := 65535, ftime := k }]
          ∧ t.doneOf a 8 (fld d 0 2) = some (reportData (fld d 0 2) 0 1 (fld d 3 1) (fld d 4 1) 0 (fld d 2 1)) ∧ t.units = (s.heard 8 f).units)
    ∧ (((s.peerRx 8 f).2 = some d ∧ idSrc f.id = a ∧ (s.heard 8 f).doneOf a 8 (fld d 0 2) = none) →
        ((s.heard 8 f).peer.nodeBinds.any fun b => b.lead = a && b.utype = fld d 3 1 && b.unit = fld d 4 1) = true →
        (fld d 5 1 = 2 ∧ (let x := (s.heard 8 f).unitAt (unitOfType (fld d 3 1) (fld d 4 1)); x.held = false ∧ x.cut = false ∧ x.blocked = false)) →
        ∃ t, exec (.fireFrameReceived f) s = .next t ∧ ((t.unitAt (unitOfType (fld d 3 1) (fld d 4 1))).on = false ∧ t.peer.cmds = (s.heard 8 f).peer.cmds))
    ∧ (∀ (u : Nat) (c : NodeCmd), firstCmd (s.peer.cmds.filter fun c => unitOfType c.utype c.unit = u) = some c →
        (c.action = 0 ∧ (s.unitAt u).held = false ∧ (s.unitAt u).cut = false ∧ (s.unitAt u).blocked = false) →
        ∃ t, exec (.remoteFireRelease u) s = .next t ∧ t.now = max s.now c.due ∧ ((t.unitAt u).on = false ∧ (t.unitAt u).enabled = false ∧ c ∉ t.peer.cmds))
    ∧ (∀ (u : Nat) (c : NodeCmd), firstCmd (s.peer.cmds.filter fun c => unitOfType c.utype c.unit = u) = some c →
        (c.action = 1 ∧ s.needsGrant u = false ∧ s.rail u = .ok ∧ s.uWord u "MODE" ≠ "PWM" ∧ s.safenLow = false ∧ s.unitPresent u = true) →
        (let x := s.unitAt u; x.on = false ∧ x.waiting = none ∧ x.retired = false ∧ x.held = false ∧ x.otwait = false ∧ x.cut = false ∧ x.blocked = false) →
        ∃ t, exec (.remoteFireRelease u) s = .next t ∧ ((t.unitAt u).on = true ∧ (t.unitAt u).onAt = max s.now c.due ∧ t.peer.cmds = s.peer.cmds.filter fun x => x ≠ c))
    ∧ (∀ (c : NodeCmd), ((s.peerRx 9 f).2 = some d ∧ idSrc f.id = a ∧ (s.heard 9 f).doneOf a 9 (fld d 0 2) = none) →
        ((s.heard 9 f).peer.cmds.find? fun c => c.lead = a && c.cseq = fld d 0 2) = some c → (s.heard 9 f).now < c.due →
        ∃ t, exec (.cancelFrameReceived f) s = .next t ∧ (t.peer.cmds = (s.heard 9 f).peer.cmds.filter fun x => x ≠ c)
          ∧ t.doneOf a 9 (fld d 0 2) = some (reportData (fld d 0 2) 5 0 (fld d 3 1) (fld d 4 1) 0 (fld d 2 1)) ∧ t.units = (s.heard 9 f).units)
    ∧ (((s.peerRx 11 f).2 = some d ∧ idSrc f.id = a) → ((s.heard 11 f).peer.nodeBinds.any fun b => b.lead = a && b.utype = fld d 1 1 && b.unit = fld d 2 1) = true →
        (fld d 4 2 ≤ 1000 ∧ ((s.heard 11 f).unitAt (unitOfType (fld d 1 1) (fld d 2 1))).held = false) →
        ∃ t, exec (.dutyFrameReceived f) s = .next t
          ∧ t = ((s.heard 11 f).setUnit (unitOfType (fld d 1 1) (fld d 2 1)) { (s.heard 11 f).unitAt (unitOfType (fld d 1 1) (fld d 2 1)) with dutyNew := some (fld d 4 2) }))
    ∧ (∀ (k : Nat), ((s.peerRx 10 f).2 = some d ∧ idSrc f.id = a ∧ fld d 0 2 ≠ 0 ∧ fld d 2 1 = 0) →
        (s.heard 10 f).secsAt a (fld d 4 1) (fld d 5 1) (fld d 8 1) = [k] →
        ∃ t, exec (.reportFrameReceived f) s = .next t ∧ (∀ c ∈ t.peer.sent, c.sec = k → c.cseq = fld d 0 2 → c.acked = true) ∧ t.waitOf a 8 (fld d 0 2) = none)
    ∧ (∀ (n k : Nat), ((s.peerRx 12 f).2 = some d ∧ fld d 0 1 = n ∧ n < 4 ∧ fld d 2 1 = 1) →
        ((s.heard 12 f).word .impl n "POSSRC" = "EXT" ∧ (s.heard 12 f).natOpt .peer 0 ("POSFROM" ++ toString n) = some (idSrc f.id) ∧ (s.heard 12 f).peer.synced = true ∧ ((s.heard 12 f).implAt n).running = true) →
        (s.heard 12 f).sysOf (sfld d 36 8) = (k : Int) →
        posInRange true { lat := sfld d 4 8, lon := sfld d 12 8, hgt := some (sfld d 20 4), fix := fld d 1 1, tov := k } = true →
        (s.heard 12 f).staleSample n true k = false →
        ∃ t, exec (.posFrameReceived f) s = .next t ∧ (t.implAt n).pos = some { lat := sfld d 4 8, lon := sfld d 12 8, hgt := some (sfld d 20 4), fix := fld d 1 1, tov := k })
    ∧ (((s.peerRx 12 f).2 = some d ∧ (s.heard 12 f).word .impl (fld d 0 1) "POSSRC" ≠ "EXT") →
        ∃ t, exec (.posFrameReceived f) s = .next t ∧ t.cnt "POSDROP_CNT" 0 = ((s.heard 12 f).cnt "POSDROP_CNT" 0 + 1) % 2 ^ 32
          ∧ (t.impls = (s.heard 12 f).impls ∧ t.peer = (s.heard 12 f).peer))
    ∧ (∀ (m fr : Nat), ((s.peerRx 16 f).2 = some d ∧ idSrc f.id = a ∧ fld d 0 1 = m ∧ fld d 1 1 = fr ∧ fr < 4) →
        ((s.heard 16 f).doneOf a 16 (256 * m + fr) ≠ some (d.take (4 + fld d 2 1)) ∧ (s.heard 16 f).fragRoom (fld d 2 1) = true) →
        ((s.heard 16 f).peer.asm = [] ∧ 0 < fld d 2 1) →
        ∃ t, exec (.phrFrameReceived f) s = .next t
          ∧ t.peer.asm = [{ node := a, typ := 16, msg := m, sess := fld d 3 1 % 16, part := fld d 3 1 / 16 % 4, since := (s.heard 16 f).now, frags := [(fr, (d.drop 4).take (fld d 2 1))] }]
          ∧ t.doneOf a 16 (256 * m + fr) = some (d.take (4 + fld d 2 1)))
    ∧ (∀ (m : Nat), ((s.peerRx 17 f).2 = some d ∧ idSrc f.id = a ∧ fld d 0 1 = m ∧ fld d 1 1 = 0) →
        ((s.heard 17 f).doneOf a 17 (256 * m) ≠ some (d.take (4 + fld d 2 1)) ∧ (s.heard 17 f).fragRoom (fld d 2 1) = true ∧ (s.heard 17 f).peer.asm = []) →
        ∃ t, exec (.rplFrameReceived f) s = .next t ∧ (∀ q ∈ t.routed, q.node = a → q.since = (s.heard 17 f).now)
          ∧ t.peer.asm = [{ node := a, typ := 17, msg := m, sess := fld d 3 1 % 16, part := fld d 3 1 / 16 % 4, since := (s.heard 17 f).now, frags := [(0, (d.drop 4).take (fld d 2 1))] }])
    ∧ (((s.peerRx 18 f).2 = some d ∧ idSrc f.id = a) →
        ∃ t, exec (.ackFrameReceived f) s = .next t
          ∧ (t = { (s.heard 18 f) with peer := { (s.heard 18 f).peer with waits := (s.heard 18 f).peer.waits.filter fun w => !(w.dst = a && w.typ = fld d 2 1 && w.key = 256 * fld d 0 1 + fld d 1 1) } }))
    ∧ (∀ (m : Nat) (x : PeerAsm), (s.peer.asm.find? fun x => x.node = a && x.msg = m) = some x →
        exec (.phrFragmentTimeout a m) s = .next { s.advanceTo (x.since + 100 * nsMs) with peer := { s.peer with asm := s.peer.asm.filter fun y => y ≠ x } })
    ∧ (∀ (k key : Nat) (w : PeerWait), (s.waitOf a k key = some w ∧ s.peer.state = 1) →
        ∃ t, exec (.peerResend a k key) s = .next t ∧ (t.now = max s.now (w.sentAt + (if k = 4 ∨ k = 5 then 20 else if k = 8 ∨ k = 9 then 2 else 5) * nsMs))
          ∧ (w.resent < 2 → t.peer.waits = s.peer.waits.map fun x => if x = w then { x with resent := x.resent + 1, sentAt := t.now } else x)
          ∧ (2 ≤ w.resent ∧ k ≠ 8 → t.waitOf a k key = none ∧ t.cnt "NOACK_CNT" 0 = (s.cnt "NOACK_CNT" 0 + 1) % 2 ^ 32))

/-! ### CAN (14_can.md) -/

/-- The CAN rows (R478, R482 to R497): an accepted frame joins the receive queue, or is dropped and counted when it is full; a sent frame leaves the transmit queue; errors move TEC and REC, above 255 is bus-off, recovery clears both; START begins
empty and integrating, STOP drops the queues and keeps the counters; RX is read and cleared, TX armed and disarmed. It rests on the model's choices of assumptions 110 and 111. -/
def Obligations.CanControllersRun : Prop :=
  ∀ (s : State) (i n : Nat) (p : Phrase), n < 4 →
    (∀ (ts : Nat) (f : CanFrame),
        ((s.canAt n).running = true ∧ (s.canAt n).integ = false ∧ (s.canAt n).busoff = false ∧ (s.canAt n).peer = false ∧ (s.canAt n).rec_ = 0) →
        (f.fd = false ∨ s.isOn .can n "FD" = true) → (s.canAccepts n f = true ∧ s.word .can n "DELIVER" ≠ "EVENT") →
        ∃ t, exec (.canFrameReceived n ts f) s = .next t
          ∧ ((s.canAt n).rx.length < s.nat .can n "RXMAX" → (t.canAt n).rx = (s.canAt n).rx ++ [{ inst := (s.canAt n).inst, ts := ts / 1000, ovr := (s.canAt n).ovr, f := { f with data := f.data.take (dlcLen f.fd f.dlc) } }])
          ∧ ((s.canAt n).rx.length < s.nat .can n "RXMAX" → t.cnt "RXFRM_CNT" n = (s.cnt "RXFRM_CNT" n + 1) % 2 ^ 32 ∧ (t.canAt n).ovr = false)
          ∧ (s.nat .can n "RXMAX" ≤ (s.canAt n).rx.length → (t.canAt n).rx = (s.canAt n).rx ∧ (t.canAt n).ovr = true ∧ t.cnt "RXDROP_CNT" n = (s.cnt "RXDROP_CNT" n + 1) % 2 ^ 32))
    ∧ (∀ (ts : Nat) (f : CanFrame),
        ((s.canAt n).running = true ∧ (s.canAt n).integ = false ∧ (s.canAt n).busoff = false ∧ (s.canAt n).peer = false ∧ (s.canAt n).rec_ = 0) →
        (f.fd = false ∧ s.canAccepts n f = false) →
        ∃ t, exec (.canFrameReceived n ts f) s = .next t ∧ ((t.canAt n).rx = (s.canAt n).rx ∧ t.cnt "FILTREJ_CNT" n = (s.cnt "FILTREJ_CNT" n + 1) % 2 ^ 32))
    ∧ (∀ (ts v : Nat) (c : CanTx),
        ((s.canAt n).running = true ∧ (s.canAt n).integ = false ∧ (s.canAt n).busoff = false ∧ (s.canAt n).peer = false ∧ (s.canAt n).tec ≤ 255) →
        arbBest (s.canAt n).tx = some c →
        ∃ t, exec (.canTxComplete n ts v) s = .next t ∧ ((t.canAt n).tx = (s.canAt n).tx.filter fun x => x.order ≠ c.order)
          ∧ ((t.canAt n).tec = (s.canAt n).tec - 1 ∧ (t.canAt n).rec_ = (s.canAt n).rec_ ∧ t.cnt "TXFRM_CNT" n = (s.cnt "TXFRM_CNT" n + 1) % 2 ^ 32))
    ∧ (∀ (c : CanTx), ((s.canAt n).running = true ∧ (s.canAt n).integ = false ∧ (s.canAt n).busoff = false) → arbBest (s.canAt n).tx = some c →
        ∃ t, exec (.canArbitrationLost n) s = .next t
          ∧ (c.oneshot = true → (t.canAt n).tx = ((s.canAt n).tx.filter fun x => x.order ≠ c.order) ∧ t.cnt "TXFAIL_CNT" n = (s.cnt "TXFAIL_CNT" n + 1) % 2 ^ 32)
          ∧ (c.oneshot = false → (t.canAt n).tx = (s.canAt n).tx ∧ t.cnt "TXRETRY_CNT" n = (s.cnt "TXRETRY_CNT" n + 1) % 2 ^ 32))
    ∧ (∀ (k : Nat) (d : Bool),
        ((s.canAt n).running = true ∧ (s.canAt n).integ = false ∧ (s.canAt n).busoff = false ∧ (s.canAt n).peer = false ∧ (s.canAt n).tec ≤ 255) →
        (s.word .can n "MODE" ≠ "LISTEN" ∧ 1 ≤ k ∧ k ≤ 6) →
        ∃ t, exec (.canBusError n k false d) s = .next t
          ∧ ((t.canAt n).rec_ = min 255 ((s.canAt n).rec_ + (if d then 8 else 1)) ∧ (t.canAt n).tec = (s.canAt n).tec ∧ (t.canAt n).lec = k)
          ∧ t.cnt "BUSERR_CNT" n = (s.cnt "BUSERR_CNT" n + 1) % 2 ^ 32)
    ∧ (∀ (k : Nat) (d : Bool), ((s.canAt n).running = true ∧ (s.canAt n).integ = false ∧ (s.canAt n).busoff = false ∧ (s.canAt n).peer = false) →
        (s.word .can n "MODE" ≠ "LISTEN" ∧ 1 ≤ k ∧ k ≤ 6 ∧ k ≠ 3) →
        ∃ t, exec (.canBusError n k true d) s = .next t
          ∧ ((t.canAt n).tec = (s.canAt n).tec + 8 ∧ (t.canAt n).rec_ = (s.canAt n).rec_ ∧ (t.canAt n).busoff = decide (255 < (s.canAt n).tec + 8))
          ∧ (255 < (s.canAt n).tec + 8 → t.cnt "BOFF_CNT" n = (s.cnt "BOFF_CNT" n + 1) % 2 ^ 32))
    ∧ (((s.canAt n).running = true ∧ (s.canAt n).busoff = true) →
        ∃ t, exec (.canBusoffRecovery n) s = .next t
          ∧ ((t.canAt n).busoff = false ∧ (t.canAt n).tec = 0 ∧ (t.canAt n).rec_ = 0 ∧ (t.canAt n).warn = false ∧ (t.canAt n).tx = (s.canAt n).tx)
          ∧ t.cnt "RECOV_CNT" n = (s.cnt "RECOV_CNT" n + 1) % 2 ^ 32)
    ∧ ((s.canAt n).integ = true →
        exec (.canIntegrated n) s = .next (s.setCan n { s.canAt n with integ := false }))
    ∧ ((s.mayRun i p = true ∧ p.names .start .can (some n) ∧ p.attrs = []) →
        (s.unitErrs i p .can (some n) = [] ∧ s.funcErrs ["CANTX" ++ toString n, "CANRX" ++ toString n] [] = []) →
        (s.timingErrs n = [] ∧ s.filterErrs n = [] ∧ s.larderGives (s.owner .can n) (s.canBlocks n) = true) →
        ((s.canAt n).running = false ∧ (s.partAt (s.owner .can n)).state ≠ .faulted) →
        ∃ t, exec (.startCan i p) s = .next t
          ∧ (let x := t.canAt n; x.running = true ∧ x.integ = true ∧ x.rx = [] ∧ x.tx = [] ∧ x.inst = 1 ∧ x.nbt = s.canNbt n ∧ x.dbt = s.canDbt n ∧ x.tec = (s.canAt n).tec ∧ x.rec_ = (s.canAt n).rec_)
          ∧ ((s.partAt (s.owner .can n)).state = .stopped → (t.partAt (s.owner .can n)).state = .running))
    ∧ ((s.mayRun i p = true ∧ p.names .stop .can (some n) ∧ p.attrs = []) →
        (s.unitErrs i p .can (some n) = [] ∧ (s.canAt n).peer = false ∧ (s.canAt n).running = true) →
        ∃ t, exec (.stopCan i p) s = .next t
          ∧ (let x := t.canAt n; x.running = false ∧ x.rx = [] ∧ x.tx = [] ∧ x.tec = (s.canAt n).tec ∧ x.rec_ = (s.canAt n).rec_ ∧ x.busoff = (s.canAt n).busoff)
          ∧ (∀ m, m ≠ n → t.canAt m = s.canAt m))
    ∧ ((s.mayRun i p = true ∧ p.names .test .can (some n) ∧ p.attrs = []) → (s.unitErrs i p .can (some n) = [] ∧ (s.canAt n).running = false) →
        ∃ t, exec (.testCan i p) s = .next t ∧ s.gave t i (replyLines p [[("result", "PASS"), ("step", "0")]]) ∧ t.butReply s = s)
    ∧ (∀ (r : CanRx) (l : List CanRx), (s.mayRun i p = true ∧ p.names .get .can (some n) "RX" ∧ p.attrs = []) →
        (s.unitErrs i p .can (some n) = [] ∧ s.word .can n "DELIVER" ≠ "EVENT" ∧ (s.canAt n).rx = r :: l) →
        ∃ t, exec (.getCanRx i p) s = .next t ∧ s.gave t i (replyLines p [canKeys r]) ∧ t.butReply s = s)
    ∧ ((s.mayRun i p = true ∧ p.names .reset .can (some n) "RX" ∧ p.attrs = []) → s.unitErrs i p .can (some n) = [] →
        ∃ t, exec (.resetCanRx i p) s = .next t ∧ t.canAt n = { s.canAt n with rx := [] } ∧ { t.butReply s with cans := s.cans } = s ∧ s.answeredOnly t i)
    ∧ (∀ (k : Int) (r : CanRx) (a b : List CanRx), (s.mayRun i p = true ∧ p.names .reset .can (some n) "RX" ∧ p.attrs.map AttrTok.name = ["UPTO"]) →
        (s.unitErrs i p .can (some n) = [] ∧ attrVal p "UPTO" (.int 1 4294967295) = some (.n k)) →
        ((s.canAt n).rx = a ++ r :: b ∧ r.inst = k.toNat ∧ ∀ x ∈ a, x.inst ≠ k.toNat) →
        ∃ t, exec (.resetCanRx i p) s = .next t ∧ t.canAt n = { s.canAt n with rx := b })
    ∧ ((s.mayRun i p = true ∧ p.names .arm .can (some n) "TX" ∧ armTxErrs s n p = []) →
        (s.unitErrs i p .can (some n) = [] ∧ s.word .can n "MODE" ≠ "LISTEN" ∧ (s.canAt n).tx.length < s.nat .can n "TXMAX") →
        ((s.canAt n).running = true ∧ (s.canAt n).peer = false ∧ (s.canAt n).busoff = false) →
        ∃ t, exec (.armCanTx i p) s = .next t
          ∧ t.canAt n = { s.canAt n with tx := (s.canAt n).tx ++ [{ f := armFrame p, oneshot := (p.value "ONESHOT").map upper = some "YES", tag := ((attrInt p "TAG" 0 255).getD 0).toNat, order := (s.canAt n).order }], order := (s.canAt n).order + 1 }
          ∧ { t.butReply s with cans := s.cans } = s ∧ s.answeredOnly t i)
    ∧ ((s.mayRun i p = true ∧ p.names .disarm .can (some n) "TX" ∧ p.attrs = []) → (s.unitErrs i p .can (some n) = [] ∧ (s.canAt n).peer = false) →
        ∃ t, exec (.disarmCanTx i p) s = .next t ∧ t.canAt n = { s.canAt n with tx := [] })
    ∧ (∀ (k : Int), (s.mayRun i p = true ∧ p.names .disarm .can (some n) "TX" ∧ p.attrs.map AttrTok.name = ["TAG"]) →
        (s.unitErrs i p .can (some n) = [] ∧ attrVal p "TAG" (.int 0 255) = some (.n k) ∧ (s.canAt n).peer = false) →
        ∃ t, exec (.disarmCanTx i p) s = .next t ∧ (t.canAt n = { s.canAt n with tx := (s.canAt n).tx.filter fun x => x.tag ≠ k.toNat }))

/-! ### Host ports (15_host_ports.md) -/

/-- The host-port rows (R510 to R542): a character joins the queue with its tag, is lost with OVERRUN when 256 wait, and a BREAK with AUTOBAUD starts HUNT; a due XOFF goes out; changed settings come into use once the reply is sent; ENABLE opens
or closes the port's session; UART2's RAW queue is written, read and cleared; an SPI transfer fixes its header, is judged and drains what it read; I2C transfers answer with their result, or wait for STRETCH. It rests on the model's choices of assumptions 114, 116 and 118. -/
def Obligations.PortsRun : Prop :=
  ∀ (s : State) (i n : Nat) (p : Phrase),
    (∀ (r : UartIn),
        (s.uartRuns n = true ∧ n < 2 ∧ (s.uartAt n).xoffDue = false ∧ (s.uartAt n).xonDue = false ∧ (s.uartAt n).hunt = false ∧ (s.uartAt n).flow = false) →
        (r.low = false ∧ (s.uartAt n).rx.length < 256 ∧ (s.uartAt n).inst < 4294967295 ∧ r.data < 256) →
        ∃ t, exec (.uartFrameReceived n r) s = .next t
          ∧ (t.uartAt n).rx = (s.uartAt n).rx ++ [{ data := r.data, tag := if !r.stopOk then 1 else if !r.parityOk && s.word .uart n "PARITY" ≠ "NONE" then 2 else 0, ovr := (s.uartAt n).ovr, inst := (s.uartAt n).inst }]
          ∧ ((t.uartAt n).ovr = false ∧ (t.uartAt n).inst = (s.uartAt n).inst + 1) ∧ (r.stopOk = false → t.cnt "FRAMING_CNT" n = (s.cnt "FRAMING_CNT" n + 1) % 2 ^ 32)
          ∧ t.sess = s.sess)
    ∧ (∀ (r : UartIn),
        (s.uartRuns n = true ∧ n < 2 ∧ (s.uartAt n).xoffDue = false ∧ (s.uartAt n).xonDue = false ∧ (s.uartAt n).hunt = false ∧ (s.uartAt n).flow = false) →
        (r.low = false ∧ r.stopOk = true ∧ r.parityOk = true ∧ 256 ≤ (s.uartAt n).rx.length) →
        ∃ t, exec (.uartFrameReceived n r) s = .next t ∧ ((t.uartAt n).rx = (s.uartAt n).rx ∧ (t.uartAt n).ovr = true)
          ∧ t.cnt "OVERRUN_CNT" n = (s.cnt "OVERRUN_CNT" n + 1) % 2 ^ 32)
    ∧ (∀ (r : UartIn), (s.uartRuns n = true ∧ n < 2 ∧ (s.uartAt n).xoffDue = false ∧ (s.uartAt n).xonDue = false ∧ (s.uartAt n).paused = false) →
        (r.low = true ∧ s.isOn .uart n "AUTOBAUD" = true) →
        ∃ t, exec (.uartFrameReceived n r) s = .next t ∧ ((t.uartAt n).hunt = true ∧ (t.uartAt n).armed = false ∧ (t.uartAt n).rx = dropPartial (s.uartAt n).rx)
          ∧ t.cnt "BREAK_CNT" n = (s.cnt "BREAK_CNT" n + 1) % 2 ^ 32)
    ∧ (∀ (r : UartIn),
        (s.uartRuns n = true ∧ n < 2 ∧ (s.uartAt n).xoffDue = false ∧ (s.uartAt n).xonDue = false ∧ (s.uartAt n).hunt = true ∧ (s.uartAt n).armed = true) →
        (r.low = false ∧ r.pattern = true ∧ 1200 ≤ huntRate r.clocks ∧ huntRate r.clocks ≤ 921600 ∧ (s.uartAt n).rx = []) →
        ∃ t, exec (.uartFrameReceived n r) s = .next t ∧ ((t.uartAt n).hunt = false ∧ (t.uartAt n).rate = huntRate r.clocks ∧ (t.uartAt n).rx.map UartEnt.data = [13])
          ∧ t.cnt "LOCK_CNT" n = (s.cnt "LOCK_CNT" n + 1) % 2 ^ 32)
    ∧ ((s.uartRuns n = true ∧ (s.uartAt n).hunt = true) →
        exec (.uartHuntIdle n) s = .next (s.setUart n { s.uartAt n with armed := true }))
    ∧ ((s.uartRuns n = true ∧ (s.uartAt n).xoffDue = true) →
        ∃ t, exec (.uartXonSend n) s = .next t ∧ ((t.uartAt n).xoffDue = false ∧ (t.uartAt n).xoffOut = true ∧ t.cnt "XOFFSENT_CNT" n = (s.cnt "XOFFSENT_CNT" n + 1) % 2 ^ 32)
          ∧ (t.uartAt n).rx = (s.uartAt n).rx)
    ∧ (∀ (c : Nat),
        (n < 2 ∧ (s.uartAt n).apply_ = some c ∧ s.replySent c = true ∧ s.replySent n = true ∧ (s.uartAt n).rehunt = true ∧ s.isOn .uart n "AUTOBAUD" = false) →
        ∃ t, exec (.portSettingsApply n) s = .next t
          ∧ ((t.uartAt n).apply_ = none ∧ (t.uartAt n).rate = s.nat .uart n "BAUD" ∧ (t.uartAt n).hunt = false ∧ (t.uartAt n).rx = (s.uartAt n).rx))
    ∧ (∀ (c : Nat), (s.spi.apply_ = some c ∧ s.replySent c = true ∧ s.spi.header = none ∧ s.spi.early = false) →
        exec (.portSettingsApply 3) s = .next { s with spi := { s.spi with apply_ := none, mode := s.nat .spi 0 "SPIMODE" } })
    ∧ (∀ (c : Nat), (n < 2 ∧ (s.i2cAt n).apply_ = some c ∧ s.replySent c = true ∧ (s.i2cAt n).busy = none) →
        exec (.portSettingsApply (4 + n)) s = .next (s.setI2c n { s.i2cAt n with apply_ := none, rate := s.nat .i2c n "RATE" }))
    ∧ ((s.mayRun i p = true ∧ p.names .set .uart (some 0) ∧ p.attrs.map AttrTok.name = ["ENABLE"] ∧ p.value "ENABLE" = some "ON") →
        (s.unitErrs i p .uart (some 0) = [] ∧ setAttrErrs (uartAttrs 0) (s.sessAt i).super p = [] ∧ s.funcErrs (portFuncs .uart 0 false) [] = [] ∧ i ≠ 0) →
        (s.isOn .uart 0 "ENABLE" = false ∧ s.word .uart 2 "MODE" ≠ "RAW") →
        ∃ t, exec (.setUartEnable i p) s = .next t ∧ ((t.uartAt 0).enabled = true ∧ (t.uartAt 0).hunt = s.isOn .uart 0 "AUTOBAUD" ∧ (t.sessAt 0).opened = true)
          ∧ t.isOn .uart 0 "ENABLE" = true)
    ∧ ((s.mayRun i p = true ∧ p.names .set .uart (some 0) ∧ p.attrs.map AttrTok.name = ["ENABLE"] ∧ p.value "ENABLE" = some "OFF") →
        (s.unitErrs i p .uart (some 0) = [] ∧ setAttrErrs (uartAttrs 0) (s.sessAt i).super p = [] ∧ i ≠ 0) →
        ∃ t, exec (.setUartEnable i p) s = .next t ∧ ((t.uartAt 0).enabled = false ∧ (t.sessAt 0).opened = false) ∧ t.isOn .uart 0 "ENABLE" = false)
    ∧ ((s.mayRun i p = true ∧ p.names .set .spi none ∧ p.attrs.map AttrTok.name = ["ENABLE"] ∧ p.value "ENABLE" = some "ON") →
        (s.unitErrs i p .spi none = [] ∧ setAttrErrs spiAttrs (s.sessAt i).super p = [] ∧ s.funcErrs (portFuncs .spi 0 false) [] = [] ∧ i ≠ 2) →
        (s.isOn .spi 0 "ENABLE" = false ∧ s.word .uart 2 "MODE" ≠ "RAW") →
        ∃ t, exec (.setUartEnable i p) s = .next t ∧ (t.spi.enabled = true ∧ t.spi.mode = s.nat .spi 0 "SPIMODE" ∧ t.spi.status = 1 ∧ (t.sessAt 2).opened = true))
    ∧ ((s.mayRun i p = true ∧ p.names .set .i2c (some n) ∧ n < 2 ∧ p.attrs.map AttrTok.name = ["ENABLE"] ∧ p.value "ENABLE" = some "ON") →
        (s.unitErrs i p .i2c (some n) = [] ∧ setAttrErrs i2cAttrs (s.sessAt i).super p = [] ∧ s.funcErrs (portFuncs .i2c n false) [] = []) →
        (s.isOn .i2c n "ENABLE" = false ∧ s.word .uart 2 "MODE" ≠ "RAW") →
        ∃ t, exec (.setUartEnable i p) s = .next t ∧ t.i2cAt n = { s.i2cAt n with enabled := true, rate := s.nat .i2c n "RATE" })
    ∧ (∀ (d : List Nat), (s.mayRun i p = true ∧ p.names .arm .uart (some 2) "TX" ∧ p.attrs.map AttrTok.name = ["D"] ∧ attrVal p "D" (.bytes 1 64) = some (.l d)) →
        (s.uart2Errs i = [] ∧ (s.uartAt 2).tx = [] ∧ 1 ≤ d.length ∧ d.length ≤ 64 ∧ s.larderGives 4 1 = true) →
        ∃ t, exec (.armUart2Tx i p) s = .next t ∧ t.uartAt 2 = { s.uartAt 2 with tx := d, txAt := s.now } ∧ { t.butReply s with uarts := s.uarts } = s ∧ s.answeredOnly t i)
    ∧ ((s.mayRun i p = true ∧ p.names .get .uart (some 2) "RX" ∧ p.attrs = []) → (s.uart2Errs i = [] ∧ (s.uartAt 2).rx ≠ []) →
        ∃ t, exec (.getUart2Rx i p) s = .next t
          ∧ s.gave t i (let es := (s.uartAt 2).rx.take 64; replyLines p [[("first", toString ((es.head?.map UartEnt.inst).getD 0)), ("n", toString es.length), ("d", showBytes (es.map UartEnt.data)), ("tag", String.ofList (es.map fun e => tagLetter e.tag)), ("ovr", showList (ovrPositions es))]])
          ∧ t.butReply s = s)
    ∧ ((s.mayRun i p = true ∧ p.names .reset .uart (some 2) "RX" ∧ p.attrs = []) → s.uart2Errs i = [] →
        ∃ t, exec (.resetUart2Rx i p) s = .next t ∧ (t.uartAt 2).rx = [] ∧ (t.uartAt 2).tx = (s.uartAt 2).tx)
    ∧ (∀ (m : Int) (a b : List UartEnt),
        (s.mayRun i p = true ∧ p.names .reset .uart (some 2) "RX" ∧ p.attrs.map AttrTok.name = ["UPTO"] ∧ attrVal p "UPTO" (.int 1 4294967295) = some (.n m)) →
        (s.uart2Errs i = [] ∧ (s.uartAt 2).rx = a ++ b ∧ (∀ e ∈ a, instUpTo m.toNat e.inst = true) ∧ ∀ e ∈ b, instUpTo m.toNat e.inst = false) →
        ∃ t, exec (.resetUart2Rx i p) s = .next t ∧ (t.uartAt 2).rx = b)
    ∧ (∀ (ts : Nat), (s.spi.enabled = true ∧ s.spi.header = none ∧ s.spi.lastRise = none) →
        ∃ t, exec (.spiCsFall ts) s = .next t
          ∧ (t.now = max s.now ts ∧ t.spi.header = some (t.spi.status + (if (t.sessAt 2).opened then 128 else 0), min t.spiWaiting 252, min 252 (512 - t.spi.rxbuf.length), min 255 (t.spiWaiting - 252)))
          ∧ ({ t.spi with header := s.spi.header, sent := s.spi.sent, early := s.spi.early } = s.spi ∧ t.sess = s.sess))
    ∧ (∀ (ts : Nat) (bytes : List Nat) (h : Nat × Nat × Nat × Nat), (s.spi.enabled = true ∧ s.spi.header = some h ∧ s.spi.rxbuf.length ≤ 512) →
        (4 ≤ bytes.length ∧ bytes.length ≤ 256 ∧ bytes.getD 0 0 < 253 ∧ bytes.length ≥ 4 + bytes.getD 0 0 ∧ bytes.getD 1 0 = Nat.xor (bytes.getD 0 0) 255 ∧ bytes.getD 2 0 = 0 ∧ bytes.getD 3 0 = 0) →
        bytes.getD 0 0 ≤ 512 - s.spi.rxbuf.length →
        ∃ t, exec (.spiCsRise ts bytes) s = .next t
          ∧ (t.spi.status = 1 ∧ t.spi.rxbuf = s.spi.rxbuf ++ (bytes.drop 4).take (bytes.getD 0 0) ∧ t.spi.header = none ∧ t.spi.lastRise = some (max s.now ts))
          ∧ t.cnt "SPI_XFER_CNT" 0 = (s.cnt "SPI_XFER_CNT" 0 + 1) % 2 ^ 32)
    ∧ (∀ (ts : Nat) (bytes : List Nat) (h : Nat × Nat × Nat × Nat), (s.spi.enabled = true ∧ s.spi.header = some h) →
        (4 ≤ bytes.length ∧ bytes.getD 1 0 ≠ Nat.xor (bytes.getD 0 0) 255 ∧ bytes.length ≤ 256 ∧ bytes.length ≥ 4 + bytes.getD 0 0) →
        ∃ t, exec (.spiCsRise ts bytes) s = .next t ∧ (t.spi.status = 2 ∧ t.spi.rxbuf = s.spi.rxbuf ∧ t.cnt "BADHDR_CNT" 3 = (s.cnt "BADHDR_CNT" 3 + 1) % 2 ^ 32))
    ∧ (∀ (b : I2cBus) (a : Int),
        (s.mayRun i p = true ∧ p.names .get .i2c (some n) "XFER" ∧ p.attrs.map AttrTok.name = ["ADDR", "R"] ∧ attrVal p "ADDR" (.int 8 119) = some (.n a)) →
        (n < 2 ∧ s.retired 41 = false ∧ s.useErrs i .i2c n = [] ∧ optAttr p "R" (.int 0 64) = [] ∧ (s.i2cAt n).enabled = true ∧ (s.i2cAt n).busy = none) →
        (b.sclLow = false ∧ b.sdaFree = none ∧ b.outcome = 0) →
        ∃ t, exec (.i2cXferRead i p b) s = .next t ∧ s.gave t i (replyLines p [i2cReply p b]) ∧ t.i2cAt n = { s.i2cAt n with busy := none, sda := true, scl := true }
          ∧ t.cnt "I2C_XFER_CNT" n = (s.cnt "I2C_XFER_CNT" n + 1) % 2 ^ 32)
    ∧ (∀ (b : I2cBus) (a : Int) (w : List Nat),
        (s.mayRun i p = true ∧ p.names .set .i2c (some n) "XFER" ∧ p.attrs.map AttrTok.name = ["ADDR", "W"] ∧ attrVal p "ADDR" (.int 8 119) = some (.n a) ∧ attrVal p "W" (.bytes 0 64) = some (.l w)) →
        (n < 2 ∧ s.retired 41 = false ∧ s.useErrs i .i2c n = [] ∧ (s.i2cAt n).enabled = true ∧ (s.i2cAt n).busy = none) →
        (b.sclLow = false ∧ b.sdaFree = none ∧ b.outcome = 1) →
        ∃ t, exec (.i2cXferWrite i p b) s = .next t ∧ s.gave t i (replyLines p [i2cReply p b])
          ∧ (t.cnt "NACK_CNT" n = (s.cnt "NACK_CNT" n + 1) % 2 ^ 32 ∧ t.cnt "I2C_XFER_CNT" n = (s.cnt "I2C_XFER_CNT" n + 1) % 2 ^ 32))
    ∧ (∀ (j : Nat) (q : Phrase) (b : I2cBus), ((s.i2cAt n).busy = some (j, q, b) ∧ b.outcome = 4) →
        ∃ t, exec (.i2cStretchTimeout n) s = .next t ∧ (t.now = max s.now ((s.i2cAt n).since + s.ns .i2c n "STRETCH") ∧ (t.i2cAt n).busy = none ∧ (t.i2cAt n).scl = true)
          ∧ t.cnt "I2C_TIMEOUT_CNT" n = (s.cnt "I2C_TIMEOUT_CNT" n + 1) % 2 ^ 32)

/-! ### Pins and registers (16_pins.md, 22_register_reference.md) -/

/-- The pin and register rows (R544, R546, R556 to R559, R562, R563, R603, R665, R729 to R735): an edge or level on the watched condition sets the flag and counts, edges within EVMIN are counted for one line, banks go down and up, SET PIN maps
functions, RESET clears flag and count, the OUT registers drive only their group's pins, DEV_LOCK locks for good, FLT_LATCH is cleared by ones, ATT_SEL_HI latches the window; GET and SHOW give address and value. It rests on the model's choices of assumptions 119, 147 and 148. -/
def Obligations.PinsAndRegisters : Prop :=
  ∀ (s : State) (i k : Nat) (p : Phrase), k < 64 →
    (∀ (ts : Nat) (high : Bool), (s.bankDown (k / 16) = false ∧ (s.pinAt k).val ≠ high ∧ (s.pinAt k).lineAt = none ∧ (s.pinAt k).since = 0) →
        (s.word .pin k "IRQ" = "BOTH" ∨ s.word .pin k "IRQ" = (if high then "RISE" else "FALL")) →
        ∃ t, exec (.pinEdge k ts high) s = .next t
          ∧ (let x := t.pinAt k; x.val = high ∧ x.evt = true ∧ x.ecnt = ((s.pinAt k).ecnt + 1) % 2 ^ 32 ∧ x.lineAt = some t.now ∧ x.since = 0) ∧ t.now = max s.now ts
          ∧ (∀ j, j ≠ k → t.pinAt j = s.pinAt j))
    ∧ (∀ (ts d : Nat) (high : Bool),
        (s.bankDown (k / 16) = false ∧ (s.pinAt k).val ≠ high ∧ s.evminEnd k = some d ∧ max s.now ts < d ∧ s.word .pin k "IRQ" = "BOTH") →
        ∃ t, exec (.pinEdge k ts high) s = .next t
          ∧ (let x := t.pinAt k; x.evt = true ∧ x.ecnt = ((s.pinAt k).ecnt + 1) % 2 ^ 32 ∧ x.since = (s.pinAt k).since + 1 ∧ x.lineAt = (s.pinAt k).lineAt) ∧ t.sess = s.sess)
    ∧ (∀ (ts : Nat) (high : Bool), (s.bankDown (k / 16) = true ∧ s.now ≤ ts) →
        exec (.pinEdge k ts high) s = .next (s.advanceTo ts))
    ∧ (∀ (d : Nat), (s.evminEnd k = some d ∧ 0 < (s.pinAt k).since) →
        ∃ t, exec (.pinEvminEnd k) s = .next t ∧ (t.now = max s.now d ∧ (t.pinAt k).since = 0 ∧ (t.pinAt k).lineAt = some t.now ∧ (t.pinAt k).ecnt = (s.pinAt k).ecnt))
    ∧ (∀ (ts : Nat), (s.bankDown (k / 16) = false ∧ s.word .pin k "IRQ" = "HIGH" ∧ (s.pinAt k).evt = false) →
        ∃ t, exec (.pinLevel k ts true) s = .next t ∧ ((t.pinAt k).evt = true ∧ (t.pinAt k).val = true ∧ (t.pinAt k).ecnt = (s.pinAt k).ecnt))
    ∧ (∀ (b : Nat), (b < 4 ∧ s.bankDown b = false) →
        ∃ t, exec (.pinBankDown b) s = .next t ∧ (t.bankDown b = true ∧ t.pins.pins = s.pins.pins))
    ∧ (∀ (b : Nat) (ls : List Bool), (b < 4 ∧ s.bankDown b = true ∧ ls.length = 16 ∧ ∀ j, j < 16 → s.word .pin (16 * b + j) "IRQ" = "NONE") →
        ∃ t, exec (.pinBankUp b ls) s = .next t ∧ t.bankDown b = false
          ∧ (∀ j, j < 16 → (t.pinAt (16 * b + j)).val = ls.getD j false ∧ (t.pinAt (16 * b + j)).ecnt = (s.pinAt (16 * b + j)).ecnt))
    ∧ ((s.mayRun i p = true ∧ p.names .set .pin (some k) ∧ p.has "FUNC" = true ∧ (p.attrs.map AttrTok.name).Nodup) →
        (s.unitErrs i p .pin (some k) = [] ∧ setAttrErrs pinAttrs (s.sessAt i).super p = [] ∧ s.funcSetErrs k p = [] ∧ ¬(s.pinlock = true ∧ s.owner .pin k = secureOwner)) →
        (p.has "TYPE" = false ∧ p.has "DRIVE" = false ∧ p.has "PULL" = false ∧ p.has "LEVEL" = false ∧ p.has "IRQ" = false) →
        ∃ t, exec (.setPinFunc i p) s = .next t ∧ (∀ a ∈ p.attrs, some (t.val .pin k a.name) = (specFind a.name pinAttrs).bind (fun x => a.value.bind (parseVal x.form)))
          ∧ (∀ n ix sub name, (n, ix, sub) ≠ (Noun.pin, k, "") ∨ p.has name = false → t.val n ix sub name = s.val n ix sub name) ∧ { t.butReply s with cfg := s.cfg } = s
          ∧ s.answeredOnly t i)
    ∧ ((s.mayRun i p = true ∧ p.names .reset .pin (some k) ∧ p.attrs = [] ∧ s.unitErrs i p .pin (some k) = [] ∧ s.levelHolds k = false) →
        ∃ t, exec (.resetPin i p) s = .next t ∧ t.pinAt k = { s.pinAt k with evt := false, ecnt := 0 } ∧ { t.butReply s with pins := s.pins } = s ∧ s.answeredOnly t i)
    ∧ (∀ (o v : Nat), (s.mayRun i p = true ∧ o < 5 ∧ p.names .set .reg (some (0xF0400 + 64 * o + 4 * (k / 32))) ∧ p.attrs.map AttrTok.name = ["VALUE"]) →
        (attrVal p "VALUE" (.int 0 4294967295) = some (.n v) ∧ s.setRegErrs i p (0xF0400 + 64 * o + 4 * (k / 32)) = []) →
        ∃ t, exec (.outSetWrite i p) s = .next t ∧ (t.word .pin k "LEVEL" = if v / 2 ^ (k % 32) % 2 = 1 ∧ s.owner .pin k = pinGroup o then "HIGH" else s.word .pin k "LEVEL")
          ∧ { t.butReply s with cfg := s.cfg } = s ∧ s.answeredOnly t i)
    ∧ (∀ (o v : Nat), (s.mayRun i p = true ∧ o < 5 ∧ p.names .set .reg (some (0xF0408 + 64 * o + 4 * (k / 32))) ∧ p.attrs.map AttrTok.name = ["VALUE"]) →
        (attrVal p "VALUE" (.int 0 4294967295) = some (.n v) ∧ s.setRegErrs i p (0xF0408 + 64 * o + 4 * (k / 32)) = []) →
        ∃ t, exec (.outClrWrite i p) s = .next t ∧ (t.word .pin k "LEVEL" = if v / 2 ^ (k % 32) % 2 = 1 ∧ s.owner .pin k = pinGroup o then "LOW" else s.word .pin k "LEVEL")
          ∧ { t.butReply s with cfg := s.cfg } = s ∧ s.answeredOnly t i)
    ∧ (∀ (o v : Nat), (s.mayRun i p = true ∧ o < 5 ∧ p.names .set .reg (some (0xF0410 + 64 * o + 4 * (k / 32))) ∧ p.attrs.map AttrTok.name = ["VALUE"]) →
        (attrVal p "VALUE" (.int 0 4294967295) = some (.n v) ∧ s.setRegErrs i p (0xF0410 + 64 * o + 4 * (k / 32)) = []) →
        ∃ t, exec (.outTglWrite i p) s = .next t
          ∧ (t.word .pin k "LEVEL" = if v / 2 ^ (k % 32) % 2 = 1 ∧ s.owner .pin k = pinGroup o then (if s.word .pin k "LEVEL" = "HIGH" then "LOW" else "HIGH") else s.word .pin k "LEVEL")
          ∧ { t.butReply s with cfg := s.cfg } = s ∧ s.answeredOnly t i)
    ∧ (∀ (o v : Nat), (s.mayRun i p = true ∧ o < 5 ∧ p.names .set .reg (some (0xF0418 + 64 * o + 4 * (k / 32))) ∧ p.attrs.map AttrTok.name = ["VALUE"]) →
        (attrVal p "VALUE" (.int 0 4294967295) = some (.n v) ∧ s.setRegErrs i p (0xF0418 + 64 * o + 4 * (k / 32)) = []) →
        ∃ t, exec (.evtClearWrite i p) s = .next t
          ∧ (t.pinAt k = if v / 2 ^ (k % 32) % 2 = 1 ∧ s.owner .pin k = pinGroup o ∧ s.levelHolds k = false then { s.pinAt k with evt := false } else s.pinAt k)
          ∧ { t.butReply s with pins := s.pins } = s ∧ s.answeredOnly t i)
    ∧ (∀ (v : Nat),
        (s.mayRun i p = true ∧ p.names .set .reg (some 0x10004) ∧ p.attrs.map AttrTok.name = ["VALUE"] ∧ attrVal p "VALUE" (.int 0 4294967295) = some (.n v)) →
        s.setRegErrs i p 0x10004 = [] →
        ∃ t, exec (.devLockWrite i p) s = .next t ∧ (t.ownlock = (s.ownlock || v % 2 = 1) ∧ t.pinlock = (s.pinlock || v / 2 % 2 = 1))
          ∧ { t.butReply s with ownlock := s.ownlock, pinlock := s.pinlock } = s ∧ s.answeredOnly t i)
    ∧ (∀ (v : Nat),
        (s.mayRun i p = true ∧ p.names .set .reg (some 0x130004) ∧ p.attrs.map AttrTok.name = ["VALUE"] ∧ attrVal p "VALUE" (.int 0 4294967295) = some (.n v)) →
        (s.setRegErrs i p 0x130004 = [] ∧ ∀ c ∈ s.faults.latch, c < 32) →
        ∃ t, exec (.fltLatchWrite i p) s = .next t ∧ (t.faults.latch = s.faults.latch.filter fun c => v / 2 ^ c % 2 = 0)
          ∧ { t.butReply s with faults := { s.faults with latch := t.faults.latch } } = { s with faults := t.faults } ∧ s.answeredOnly t i)
    ∧ (∀ (v : Nat) (r : ARec),
        (s.mayRun i p = true ∧ p.names .set .reg (some 0x110044) ∧ p.attrs.map AttrTok.name = ["VALUE"] ∧ attrVal p "VALUE" (.int 0 4294967295) = some (.n v)) →
        (s.setRegErrs i p 0x110044 = [] ∧ v < 65536 ∧ s.atticRec 0 (s.attic.selLo.toNat + 2 ^ 32 * v) = some r) →
        (s.atticOldest 0 ≤ s.attic.selLo.toNat + 2 ^ 32 * v ∧ s.attic.selLo.toNat + 2 ^ 32 * v ≤ s.atticNewest 0) →
        ∃ t, exec (.attSelHiWrite i p) s = .next t ∧ (t.attic.selHi = BitVec.ofNat 32 v ∧ t.attic.winst = 0 ∧ t.attic.win = some r ∧ t.attic.selLo = s.attic.selLo)
          ∧ { t.butReply s with attic := s.attic } = s ∧ s.answeredOnly t i)
    ∧ (∀ (v : Nat),
        (s.mayRun i p = true ∧ p.names .set .reg (some 0x110044) ∧ p.attrs.map AttrTok.name = ["VALUE"] ∧ attrVal p "VALUE" (.int 0 4294967295) = some (.n v)) →
        (s.setRegErrs i p 0x110044 = [] ∧ v < 65536 ∧ s.atticNewest 0 < s.attic.selLo.toNat + 2 ^ 32 * v) →
        ∃ t, exec (.attSelHiWrite i p) s = .next t ∧ (t.attic.winst = 2 ∧ t.attic.win = none))
    ∧ (∀ (v : Nat),
        (s.mayRun i p = true ∧ p.names .set .reg (some (0xF0100 + 4 * k)) ∧ p.attrs.map AttrTok.name = ["VALUE"] ∧ attrVal p "VALUE" (.int 0 4294967295) = some (.n v)) →
        s.setRegErrs i p (0xF0100 + 4 * k) = [] →
        ∃ t, exec (.setReg i p) s = .next t ∧ t.pinAt k = { s.pinAt k with ecnt := v } ∧ { t.butReply s with pins := s.pins } = s ∧ s.answeredOnly t i)
    ∧ (∀ (v : Nat),
        (s.mayRun i p = true ∧ p.names .set .reg (some (0xF0000 + 4 * k)) ∧ p.attrs.map AttrTok.name = ["VALUE"] ∧ attrVal p "VALUE" (.int 0 4294967295) = some (.n v)) →
        s.setRegErrs i p (0xF0000 + 4 * k) = [] →
        ∃ t, exec (.setReg i p) s = .next t ∧ s.gave t i (replyLines p []) ∧ t.butReply s = s ∧ s.answeredOnly t i)
    ∧ (∀ (a v : Nat), (s.mayRun i p = true ∧ p.names .get .reg (some a) ∧ p.attrs = [] ∧ a / 0x10000 ≠ 0xC) →
        (s.takePhrase i p).map (fun x => (((x.counted i).reg a).val, (x.counted i).regErrs i p a, (x.counted i).regPair a)) = some (v, [], none) →
        ∃ t, exec (.getReg i p) s = .next t ∧ s.gave t i (replyLines p [[("addr", showHex 8 a), ("value", showHex 8 v)]]) ∧ t.butReply s = s)
    ∧ (∀ (a v : Nat) (c : String),
        (s.mayRun i p = true ∧ p.names .showV .reg (some a) ∧ p.attrs = [] ∧ a / 0x10000 ≠ 0xC ∧ (s.takePhrase i p).map (fun x => ((x.counted i).reg a).classText) = some c) →
        (s.takePhrase i p).map (fun x => (((x.counted i).reg a).val, (x.counted i).regErrs i p a, (x.counted i).regPair a)) = some (v, [], none) →
        ∃ t, exec (.showReg i p) s = .next t ∧ s.gave t i (replyLines p [[("addr", showHex 8 a), ("value", showHex 8 v)], [("class", c)]]) ∧ t.butReply s = s)

/-! ### Attic, time, trace (17_attic_time.md) -/

/-- The rows of chapter 17 (R577 to R581, R584, R590, R591, R594 to R600): CAL is stepped to GPS time or trimmed; SET TIME sets CAL or the alarm; the RTC's stop ends CAL; LEAP and the operating hours are kept; a pending record is written to its ring,
a HOST record is handed off, GET reads the log, RESET is refused with an ERASE record; trace lines leave numbered, and the trace is started, stopped, read, cleared and flushed. It rests on the model's choices of assumptions 122, 123, 125 and 126. -/
def Obligations.TimeAtticAndTrace : Prop :=
  ∀ (s : State) (i n : Nat) (p : Phrase),
    (∀ (off : Int) (g : Nat), (s.times.gpsOff = some off ∧ s.gpsTime = some g ∧ s.times.calSrc ≠ .gps) →
        ∃ t, exec (.calCompare) s = .next t
          ∧ (t.now = max s.now (((s.nextCompare g * 1000000000 : Nat) : Int) - off).toNat ∧ t.times.cal = ((t.now : Int) + off).toNat ∧ t.times.calSrc = .gps)
          ∧ (t.cnt "TIMESTEP_CNT" 0 = (s.cnt "TIMESTEP_CNT" 0 + 1) % 2 ^ 32 ∧ t.times.gpsFirst = false ∧ t.times.lastCmp = s.nextCompare g))
    ∧ (∀ (off : Int) (g : Nat), (s.times.gpsOff = some off ∧ s.gpsTime = some g ∧ s.times.calSrc = .gps) →
        (let d := (((s.advanceTo (((s.nextCompare g * 1000000000 : Nat) : Int) - off).toNat).now : Int) + off).toNat - ((s.advanceTo (((s.nextCompare g * 1000000000 : Nat) : Int) - off).toNat).times.cal : Int); d.natAbs ≤ 1000000) →
        ∃ t, exec (.calCompare) s = .next t ∧ (t.times.cal + s.now = s.times.cal + t.now ∧ t.times.calSrc = .gps ∧ -2000 ≤ t.times.rtctrim ∧ t.times.rtctrim ≤ 2000)
          ∧ t.times.rtctrim = max (-2000) (min 2000 (s.times.rtctrim + divRound ((((t.now : Int) + off).toNat : Int) - t.times.cal) 6000)))
    ∧ (∀ (c : Nat),
        (s.mayRun i p = true ∧ p.names .set .time none ∧ p.attrs.map AttrTok.name = ["CAL"] ∧ attrVal p "CAL" (.int 0 9223372036854775807) = some (.n c)) →
        (s.unitErrs i p .time none = [] ∧ setAttrErrs timeAttrs (s.sessAt i).super p = [] ∧ s.times.gpsOff = none) →
        ∃ t, exec (.setTime i p) s = .next t ∧ (t.times.cal = c * 1000000 ∧ t.times.calSrc = .host ∧ t.now = s.now)
          ∧ ((s.retired 39 = false ∧ s.attic.committed = false ∧ s.attic.pend = [] ∧ s.larderGives 4 1 = true) → t.attic.pend.map ARec.code = [0x0107]))
    ∧ (∀ (a : Nat),
        (s.mayRun i p = true ∧ p.names .set .time none ∧ p.attrs.map AttrTok.name = ["ALARMIN"] ∧ attrVal p "ALARMIN" (.timeW 1000000 2592000000000 1 ["NONE"]) = some (.n a)) →
        (s.unitErrs i p .time none = [] ∧ setAttrErrs timeAttrs (s.sessAt i).super p = []) →
        ∃ t, exec (.setTimeAlarmin i p) s = .next t ∧ t.times = { s.times with alarm := some (s.now + 1000 * a), alarmIn := a } ∧ { t.butReply s with times := s.times } = s
          ∧ s.answeredOnly t i)
    ∧ (∀ (a : Nat), (s.times.alarm = some a ∧ s.awake = true ∧ s.power.dstate ≠ .shutdown) →
        ∃ t, exec (.rtcAlarmDue) s = .next t ∧ (t.times.alarm = none ∧ t.now = max s.now a ∧ t.power = s.power))
    ∧ (∀ (ts : Nat), (s.times.rtcRC = false ∧ s.awake = true) →
        ∃ t, exec (.rtcStop ts) s = .next t
          ∧ (t.times.rtcRC = true ∧ t.times.calSrc = .none_ ∧ t.now = max s.now ts ∧ t.cnt "RTCFAIL_CNT" 0 = (s.cnt "RTCFAIL_CNT" 0 + 1) % 2 ^ 32))
    ∧ (∀ (ts : Nat), (s.times.rtcRC = true ∧ s.awake = true) →
        ∃ t, exec (.rtcRun ts) s = .next t ∧ (t.times.rtcRC = false ∧ t.times.calSrc = s.times.calSrc ∧ t.now = max s.now ts))
    ∧ (∀ (a new : Nat), (s.times.leapSched = some (a, new) ∧ s.times.gpsOff = none ∧ s.calValid = true ∧ s.times.cal ≤ a * 1000000000) →
        ∃ t, exec (.leapApply) s = .next t ∧ (t.times.leap = new ∧ t.times.leapSched = none ∧ t.times.cal = a * 1000000000))
    ∧ ((s.awake = true ∧ s.attic.committed = false) →
        ∃ t, exec (.hoursSave) s = .next t ∧ (t.now = s.nextTick "HOURS" 0 60000000000 ∧ t.times.mramHours = t.times.hoursNs / 1000000000))
    ∧ (∀ (r : ARec) (l : List ARec),
        (s.attic.pend = r :: l ∧ r.log = 0 ∧ s.attic.lost0 = 0 ∧ s.retired 39 = false ∧ s.attic.scanned = true ∧ 1 ≤ s.attic.next0 ∧ s.attic.next0 < 2 ^ 48 - 1) →
        ∃ t, exec (.atticRecordWrite) s = .next t ∧ (t.attic.pend = l ∧ t.attic.next0 = s.attic.next0 + 1 ∧ t.attic.ring1 = s.attic.ring1)
          ∧ (t.attic.ring0.find? fun x => x.1 = (s.attic.next0 - 1) % 12288).map (fun x => { x.2 with flags := 0 }) = some ((s.attic.next0 - 1) % 12288, { r with seq := s.attic.next0, flags := 0 }).2)
    ∧ (∀ (d : List Nat), (s.mayRun i p = true ∧ p.names .save .attic (some 0) ∧ p.attrs.map AttrTok.name = ["D"] ∧ attrVal p "D" (.bytes 1 25) = some (.l d)) →
        (s.unitErrs i p .attic (some 0) true = [] ∧ (s.hostRecent i).length < 10 ∧ s.attic.pend.length < 64 ∧ s.larderGives 4 1 = true ∧ s.retired 39 = false ∧ s.attic.committed = false ∧ s.calValid = true ∧ s.times.calSrc = .gps) →
        ∃ t, exec (.saveAttic i p) s = .next t
          ∧ t.attic.pend = s.attic.pend ++ [{ log := 0, code := 0x01F0, flags := 1, src := 2, sess := i, part := (s.sessAt i).part, stamp := s.times.cal, systime := s.now, data := [0, 0, d.length] ++ d }]
          ∧ (t.sessAt i).hostRecs = s.hostRecent i ++ [s.now])
    ∧ ((s.mayRun i p = true ∧ p.names .get .attic (some n) ∧ n < 2 ∧ p.attrs = [] ∧ s.atticOldest n ≤ s.atticNewest n ∧ (s.atticRec n (s.atticOldest n)).isSome = true) →
        ∃ t, exec (.getAttic i p) s = .next t
          ∧ s.gave t i (replyLines p ([[("oldest", toString (s.atticOldest n)), ("newest", toString (s.atticNewest n))]] ++ ((s.atticRec n (s.atticOldest n)).map fun r => r.keys false).toList))
          ∧ t.butReply s = s)
    ∧ ((s.mayRun i p = true ∧ p.names .reset .attic (some n) ∧ n < 2 ∧ p.attrs = [] ∧ s.retired 39 = false ∧ s.attic.committed = false ∧ s.attic.pend.length < 64 ∧ s.larderGives 4 1 = true) →
        ∃ t, exec (.resetAttic i p) s = .next t
          ∧ (t.attic.pend.map ARec.code = s.attic.pend.map ARec.code ++ [0x020B] ∧ t.attic.ring0 = s.attic.ring0 ∧ t.attic.ring1 = s.attic.ring1)
          ∧ s.gave t i [erLine ⟨.locked, some p.nounTok⟩ p.tag p.checked]
          ∧ (t.cnt "ERASE_CNT" 0 = (s.cnt "ERASE_CNT" 0 + 1) % 2 ^ 32 ∧ t.cnt "LOCKWR_CNT" 0 = (s.cnt "LOCKWR_CNT" 0 + 1) % 2 ^ 32))
    ∧ (∀ (l : TLine) (ls : List TLine), (s.trace.queue = l :: ls ∧ s.traceGoes = true ∧ s.word .trace 0 "DEST" = "UART2" ∧ s.trace.lost = 0) →
        ∃ t, exec (.traceLineOut) s = .next t ∧ (t.trace.queue = ls ∧ t.trace.tseq = (s.trace.tseq + 1) % 65536)
          ∧ (t.uartAt 2).wire = [cutLine ("T " ++ toString s.trace.tseq ++ " " ++ toString (l.t / 1000) ++ " " ++ l.text) ++ "\r\n"])
    ∧ ((s.mayRun i p = true ∧ p.names .start .trace none ∧ p.attrs = [] ∧ s.unitErrs i p .trace none = [] ∧ s.trace.running = false) →
        (s.word .trace 0 "DEST" ≠ "UART2" ∨ s.word .uart 2 "MODE" = "TRACE") →
        ∃ t, exec (.startTrace i p) s = .next t ∧ (t.trace.running = true ∧ t.trace.queue = [] ∧ t.trace.ring = [] ∧ t.trace.tseq = s.trace.tseq)
          ∧ { t.butReply s with trace := s.trace } = s)
    ∧ ((s.mayRun i p = true ∧ p.names .stop .trace none ∧ p.attrs = [] ∧ s.unitErrs i p .trace none = []) →
        ∃ t, exec (.stopTrace i p) s = .next t ∧ (t.trace.running = false ∧ t.trace.ring = s.trace.ring) ∧ { t.butReply s with trace := s.trace } = s ∧ s.answeredOnly t i)
    ∧ (∀ (x : Nat × String) (xs : List (Nat × String)), (s.mayRun i p = true ∧ p.names .get .trace none ∧ p.attrs = [] ∧ s.trace.ring = x :: xs) →
        ∃ t, exec (.getTrace i p) s = .next t ∧ s.gave t i (replyLines p [ringKeys x]) ∧ t.butReply s = s)
    ∧ ((s.mayRun i p = true ∧ p.names .reset .trace none ∧ p.attrs = [] ∧ s.unitErrs i p .trace none = []) →
        ∃ t, exec (.resetTrace i p) s = .next t ∧ t.trace = { s.trace with ring := [] } ∧ { t.butReply s with trace := s.trace } = s ∧ s.answeredOnly t i)
    ∧ (∀ (k : Int) (x : Nat × String) (a b : List (Nat × String)),
        (s.mayRun i p = true ∧ p.names .reset .trace none ∧ p.attrs.map AttrTok.name = ["UPTO"] ∧ s.unitErrs i p .trace none = [] ∧ attrVal p "UPTO" (.int 1 4294967295) = some (.n k)) →
        (s.trace.ring = a ++ x :: b ∧ x.1 = k.toNat ∧ ∀ y ∈ a, y.1 ≠ k.toNat) →
        ∃ t, exec (.resetTrace i p) s = .next t ∧ t.trace = { s.trace with ring := b })
    ∧ (∀ (a : Nat), (s.trace.asleep = some a ∧ s.power.dstate = .shutdown) →
        ∃ t, exec (.traceSleepFlushEnd) s = .next t ∧ (t.trace.queue = [] ∧ t.trace.dropped = s.trace.queue.length ∧ t.now = max s.now (a + 2000000))
          ∧ t.cnt "TRLOST_CNT" 0 = (s.cnt "TRLOST_CNT" 0 + s.trace.queue.length) % 2 ^ 32)

/-! ### Power and start (18_power_start.md) -/

/-- The power rows (R612 to R640, R618 to R630): a rail's state is kept and acts on its die; VLOG and IGN trigger the shutdown, whose steps commit the attic, flush and power down; a reset begins BOOT with its cause, and BOOT reaches READY with
IGN and WAKEHOLD set; RSTN holds it; STANDBY ends with a wake source, and its sequence ends in READY. It rests on the model's choices of assumptions 137, 132, 133 and 131. -/
def Obligations.RailsShutdownAndStart : Prop :=
  ∀ (s : State),
    (∀ (mv : Nat), (s.power.dstate = .ready ∨ s.power.dstate = .run ∨ s.power.dstate = .safe) →
        ∃ t, exec (.vlogWarning mv) s = .next t ∧ (t.power.dstate = .shutdown ∧ t.power.trigger = some 0 ∧ t.power.step = 1 ∧ t.power.vlog = mv ∧ t.power.vlogw = true)
          ∧ (t.attic.committed = s.attic.committed ∧ t.now = s.now))
    ∧ (∀ (mv : Nat), (s.power.dstate = .shutdown ∧ s.power.trigger = some 1) →
        ∃ t, exec (.vlogWarning mv) s = .next t ∧ (t.power.trigger = some 0 ∧ t.power.step = s.power.step ∧ t.power.dstate = .shutdown))
    ∧ (∀ (ts : Nat), (s.power.ign = true ∧ s.ignActs = true ∧ s.power.wakeholdEnd = 0) →
        ∃ t, exec (.ignChange false ts) s = .next t ∧ (t.power.ign = false ∧ t.now = max s.now ts ∧ t.power.ignLowSince = some (tickMs t.now)))
    ∧ (∀ (ts : Nat), (s.power.ign = false ∧ s.awake = true) →
        ∃ t, exec (.ignChange true ts) s = .next t ∧ (t.power.ign = true ∧ t.now = max s.now ts ∧ t.power.ignLowSince = none))
    ∧ (∀ (a : Nat), (s.power.ignLowSince = some a ∧ s.ignActs = true) →
        ∃ t, exec (.ignDelayExpiry) s = .next t ∧ (t.power.dstate = .shutdown ∧ t.power.trigger = some 1 ∧ t.power.step = 1 ∧ t.power.ignBack = false)
          ∧ t.now = max s.now (a + s.ns .power 0 "IGNDELAY"))
    ∧ ((s.power.wakeholdEnd ≠ 0 ∧ s.ignActs = true ∧ s.power.ign = false ∧ s.power.ignLowSince = none) →
        ∃ t, exec (.wakeholdEnd) s = .next t ∧ (t.power.wakeholdEnd = 0 ∧ t.now = max s.now s.power.wakeholdEnd ∧ t.power.ignLowSince = some (tickMs t.now)))
    ∧ ((s.power.dstate = .shutdown ∧ s.power.step = 1 ∧ s.retired 39 = false ∧ s.attic.scanned = true ∧ s.attic.pend = [] ∧ s.attic.lost1 = 0 ∧ 1 ≤ s.attic.next1 ∧ s.attic.next1 < 2 ^ 48 - 1) →
        ∃ t, exec (.atticCommit) s = .next t
          ∧ (t.power.step = 2 ∧ t.attic.committed = true ∧ t.attic.pend = [] ∧ t.times.mramHours = s.hours ∧ t.times.mramTrim = s.times.rtctrim)
          ∧ (t.attic.next1 = s.attic.next1 + 1 ∧ (t.attic.ring1.find? fun x => x.1 = (s.attic.next1 - 1) % 4096).map (fun x => (x.2.code, x.2.seq, x.2.data)) = some (0x0202, s.attic.next1, [s.power.trigger.getD 0])))
    ∧ ((s.power.dstate = .shutdown ∧ s.power.step = 2 ∧ s.attic.scanned = true ∧ s.power.trigger = some 1 ∧ s.cellar.logPend = []) →
        ∃ t, exec (.shutdownFlushEnd) s = .next t ∧ (t.power.step = 3 ∧ t.gnss.stored.eph = s.gnss.aid.eph ∧ t.cellar.logPend = []))
    ∧ (∀ (mv : Nat), (s.power.dstate = .shutdown ∧ s.power.step = 3 ∧ mv < 2250) →
        ∃ t, exec (.powerDown mv) s = .next t ∧ (t.power.dstate = .off ∧ t.power.watchVlog = false ∧ t.power.vlog = mv ∧ t.sess = []))
    ∧ (∀ (mv : Nat), (s.power.dstate = .shutdown ∧ s.power.step = 3 ∧ 2250 ≤ mv ∧ s.power.latched = none ∧ s.power.trigger = some 0) →
        ∃ t, exec (.powerDown mv) s = .next t ∧ (t.power.dstate = .off ∧ t.power.watchVlog = true))
    ∧ (∀ (mv : Nat), (s.power.dstate = .shutdown ∧ s.power.step = 3 ∧ 2250 ≤ mv ∧ s.power.latched = none ∧ s.power.trigger = some 1 ∧ s.power.ignBack = false) →
        ∃ t, exec (.powerDown mv) s = .next t ∧ (t.power.dstate = .standby ∧ t.sess = [] ∧ t.own = s.own ∧ t.pantry = s.pantry ∧ t.attic = s.attic ∧ t.now = s.now))
    ∧ (∀ (mv : Nat), (s.power.dstate = .off ∧ s.power.watchVlog = true ∧ s.nat .power 0 "VLOGWARN" + 100 ≤ mv) →
        ∃ t, exec (.vlogReturn mv) s = .next t ∧ (t.power.dstate = .boot ∧ t.power.cause = .return_ ∧ t.cfg = [] ∧ t.pantry = s.pantry))
    ∧ (∀ (b : Bool) (k : Nat),
        ∃ t, exec (.powerOnReset b k) s = .next t ∧ (t.power.dstate = .boot ∧ t.power.cause = .poweron ∧ t.sess = [] ∧ t.units = [] ∧ t.pinlock = false ∧ t.now = 0)
          ∧ (t.pantry = s.pantry ∧ t.key0 = s.key0 ∧ t.attic.ring0 = s.attic.ring0 ∧ t.attic.ring1 = s.attic.ring1 ∧ t.pending = s.pending)
          ∧ (b = true → t.times.cal = 0 ∧ t.times.calSrc = .none_ ∧ t.times.alarm = none))
    ∧ ((s.power.dstate = .ready ∨ s.power.dstate = .run ∨ s.power.dstate = .safe) →
        ∃ t, exec (.rstnAssert) s = .next t ∧ (t.power.dstate = .boot ∧ t.power.cause = .rstn ∧ t.power.inReset = true ∧ t.units = [] ∧ t.sess = [])
          ∧ (t.pinlock = s.pinlock ∧ t.key0 = s.key0))
    ∧ (exec .rstnRelease s = .next { s with power := { s.power with inReset := false } })
    ∧ (∀ (r : BootReport), (s.power.dstate = .boot ∧ s.power.inReset = false ∧ s.power.noTcxo = false ∧ r.tcxo = true ∧ r.bistFail = []) →
        ∃ t, exec (.boot r) s = .next t ∧ (t.power.dstate = .ready ∧ t.power.ign = r.ign ∧ t.power.readyAt = t.now) ∧ (r.ign = true → t.power.wakeholdEnd = 0))
    ∧ (∀ (r : BootReport), (s.power.dstate = .boot ∧ s.power.inReset = false ∧ s.power.noTcxo = false ∧ r.tcxo = false) →
        exec (.boot r) s = .next { s with power := { s.power with noTcxo := true } })
    ∧ (s.power.noTcxo = true →
        exec (.tcxoRetry true) s = .next { s with power := { s.power with noTcxo := false } })
    ∧ (∀ (r : RailIn) (mv : Nat), (s.awake = true ∧ s.power.railA ≠ railOf r ∧ (r = .crank → s.power.railA = .ok)) →
        ∃ t, exec (.railStateChange false r mv) s = .next t ∧ (t.power.railA = railOf r ∧ t.power.vdrvA = mv ∧ t.power.railB = s.power.railB ∧ t.power.vdrvB = s.power.vdrvB))
    ∧ (∀ (mv : Nat), (s.power.vxslow = false ∧ s.awake = true) →
        ∃ t, exec (.vxsLow mv) s = .next t ∧ (t.power.vxslow = true ∧ t.cellar.psram ≠ .ready ∧ t.cellar.nor ≠ .ready ∧ t.cfg = s.cfg))
    ∧ (∀ (mv : Nat), (s.power.vxslow = true ∧ s.awake = true) →
        ∃ t, exec (.vxsReturn mv) s = .next t ∧ (t.power.vxslow = false ∧ t.cellar = s.cellar))
    ∧ (∀ (b : Bool),
        exec (.vbakLow b) s = .next { s with power := { s.power with vbaklow := b } })
    ∧ (∀ (w : WakeIn), (s.power.dstate = .standby ∧ s.power.waking = false ∧ w.waken = true ∧ (splitStr ',' (s.word .power 0 "WAKESRC")).contains "WAKEN" = true) →
        ∃ t, exec (.standbyWake w) s = .next t ∧ (t.power.waking = true ∧ t.now = s.now + rtcNs w.periods ∧ t.times.cal = s.times.cal + rtcNs w.periods ∧ t.cfg = s.cfg)
          ∧ (t.power.lastwake.contains "WAKEN" = true ∧ t.cnt "WAKE_CNT" 0 = (s.cnt "WAKE_CNT" 0 + 1) % 2 ^ 32))
    ∧ (∀ (r : WakeReport), (s.power.dstate = .standby ∧ s.power.waking = true ∧ r.bistFail = [] ∧ (s.retired 2 = false ∨ s.retired 3 = false)) →
        ∃ t, exec (.wakeSequenceComplete r) s = .next t ∧ (t.power.dstate = .ready ∧ t.power.waking = false ∧ t.power.readyAt = t.now))
    ∧ (∀ (b : Bool), s.power.dstate = .standby →
        ∃ t, exec (.standbyVlogLoss b) s = .next t ∧ (t.power.dstate = .off ∧ t.power.watchVlog = false ∧ t.pantry = s.pantry ∧ (b = true → t.times.cal = 0)))

/-! ### Loss of supply -/

/-- Whatever the units did, VLOG_WARNING and IGN_DELAY_EXPIRY leave every present unit off with no grant waiting (R622); RAIL_STATE_CHANGE to UV leaves every unit of its die off (R613, R614); RSTN_ASSERT leaves no unit record on (R618). It rests on the model's choices of assumption 127. -/
def Obligations.UnitsOffOnLossOfSupply : Prop :=
  ∀ (s : State) (u : Nat), (u < 56 ∧ s.unitPresent u = true) →
    (∀ (mv : Nat), (s.power.dstate = .ready ∨ s.power.dstate = .run ∨ s.power.dstate = .safe) →
        ∃ t, exec (.vlogWarning mv) s = .next t ∧ ((t.unitAt u).on = false ∧ (t.unitAt u).enabled = false ∧ (t.unitAt u).waiting = none))
    ∧ (∀ (a : Nat), (s.power.ignLowSince = some a ∧ s.ignActs = true) →
        ∃ t, exec (.ignDelayExpiry) s = .next t ∧ ((t.unitAt u).on = false ∧ (t.unitAt u).enabled = false ∧ (t.unitAt u).waiting = none))
    ∧ (∀ (mv : Nat), (s.awake = true ∧ unitDieB u = false ∧ s.power.railA ≠ .uv) →
        ∃ t, exec (.railStateChange false .uv mv) s = .next t ∧ (t.unitAt u).on = false)
    ∧ ((s.power.dstate ≠ .off ∧ s.power.dstate ≠ .standby ∧ s.power.dstate ≠ .shutdown) →
        ∃ t, exec (.rstnAssert) s = .next t ∧ (t.unitAt u).on = false)

/-! ### Single faults (19_faults.md) -/

/-- A detection latches its class, is remembered as the last, and is counted (R662 to R665), and its consequence follows: an island retired by its own faults, clocks, memory or checker (R648 to R659), units of a die off (R651), a unit retired by a
second mismatching frame (R648), a partition FAULTED by its heartbeat (R661), lanes decided (R652), a reset by VCORE; retries and tests are counted; coverage is reported (R669); TEST and RESET answer (R665, R670). It rests on the model's choices of assumptions 138, 141 and 139. -/
def Obligations.FaultsAreReported : Prop :=
  ∀ (s : State) (i n : Nat) (p : Phrase),
    (∀ (d : Detection), ((d.cls = 9 ∨ (d.cls = 8 ∧ d.detail = 0x51)) ∧ d.island = some n) →
        ∃ t, exec (.faultDetection d) s = .next t
          ∧ (d.cls ∈ t.faults.latch ∧ t.faults.lastCls = d.cls ∧ t.faults.lastIsl = n ∧ t.cnt "FLT_CNT" d.cls = (s.cnt "FLT_CNT" d.cls + 1) % 2 ^ 32)
          ∧ (t.islands = s.islands ∧ t.units = s.units ∧ t.parts = s.parts))
    ∧ (∀ (d : Detection), (d.cls = 14 ∧ d.island = some n ∧ n < 64 ∧ 4 ≤ n ∧ essential n = false ∧ s.retired n = false ∧ s.islandAbsent n = false) →
        ∃ t, exec (.faultDetection d) s = .next t ∧ (t.retired n = true ∧ 14 ∈ t.faults.latch ∧ t.faults.lastCls = 14 ∧ t.faults.lastIsl = n))
    ∧ (∀ (u ts : Nat),
        (u < 56 ∧ s.unitPresent u = true ∧ (s.unitAt u).retired = false ∧ max (s.unitAt u).phStart ((s.unitAt u).decaySince.getD 0) + 20000 ≤ max s.now ts ∧ Tab.get 0 s.faults.mism u = 0) →
        ∃ t, exec (.statusFrame u true false false ts) s = .next t ∧ (Tab.get 0 t.faults.mism u = 1 ∧ t.units = s.units ∧ t.now = max s.now ts))
    ∧ (∀ (u ts : Nat),
        (u < 56 ∧ s.unitPresent u = true ∧ (s.unitAt u).retired = false ∧ max (s.unitAt u).phStart ((s.unitAt u).decaySince.getD 0) + 20000 ≤ max s.now ts ∧ Tab.get 0 s.faults.mism u ≠ 0) →
        ∃ t, exec (.statusFrame u true false false ts) s = .next t ∧ ((t.unitAt u).retired = true ∧ (t.unitAt u).on = false ∧ t.faults.lastCls = 1 ∧ 1 ∈ t.faults.latch))
    ∧ (∀ (u ts : Nat), (u < 56 ∧ s.unitPresent u = true ∧ (s.unitAt u).retired = false) →
        ∃ t, exec (.statusFrame u false false false ts) s = .next t ∧ (Tab.get 0 t.faults.mism u = 0 ∧ t.units = s.units ∧ t.now = max s.now ts))
    ∧ ((48 ≤ n ∧ n < 64 ∧ s.retired n = false ∧ s.islandAbsent n = false) →
        ∃ t, exec (.seqWatchdog n) s = .next t ∧ (t.retired n = true ∧ t.faults.lastCls = 1 ∧ t.faults.lastIsl = n ∧ 1 ∈ t.faults.latch))
    ∧ (∀ (b : Bool), ((b = false ∨ s.hasDieB = true) ∧ Tab.get none s.faults.dieLast (if b then 1 else 0) = none ∧ s.safenLow = false) →
        ∃ t, exec (.dielinkFrameTimeout b) s = .next t ∧ (Tab.get none t.faults.dieLast (if b then 1 else 0) = some s.now ∧ t.faults.lastCls = 2 ∧ 2 ∈ t.faults.latch)
          ∧ (∀ u, u < 56 → s.unitPresent u = true → unitDieB u = b → (t.unitAt u).on = false ∧ (t.unitAt u).railHold = true))
    ∧ (∀ (b : Bool), (b = false ∨ s.hasDieB = true) →
        exec (.dielinkRetry b) s = .next (s.bump "DL_RETRY_CNT" (if b then 1 else 0)))
    ∧ ((s.retired 2 = false ∧ s.retired 3 = false ∧ s.faults.laneChk = none ∧ i ∉ s.faults.disputed) →
        exec (.phraseLaneCompare true (some i)) s = .next { s with faults := { s.faults with disputed := s.faults.disputed ++ [i], laneChk := some (s.now + 500000) } })
    ∧ (exec (.phraseLaneCompare false none) s = .next (s.tick "PHLANE" 0 100000))
    ∧ (∀ (a : Nat), (s.faults.laneChk = some a ∧ s.retired 2 = false ∧ s.retired 3 = false ∧ s.islandAbsent 2 = false ∧ s.islandAbsent 3 = false) →
        ∃ t, exec (.phraseLaneCheckDone true false) s = .next t
          ∧ (t.retired 2 = true ∧ t.retired 3 = false ∧ t.faults.laneChk = none ∧ t.now = max s.now a ∧ t.faults.lastCls = 5))
    ∧ (∀ (k : Nat), (1 ≤ n ∧ n < 64 ∧ 4 ≤ n ∧ essential n = false ∧ s.retired n = false ∧ s.islandAbsent n = false) →
        ∃ t, exec (.clockMonitorFault n true k) s = .next t ∧ (t.retired n = true ∧ t.faults.lastCls = 10 ∧ t.faults.lastIsl = n ∧ 10 ∈ t.faults.latch))
    ∧ (∀ (k : Nat), (islandKhz n * 98 ≤ k * 100 ∧ k * 100 ≤ islandKhz n * 102) →
        exec (.clockMonitorFault n false k) s = .next s)
    ∧ ((n < 64 ∧ 4 ≤ n ∧ essential n = false ∧ s.retired n = false ∧ s.islandAbsent n = false) →
        ∃ t, exec (.sramBackgroundPass n true) s = .next t ∧ (t.retired n = true ∧ t.faults.lastCls = 8 ∧ t.faults.lastIsl = n ∧ 8 ∈ t.faults.latch))
    ∧ (exec (.sramBackgroundPass n false) s = .next s)
    ∧ ((s.power.dstate ≠ .off ∧ s.power.dstate ≠ .standby) →
        ∃ t, exec (.regulatorOut .vcore) s = .next t ∧ (t.power.dstate = .boot ∧ t.power.cause = .poweron ∧ t.sess = [] ∧ t.units = []))
    ∧ ((Tab.get none s.faults.dieLast 0 = none ∧ s.safenLow = false) →
        ∃ t, exec (.regulatorOut .dieA) s = .next t
          ∧ (11 ∈ t.faults.latch ∧ t.faults.lastCls = 11 ∧ ∀ u, u < 56 → s.unitPresent u = true → unitDieB u = false → (t.unitAt u).on = false))
    ∧ (∃ t, exec (.checkerTest none) s = .next t
        ∧ (t.now = s.nextTick "CHECKER" 0 60000000000 ∧ t.cnt "CHKTEST_CNT" 0 = (s.cnt "CHKTEST_CNT" 0 + 1) % 2 ^ 32 ∧ t.faults = s.faults))
    ∧ ((n < 64 ∧ 4 ≤ n ∧ essential n = false ∧ s.retired n = false ∧ s.islandAbsent n = false) →
        ∃ t, exec (.checkerTest (some n)) s = .next t ∧ (t.retired n = true ∧ t.faults.lastCls = 13 ∧ t.faults.lastIsl = n))
    ∧ ((s.mayRun i p = true ∧ p.names .test .fault none ∧ p.attrs = [] ∧ s.accessErr i .test .fault none = []) →
        ∃ t, exec (.testFault i p none) s = .next t ∧ s.gave t i (replyLines p [[("result", "PASS"), ("checker", "NONE")]])
          ∧ (t.cnt "CHKTEST_CNT" 0 = (s.cnt "CHKTEST_CNT" 0 + 1) % 2 ^ 32 ∧ t.butReply s = s))
    ∧ ((s.mayRun i p = true ∧ p.names .reset .fault none ∧ p.attrs = [] ∧ s.accessErr i .reset .fault none = []) →
        ∃ t, exec (.resetFault i p) s = .next t ∧ (t.faults = { s.faults with latch := [] } ∧ { t.butReply s with faults := s.faults } = s))
    ∧ (∀ (us : Nat), (n < 4 ∧ (s.partAt n).state = .running ∧ s.natOpt .fault n "HBTIME" = some us ∧ s.power.dstate = .run) →
        ∃ t, exec (.hosthbExpiry n) s = .next t
          ∧ (t.now = max s.now (ceilDiv ((s.partAt n).hbStart + 1000 * us) 1000000 * 1000000) ∧ (t.partAt n).state = .faulted ∧ (t.partAt n).hbexp = (s.partAt n).hbexp + 1)
          ∧ (12 ∈ t.faults.latch ∧ t.faults.lastCls = 12))
    ∧ (∀ (b : Bool × List String) (c : Bool × List String), (s.faults.coverBase = some b ∧ s.faults.coverAt = none ∧ s.coverNow = c ∧ c ≠ b) →
        ∃ t, exec (.faultCoverEvent) s = .next t ∧ (t.faults.coverBase = some c ∧ t.faults.coverAt = some s.now ∧ t.now = s.now))
end

