-- ==== Sys2Proof/Laws/Tab.lean ====
section
/-!
SUPPORT. Sys2Proof/Laws/Tab.lean: reading after writing in the sparse table and the keyed map, and the canonical form that every write of the
table keeps.
-/
set_option Elab.async false

namespace Sys2Proof

theorem Tab.get_ins {α : Type} (d : α) (t : Tab α) (k j : Nat) (v : α) :
    Tab.get d (Tab.ins k v t) j = if k = j then v else Tab.get d t j := by
  induction t with
  | nil => rfl
  | cons p t ih =>
    obtain ⟨i, w⟩ := p
    simp only [Tab.ins]
    split
    · simp only [Tab.get]
    · split
      · subst i; simp only [Tab.get]; split <;> rfl
      · simp only [Tab.get, ih]
        split
        · split <;> simp_all
        · rfl

theorem Tab.get_del {α : Type} (d : α) (t : Tab α) (k j : Nat) :
    Tab.get d (Tab.del k t) j = if k = j then d else Tab.get d t j := by
  induction t with
  | nil => simp [Tab.del, Tab.get]
  | cons p t ih =>
    obtain ⟨i, w⟩ := p
    simp only [Tab.del]
    split
    · subst i; rw [ih]; simp only [Tab.get]; split <;> rfl
    · simp only [Tab.get, ih]
      split
      · split <;> simp_all
      · rfl

/-- Reading a table after a write. -/
@[simp] theorem Tab.get_set {α : Type} [DecidableEq α] (d : α) (t : Tab α) (k j : Nat) (v : α) :
    Tab.get d (Tab.set d t k v) j = if k = j then v else Tab.get d t j := by
  unfold Tab.set
  split
  · subst v; rw [Tab.get_del]
  · rw [Tab.get_ins]

@[simp] theorem Tab.get_nil {α : Type} (d : α) (k : Nat) : Tab.get d ([] : Tab α) k = d := rfl

theorem Tab.above_mono {α : Type} {j k : Nat} (t : Tab α) (h : j ≤ k) (ha : Tab.above k t = true) : Tab.above j t = true := by
  simp only [Tab.above, List.all_eq_true, decide_eq_true_eq] at *
  intro p hp
  have := ha p hp
  omega

theorem Tab.above_ins {α : Type} {j k : Nat} {v : α} (t : Tab α) (h : j < k) (ha : Tab.above j t = true) : Tab.above j (Tab.ins k v t) = true := by
  induction t with
  | nil => simpa [Tab.ins, Tab.above] using h
  | cons p t ih =>
    obtain ⟨i, w⟩ := p
    simp only [Tab.above, List.all_cons, Bool.and_eq_true, decide_eq_true_eq] at ha ih
    simp only [Tab.ins]
    split
    · simp only [Tab.above, List.all_cons, Bool.and_eq_true, decide_eq_true_eq]; exact ⟨h, ha⟩
    · split
      · simp only [Tab.above, List.all_cons, Bool.and_eq_true, decide_eq_true_eq]; exact ⟨h, ha.2⟩
      · simp only [Tab.above, List.all_cons, Bool.and_eq_true, decide_eq_true_eq]; exact ⟨ha.1, ih ha.2⟩

theorem Tab.above_del {α : Type} {j k : Nat} (t : Tab α) (ha : Tab.above j t = true) : Tab.above j (Tab.del k t) = true := by
  induction t with
  | nil => rfl
  | cons p t ih =>
    obtain ⟨i, w⟩ := p
    simp only [Tab.above, List.all_cons, Bool.and_eq_true, decide_eq_true_eq] at ha ih
    simp only [Tab.del]
    split
    · exact ih ha.2
    · simp only [Tab.above, List.all_cons, Bool.and_eq_true, decide_eq_true_eq]; exact ⟨ha.1, ih ha.2⟩

theorem Tab.wf_ins {α : Type} [DecidableEq α] (d : α) (t : Tab α) (k : Nat) (v : α) (hv : v ≠ d) (h : Tab.wf d t = true) :
    Tab.wf d (Tab.ins k v t) = true := by
  induction t with
  | nil => simp [Tab.ins, Tab.wf, Tab.above, hv]
  | cons p t ih =>
    obtain ⟨i, w⟩ := p
    simp only [Tab.wf, Bool.and_eq_true, decide_eq_true_eq] at h
    simp only [Tab.ins]
    split
    · rename_i hk
      simp only [Tab.wf, Bool.and_eq_true, decide_eq_true_eq, Tab.above, List.all_cons]
      exact ⟨⟨⟨hk, Tab.above_mono t (Nat.le_of_lt hk) h.1.1⟩, hv⟩, h⟩
    · split
      · rename_i hk; subst hk
        simp only [Tab.wf, Bool.and_eq_true, decide_eq_true_eq]
        exact ⟨⟨h.1.1, hv⟩, h.2⟩
      · simp only [Tab.wf, Bool.and_eq_true, decide_eq_true_eq]
        exact ⟨⟨Tab.above_ins t (by omega) h.1.1, h.1.2⟩, ih h.2⟩

theorem Tab.wf_del {α : Type} [DecidableEq α] (d : α) (t : Tab α) (k : Nat) (h : Tab.wf d t = true) : Tab.wf d (Tab.del k t) = true := by
  induction t with
  | nil => rfl
  | cons p t ih =>
    obtain ⟨i, w⟩ := p
    simp only [Tab.wf, Bool.and_eq_true, decide_eq_true_eq] at h
    simp only [Tab.del]
    split
    · exact ih h.2
    · simp only [Tab.wf, Bool.and_eq_true, decide_eq_true_eq]
      exact ⟨⟨Tab.above_del t h.1.1, h.1.2⟩, ih h.2⟩

/-- A write keeps the canonical form. -/
theorem Tab.wf_set {α : Type} [DecidableEq α] (d : α) (t : Tab α) (k : Nat) (v : α) (h : Tab.wf d t = true) : Tab.wf d (Tab.set d t k v) = true := by
  unfold Tab.set
  split
  · exact Tab.wf_del d t k h
  · exact Tab.wf_ins d t k v ‹_› h

/-- Reading a keyed map after a write. -/
@[simp] theorem AMap.find_put {κ α : Type} [DecidableEq κ] (k j : κ) (v : α) (m : AMap κ α) :
    AMap.find (AMap.put k v m) j = if k = j then some v else AMap.find m j := by
  induction m with
  | nil => simp [AMap.put, AMap.find]
  | cons p m ih =>
    obtain ⟨i, w⟩ := p
    simp only [AMap.put]
    split
    · subst i; simp only [AMap.find]; split <;> rfl
    · simp only [AMap.find, ih]
      split
      · split <;> simp_all
      · rfl

@[simp] theorem AMap.find_nil {κ α : Type} [DecidableEq κ] (k : κ) : AMap.find ([] : AMap κ α) k = none := rfl

/-- Reading a keyed map after taking a key out. -/
@[simp] theorem AMap.find_del {κ α : Type} [DecidableEq κ] (k j : κ) (m : AMap κ α) :
    AMap.find (AMap.del k m) j = if k = j then none else AMap.find m j := by
  induction m with
  | nil => simp [AMap.del, AMap.find]
  | cons p m ih =>
    obtain ⟨i, w⟩ := p
    simp only [AMap.del, List.filter_cons] at *
    split
    · rename_i h
      simp only [AMap.find, ih, Bool.not_eq_true', decide_eq_false_iff_not] at *
      split
      · split <;> simp_all
      · rfl
    · rename_i h
      simp only [Bool.not_eq_true', decide_eq_false_iff_not, Decidable.not_not] at h
      subst h
      rw [ih]; simp only [AMap.find]; split <;> rfl

end Sys2Proof
end

