-- ==== Sys2Proof/Laws/Memory.lean ====
section
/-!
SUPPORT. Sys2Proof/Laws/Memory.lean: the addressed memory of the block, its four staging windows: reading after writing, and the canonical form that every
memory operation keeps.
-/
set_option Elab.async false

namespace Sys2Proof.Machine

/-- Reading a window after one byte was written. -/
@[simp] theorem stageRead_stageWrite (c : List Host.Cell) (a j v : Nat) :
    stageRead (stageWrite c a v) j = if a = j then v % 256 else stageRead c j := by
  simp only [stageRead, stageWrite, Tab.get_set]
  split <;> simp [BitVec.toNat_ofNat]

@[simp] theorem stageRead_nil (a : Nat) : stageRead [] a = 0 := by simp [stageRead]

/-- Every read of a window is a byte. -/
theorem stageRead_lt (c : List Host.Cell) (a : Nat) : stageRead c a < 256 := (Tab.get (0 : BitVec 8) c a).isLt

/-- A written byte keeps the canonical form. -/
theorem wf_stageWrite (c : List Host.Cell) (a v : Nat) (h : Memory.wf c = true) : Memory.wf (stageWrite c a v) = true :=
  Tab.wf_set (0 : BitVec 8) c a (BitVec.ofNat 8 v) h

/-- Written bytes keep the canonical form. -/
theorem wf_stageWrites (bs : List Nat) (a : Nat) (c : List Host.Cell) (h : Memory.wf c = true) : Memory.wf (stageWrites bs a c) = true := by
  induction bs generalizing a c with
  | nil => exact h
  | cons b bs ih => exact ih (a + 1) (stageWrite c a b) (wf_stageWrite c a b h)

/-- Reading a window after bytes were written from an address on: inside them the byte written, outside what stood there. -/
theorem stageRead_stageWrites (bs : List Nat) (a j : Nat) (c : List Host.Cell) :
    stageRead (stageWrites bs a c) j = if a ≤ j ∧ j < a + bs.length then bs.getD (j - a) 0 % 256 else stageRead c j := by
  induction bs generalizing a c with
  | nil => simp only [stageWrites, List.length_nil, Nat.add_zero]; split; (rename_i h; omega); rfl
  | cons b bs ih =>
    simp only [stageWrites, ih, List.length_cons, stageRead_stageWrite]
    by_cases h1 : a = j
    · subst h1; simp only [if_true]; rw [if_neg (by omega), if_pos (by omega)]; simp
    · by_cases h2 : a + 1 ≤ j ∧ j < a + 1 + bs.length
      · rw [if_pos h2, if_pos (by omega)]
        obtain ⟨k, rfl⟩ : ∃ k, j = a + 1 + k := ⟨j - (a + 1), by omega⟩
        have e1 : a + 1 + k - (a + 1) = k := by omega
        have e2 : a + 1 + k - a = k + 1 := by omega
        rw [e1, e2]; simp
      · rw [if_neg h2, if_neg h1, if_neg (by omega)]

/-- A window that was replaced, and the others. -/
@[simp] theorem stage_setStage (s : State) (n m : Nat) (c : List Host.Cell) (hn : n < 4) (hm : m < 4) :
    (s.setStage n c).stage m = if m = n then c else s.stage m := by
  have h1 : n = 0 ∨ n = 1 ∨ n = 2 ∨ n = 3 := by omega
  have h2 : m = 0 ∨ m = 1 ∨ m = 2 ∨ m = 3 := by omega
  rcases h1 with rfl | rfl | rfl | rfl <;> rcases h2 with rfl | rfl | rfl | rfl <;> rfl

/-- Whatever leaves the cellar alone keeps the form of the windows. -/
theorem windowsWf_of_cellar (s t : State) (h : t.cellar = s.cellar) : t.windowsWf = s.windowsWf := by
  simp only [State.windowsWf, State.stage, h]

/-- A window replaced by one in canonical form keeps the form of all. -/
theorem windowsWf_setStage (s : State) (n : Nat) (c : List Host.Cell) (hn : n < 4) (hc : Memory.wf c = true) (h : s.windowsWf = true) :
    (s.setStage n c).windowsWf = true := by
  simp only [State.windowsWf, List.all_eq_true, List.mem_range] at *
  intro m hm
  rw [stage_setStage s n m c hn hm]
  split
  · exact hc
  · exact h m hm

end Sys2Proof.Machine
end

