-- ==== Sys2Proof/Laws/State.lean ====
section
/-!
SUPPORT. Sys2Proof/Laws/State.lean: for each named write of the state, what every field reads afterwards. All by unfolding one definition; later
proofs cite these and unfold no record.
-/
set_option Elab.async false

namespace Sys2Proof.Machine

variable (s : State)

/-! ### setSess -/

@[simp] theorem State.setSess_pending (i : Nat) (x : Session) : (s.setSess i x).pending = s.pending := rfl
@[simp] theorem State.setSess_power (i : Nat) (x : Session) : (s.setSess i x).power = s.power := rfl
@[simp] theorem State.setSess_times (i : Nat) (x : Session) : (s.setSess i x).times = s.times := rfl
@[simp] theorem State.setSess_routed (i : Nat) (x : Session) : (s.setSess i x).routed = s.routed := rfl
@[simp] theorem State.setSess_cfg (i : Nat) (x : Session) : (s.setSess i x).cfg = s.cfg := rfl
@[simp] theorem State.setSess_cnts (i : Nat) (x : Session) : (s.setSess i x).cnts = s.cnts := rfl
@[simp] theorem State.setSess_parts (i : Nat) (x : Session) : (s.setSess i x).parts = s.parts := rfl
@[simp] theorem State.setSess_own (i : Nat) (x : Session) : (s.setSess i x).own = s.own := rfl
@[simp] theorem State.setSess_ownlock (i : Nat) (x : Session) : (s.setSess i x).ownlock = s.ownlock := rfl
@[simp] theorem State.setSess_pinlock (i : Nat) (x : Session) : (s.setSess i x).pinlock = s.pinlock := rfl
@[simp] theorem State.setSess_key0 (i : Nat) (x : Session) : (s.setSess i x).key0 = s.key0 := rfl
@[simp] theorem State.setSess_authFails (i : Nat) (x : Session) : (s.setSess i x).authFails = s.authFails := rfl
@[simp] theorem State.setSess_lockoutEnd (i : Nat) (x : Session) : (s.setSess i x).lockoutEnd = s.lockoutEnd := rfl
@[simp] theorem State.setSess_islands (i : Nat) (x : Session) : (s.setSess i x).islands = s.islands := rfl
@[simp] theorem State.setSess_safenLow (i : Nat) (x : Session) : (s.setSess i x).safenLow = s.safenLow := rfl
@[simp] theorem State.setSess_attic (i : Nat) (x : Session) : (s.setSess i x).attic = s.attic := rfl
@[simp] theorem State.setSess_trace (i : Nat) (x : Session) : (s.setSess i x).trace = s.trace := rfl
@[simp] theorem State.setSess_faults (i : Nat) (x : Session) : (s.setSess i x).faults = s.faults := rfl
@[simp] theorem State.setSess_units (i : Nat) (x : Session) : (s.setSess i x).units = s.units := rfl
@[simp] theorem State.setSess_grants (i : Nat) (x : Session) : (s.setSess i x).grants = s.grants := rfl
@[simp] theorem State.setSess_impls (i : Nat) (x : Session) : (s.setSess i x).impls = s.impls := rfl
@[simp] theorem State.setSess_secs (i : Nat) (x : Session) : (s.setSess i x).secs = s.secs := rfl
@[simp] theorem State.setSess_odos (i : Nat) (x : Session) : (s.setSess i x).odos = s.odos := rfl
@[simp] theorem State.setSess_ssps (i : Nat) (x : Session) : (s.setSess i x).ssps = s.ssps := rfl
@[simp] theorem State.setSess_prods (i : Nat) (x : Session) : (s.setSess i x).prods = s.prods := rfl
@[simp] theorem State.setSess_cellar (i : Nat) (x : Session) : (s.setSess i x).cellar = s.cellar := rfl
@[simp] theorem State.setSess_larder (i : Nat) (x : Session) : (s.setSess i x).larder = s.larder := rfl
@[simp] theorem State.setSess_pantry (i : Nat) (x : Session) : (s.setSess i x).pantry = s.pantry := rfl
@[simp] theorem State.setSess_cans (i : Nat) (x : Session) : (s.setSess i x).cans = s.cans := rfl
@[simp] theorem State.setSess_peer (i : Nat) (x : Session) : (s.setSess i x).peer = s.peer := rfl
@[simp] theorem State.setSess_uarts (i : Nat) (x : Session) : (s.setSess i x).uarts = s.uarts := rfl
@[simp] theorem State.setSess_spi (i : Nat) (x : Session) : (s.setSess i x).spi = s.spi := rfl
@[simp] theorem State.setSess_i2cs (i : Nat) (x : Session) : (s.setSess i x).i2cs = s.i2cs := rfl
@[simp] theorem State.setSess_pins (i : Nat) (x : Session) : (s.setSess i x).pins = s.pins := rfl
@[simp] theorem State.setSess_gnss (i : Nat) (x : Session) : (s.setSess i x).gnss = s.gnss := rfl
@[simp] theorem State.setSess_lastTick (i : Nat) (x : Session) : (s.setSess i x).lastTick = s.lastTick := rfl
@[simp] theorem State.setSess_freeIx (i : Nat) (x : Session) : (s.setSess i x).freeIx = s.freeIx := rfl
@[simp] theorem State.setSess_sessAt_same (i : Nat) (x : Session) : (s.setSess i x).sessAt i = x := by simp [State.setSess, State.sessAt]
theorem State.setSess_sessAt (i : Nat) (x : Session) (j : Nat) : (s.setSess i x).sessAt j = if i = j then x else s.sessAt j := by simp [State.setSess, State.sessAt]
@[simp] theorem State.setSess_partAt (i : Nat) (x : Session) (j : Nat) : (s.setSess i x).partAt j = s.partAt j := rfl
@[simp] theorem State.setSess_unitAt (i : Nat) (x : Session) (j : Nat) : (s.setSess i x).unitAt j = s.unitAt j := rfl
@[simp] theorem State.setSess_implAt (i : Nat) (x : Session) (j : Nat) : (s.setSess i x).implAt j = s.implAt j := rfl
@[simp] theorem State.setSess_secAt (i : Nat) (x : Session) (j : Nat) : (s.setSess i x).secAt j = s.secAt j := rfl
@[simp] theorem State.setSess_odoAt (i : Nat) (x : Session) (j : Nat) : (s.setSess i x).odoAt j = s.odoAt j := rfl
@[simp] theorem State.setSess_sspAt (i : Nat) (x : Session) (j : Nat) : (s.setSess i x).sspAt j = s.sspAt j := rfl
@[simp] theorem State.setSess_prodAt (i : Nat) (x : Session) (j : Nat) : (s.setSess i x).prodAt j = s.prodAt j := rfl
@[simp] theorem State.setSess_now (i : Nat) (x : Session) : (s.setSess i x).now = s.now := rfl

/-! ### setPart -/

@[simp] theorem State.setPart_pending (i : Nat) (x : Part) : (s.setPart i x).pending = s.pending := rfl
@[simp] theorem State.setPart_power (i : Nat) (x : Part) : (s.setPart i x).power = s.power := rfl
@[simp] theorem State.setPart_times (i : Nat) (x : Part) : (s.setPart i x).times = s.times := rfl
@[simp] theorem State.setPart_sess (i : Nat) (x : Part) : (s.setPart i x).sess = s.sess := rfl
@[simp] theorem State.setPart_routed (i : Nat) (x : Part) : (s.setPart i x).routed = s.routed := rfl
@[simp] theorem State.setPart_cfg (i : Nat) (x : Part) : (s.setPart i x).cfg = s.cfg := rfl
@[simp] theorem State.setPart_cnts (i : Nat) (x : Part) : (s.setPart i x).cnts = s.cnts := rfl
@[simp] theorem State.setPart_own (i : Nat) (x : Part) : (s.setPart i x).own = s.own := rfl
@[simp] theorem State.setPart_ownlock (i : Nat) (x : Part) : (s.setPart i x).ownlock = s.ownlock := rfl
@[simp] theorem State.setPart_pinlock (i : Nat) (x : Part) : (s.setPart i x).pinlock = s.pinlock := rfl
@[simp] theorem State.setPart_key0 (i : Nat) (x : Part) : (s.setPart i x).key0 = s.key0 := rfl
@[simp] theorem State.setPart_authFails (i : Nat) (x : Part) : (s.setPart i x).authFails = s.authFails := rfl
@[simp] theorem State.setPart_lockoutEnd (i : Nat) (x : Part) : (s.setPart i x).lockoutEnd = s.lockoutEnd := rfl
@[simp] theorem State.setPart_islands (i : Nat) (x : Part) : (s.setPart i x).islands = s.islands := rfl
@[simp] theorem State.setPart_safenLow (i : Nat) (x : Part) : (s.setPart i x).safenLow = s.safenLow := rfl
@[simp] theorem State.setPart_attic (i : Nat) (x : Part) : (s.setPart i x).attic = s.attic := rfl
@[simp] theorem State.setPart_trace (i : Nat) (x : Part) : (s.setPart i x).trace = s.trace := rfl
@[simp] theorem State.setPart_faults (i : Nat) (x : Part) : (s.setPart i x).faults = s.faults := rfl
@[simp] theorem State.setPart_units (i : Nat) (x : Part) : (s.setPart i x).units = s.units := rfl
@[simp] theorem State.setPart_grants (i : Nat) (x : Part) : (s.setPart i x).grants = s.grants := rfl
@[simp] theorem State.setPart_impls (i : Nat) (x : Part) : (s.setPart i x).impls = s.impls := rfl
@[simp] theorem State.setPart_secs (i : Nat) (x : Part) : (s.setPart i x).secs = s.secs := rfl
@[simp] theorem State.setPart_odos (i : Nat) (x : Part) : (s.setPart i x).odos = s.odos := rfl
@[simp] theorem State.setPart_ssps (i : Nat) (x : Part) : (s.setPart i x).ssps = s.ssps := rfl
@[simp] theorem State.setPart_prods (i : Nat) (x : Part) : (s.setPart i x).prods = s.prods := rfl
@[simp] theorem State.setPart_cellar (i : Nat) (x : Part) : (s.setPart i x).cellar = s.cellar := rfl
@[simp] theorem State.setPart_larder (i : Nat) (x : Part) : (s.setPart i x).larder = s.larder := rfl
@[simp] theorem State.setPart_pantry (i : Nat) (x : Part) : (s.setPart i x).pantry = s.pantry := rfl
@[simp] theorem State.setPart_cans (i : Nat) (x : Part) : (s.setPart i x).cans = s.cans := rfl
@[simp] theorem State.setPart_peer (i : Nat) (x : Part) : (s.setPart i x).peer = s.peer := rfl
@[simp] theorem State.setPart_uarts (i : Nat) (x : Part) : (s.setPart i x).uarts = s.uarts := rfl
@[simp] theorem State.setPart_spi (i : Nat) (x : Part) : (s.setPart i x).spi = s.spi := rfl
@[simp] theorem State.setPart_i2cs (i : Nat) (x : Part) : (s.setPart i x).i2cs = s.i2cs := rfl
@[simp] theorem State.setPart_pins (i : Nat) (x : Part) : (s.setPart i x).pins = s.pins := rfl
@[simp] theorem State.setPart_gnss (i : Nat) (x : Part) : (s.setPart i x).gnss = s.gnss := rfl
@[simp] theorem State.setPart_lastTick (i : Nat) (x : Part) : (s.setPart i x).lastTick = s.lastTick := rfl
@[simp] theorem State.setPart_freeIx (i : Nat) (x : Part) : (s.setPart i x).freeIx = s.freeIx := rfl
@[simp] theorem State.setPart_partAt_same (i : Nat) (x : Part) : (s.setPart i x).partAt i = x := by simp [State.setPart, State.partAt]
theorem State.setPart_partAt (i : Nat) (x : Part) (j : Nat) : (s.setPart i x).partAt j = if i = j then x else s.partAt j := by simp [State.setPart, State.partAt]
@[simp] theorem State.setPart_sessAt (i : Nat) (x : Part) (j : Nat) : (s.setPart i x).sessAt j = s.sessAt j := rfl
@[simp] theorem State.setPart_unitAt (i : Nat) (x : Part) (j : Nat) : (s.setPart i x).unitAt j = s.unitAt j := rfl
@[simp] theorem State.setPart_implAt (i : Nat) (x : Part) (j : Nat) : (s.setPart i x).implAt j = s.implAt j := rfl
@[simp] theorem State.setPart_secAt (i : Nat) (x : Part) (j : Nat) : (s.setPart i x).secAt j = s.secAt j := rfl
@[simp] theorem State.setPart_odoAt (i : Nat) (x : Part) (j : Nat) : (s.setPart i x).odoAt j = s.odoAt j := rfl
@[simp] theorem State.setPart_sspAt (i : Nat) (x : Part) (j : Nat) : (s.setPart i x).sspAt j = s.sspAt j := rfl
@[simp] theorem State.setPart_prodAt (i : Nat) (x : Part) (j : Nat) : (s.setPart i x).prodAt j = s.prodAt j := rfl
@[simp] theorem State.setPart_now (i : Nat) (x : Part) : (s.setPart i x).now = s.now := rfl

/-! ### setUnit -/

@[simp] theorem State.setUnit_pending (i : Nat) (x : Unit_) : (s.setUnit i x).pending = s.pending := rfl
@[simp] theorem State.setUnit_power (i : Nat) (x : Unit_) : (s.setUnit i x).power = s.power := rfl
@[simp] theorem State.setUnit_times (i : Nat) (x : Unit_) : (s.setUnit i x).times = s.times := rfl
@[simp] theorem State.setUnit_sess (i : Nat) (x : Unit_) : (s.setUnit i x).sess = s.sess := rfl
@[simp] theorem State.setUnit_routed (i : Nat) (x : Unit_) : (s.setUnit i x).routed = s.routed := rfl
@[simp] theorem State.setUnit_cfg (i : Nat) (x : Unit_) : (s.setUnit i x).cfg = s.cfg := rfl
@[simp] theorem State.setUnit_cnts (i : Nat) (x : Unit_) : (s.setUnit i x).cnts = s.cnts := rfl
@[simp] theorem State.setUnit_parts (i : Nat) (x : Unit_) : (s.setUnit i x).parts = s.parts := rfl
@[simp] theorem State.setUnit_own (i : Nat) (x : Unit_) : (s.setUnit i x).own = s.own := rfl
@[simp] theorem State.setUnit_ownlock (i : Nat) (x : Unit_) : (s.setUnit i x).ownlock = s.ownlock := rfl
@[simp] theorem State.setUnit_pinlock (i : Nat) (x : Unit_) : (s.setUnit i x).pinlock = s.pinlock := rfl
@[simp] theorem State.setUnit_key0 (i : Nat) (x : Unit_) : (s.setUnit i x).key0 = s.key0 := rfl
@[simp] theorem State.setUnit_authFails (i : Nat) (x : Unit_) : (s.setUnit i x).authFails = s.authFails := rfl
@[simp] theorem State.setUnit_lockoutEnd (i : Nat) (x : Unit_) : (s.setUnit i x).lockoutEnd = s.lockoutEnd := rfl
@[simp] theorem State.setUnit_islands (i : Nat) (x : Unit_) : (s.setUnit i x).islands = s.islands := rfl
@[simp] theorem State.setUnit_safenLow (i : Nat) (x : Unit_) : (s.setUnit i x).safenLow = s.safenLow := rfl
@[simp] theorem State.setUnit_attic (i : Nat) (x : Unit_) : (s.setUnit i x).attic = s.attic := rfl
@[simp] theorem State.setUnit_trace (i : Nat) (x : Unit_) : (s.setUnit i x).trace = s.trace := rfl
@[simp] theorem State.setUnit_faults (i : Nat) (x : Unit_) : (s.setUnit i x).faults = s.faults := rfl
@[simp] theorem State.setUnit_grants (i : Nat) (x : Unit_) : (s.setUnit i x).grants = s.grants := rfl
@[simp] theorem State.setUnit_impls (i : Nat) (x : Unit_) : (s.setUnit i x).impls = s.impls := rfl
@[simp] theorem State.setUnit_secs (i : Nat) (x : Unit_) : (s.setUnit i x).secs = s.secs := rfl
@[simp] theorem State.setUnit_odos (i : Nat) (x : Unit_) : (s.setUnit i x).odos = s.odos := rfl
@[simp] theorem State.setUnit_ssps (i : Nat) (x : Unit_) : (s.setUnit i x).ssps = s.ssps := rfl
@[simp] theorem State.setUnit_prods (i : Nat) (x : Unit_) : (s.setUnit i x).prods = s.prods := rfl
@[simp] theorem State.setUnit_cellar (i : Nat) (x : Unit_) : (s.setUnit i x).cellar = s.cellar := rfl
@[simp] theorem State.setUnit_larder (i : Nat) (x : Unit_) : (s.setUnit i x).larder = s.larder := rfl
@[simp] theorem State.setUnit_pantry (i : Nat) (x : Unit_) : (s.setUnit i x).pantry = s.pantry := rfl
@[simp] theorem State.setUnit_cans (i : Nat) (x : Unit_) : (s.setUnit i x).cans = s.cans := rfl
@[simp] theorem State.setUnit_peer (i : Nat) (x : Unit_) : (s.setUnit i x).peer = s.peer := rfl
@[simp] theorem State.setUnit_uarts (i : Nat) (x : Unit_) : (s.setUnit i x).uarts = s.uarts := rfl
@[simp] theorem State.setUnit_spi (i : Nat) (x : Unit_) : (s.setUnit i x).spi = s.spi := rfl
@[simp] theorem State.setUnit_i2cs (i : Nat) (x : Unit_) : (s.setUnit i x).i2cs = s.i2cs := rfl
@[simp] theorem State.setUnit_pins (i : Nat) (x : Unit_) : (s.setUnit i x).pins = s.pins := rfl
@[simp] theorem State.setUnit_gnss (i : Nat) (x : Unit_) : (s.setUnit i x).gnss = s.gnss := rfl
@[simp] theorem State.setUnit_lastTick (i : Nat) (x : Unit_) : (s.setUnit i x).lastTick = s.lastTick := rfl
@[simp] theorem State.setUnit_freeIx (i : Nat) (x : Unit_) : (s.setUnit i x).freeIx = s.freeIx := rfl
@[simp] theorem State.setUnit_unitAt_same (i : Nat) (x : Unit_) : (s.setUnit i x).unitAt i = x := by simp [State.setUnit, State.unitAt]
theorem State.setUnit_unitAt (i : Nat) (x : Unit_) (j : Nat) : (s.setUnit i x).unitAt j = if i = j then x else s.unitAt j := by simp [State.setUnit, State.unitAt]
@[simp] theorem State.setUnit_sessAt (i : Nat) (x : Unit_) (j : Nat) : (s.setUnit i x).sessAt j = s.sessAt j := rfl
@[simp] theorem State.setUnit_partAt (i : Nat) (x : Unit_) (j : Nat) : (s.setUnit i x).partAt j = s.partAt j := rfl
@[simp] theorem State.setUnit_implAt (i : Nat) (x : Unit_) (j : Nat) : (s.setUnit i x).implAt j = s.implAt j := rfl
@[simp] theorem State.setUnit_secAt (i : Nat) (x : Unit_) (j : Nat) : (s.setUnit i x).secAt j = s.secAt j := rfl
@[simp] theorem State.setUnit_odoAt (i : Nat) (x : Unit_) (j : Nat) : (s.setUnit i x).odoAt j = s.odoAt j := rfl
@[simp] theorem State.setUnit_sspAt (i : Nat) (x : Unit_) (j : Nat) : (s.setUnit i x).sspAt j = s.sspAt j := rfl
@[simp] theorem State.setUnit_prodAt (i : Nat) (x : Unit_) (j : Nat) : (s.setUnit i x).prodAt j = s.prodAt j := rfl
@[simp] theorem State.setUnit_now (i : Nat) (x : Unit_) : (s.setUnit i x).now = s.now := rfl

/-! ### setImpl -/

@[simp] theorem State.setImpl_pending (i : Nat) (x : Impl) : (s.setImpl i x).pending = s.pending := rfl
@[simp] theorem State.setImpl_power (i : Nat) (x : Impl) : (s.setImpl i x).power = s.power := rfl
@[simp] theorem State.setImpl_times (i : Nat) (x : Impl) : (s.setImpl i x).times = s.times := rfl
@[simp] theorem State.setImpl_sess (i : Nat) (x : Impl) : (s.setImpl i x).sess = s.sess := rfl
@[simp] theorem State.setImpl_routed (i : Nat) (x : Impl) : (s.setImpl i x).routed = s.routed := rfl
@[simp] theorem State.setImpl_cfg (i : Nat) (x : Impl) : (s.setImpl i x).cfg = s.cfg := rfl
@[simp] theorem State.setImpl_cnts (i : Nat) (x : Impl) : (s.setImpl i x).cnts = s.cnts := rfl
@[simp] theorem State.setImpl_parts (i : Nat) (x : Impl) : (s.setImpl i x).parts = s.parts := rfl
@[simp] theorem State.setImpl_own (i : Nat) (x : Impl) : (s.setImpl i x).own = s.own := rfl
@[simp] theorem State.setImpl_ownlock (i : Nat) (x : Impl) : (s.setImpl i x).ownlock = s.ownlock := rfl
@[simp] theorem State.setImpl_pinlock (i : Nat) (x : Impl) : (s.setImpl i x).pinlock = s.pinlock := rfl
@[simp] theorem State.setImpl_key0 (i : Nat) (x : Impl) : (s.setImpl i x).key0 = s.key0 := rfl
@[simp] theorem State.setImpl_authFails (i : Nat) (x : Impl) : (s.setImpl i x).authFails = s.authFails := rfl
@[simp] theorem State.setImpl_lockoutEnd (i : Nat) (x : Impl) : (s.setImpl i x).lockoutEnd = s.lockoutEnd := rfl
@[simp] theorem State.setImpl_islands (i : Nat) (x : Impl) : (s.setImpl i x).islands = s.islands := rfl
@[simp] theorem State.setImpl_safenLow (i : Nat) (x : Impl) : (s.setImpl i x).safenLow = s.safenLow := rfl
@[simp] theorem State.setImpl_attic (i : Nat) (x : Impl) : (s.setImpl i x).attic = s.attic := rfl
@[simp] theorem State.setImpl_trace (i : Nat) (x : Impl) : (s.setImpl i x).trace = s.trace := rfl
@[simp] theorem State.setImpl_faults (i : Nat) (x : Impl) : (s.setImpl i x).faults = s.faults := rfl
@[simp] theorem State.setImpl_units (i : Nat) (x : Impl) : (s.setImpl i x).units = s.units := rfl
@[simp] theorem State.setImpl_grants (i : Nat) (x : Impl) : (s.setImpl i x).grants = s.grants := rfl
@[simp] theorem State.setImpl_secs (i : Nat) (x : Impl) : (s.setImpl i x).secs = s.secs := rfl
@[simp] theorem State.setImpl_odos (i : Nat) (x : Impl) : (s.setImpl i x).odos = s.odos := rfl
@[simp] theorem State.setImpl_ssps (i : Nat) (x : Impl) : (s.setImpl i x).ssps = s.ssps := rfl
@[simp] theorem State.setImpl_prods (i : Nat) (x : Impl) : (s.setImpl i x).prods = s.prods := rfl
@[simp] theorem State.setImpl_cellar (i : Nat) (x : Impl) : (s.setImpl i x).cellar = s.cellar := rfl
@[simp] theorem State.setImpl_larder (i : Nat) (x : Impl) : (s.setImpl i x).larder = s.larder := rfl
@[simp] theorem State.setImpl_pantry (i : Nat) (x : Impl) : (s.setImpl i x).pantry = s.pantry := rfl
@[simp] theorem State.setImpl_cans (i : Nat) (x : Impl) : (s.setImpl i x).cans = s.cans := rfl
@[simp] theorem State.setImpl_peer (i : Nat) (x : Impl) : (s.setImpl i x).peer = s.peer := rfl
@[simp] theorem State.setImpl_uarts (i : Nat) (x : Impl) : (s.setImpl i x).uarts = s.uarts := rfl
@[simp] theorem State.setImpl_spi (i : Nat) (x : Impl) : (s.setImpl i x).spi = s.spi := rfl
@[simp] theorem State.setImpl_i2cs (i : Nat) (x : Impl) : (s.setImpl i x).i2cs = s.i2cs := rfl
@[simp] theorem State.setImpl_pins (i : Nat) (x : Impl) : (s.setImpl i x).pins = s.pins := rfl
@[simp] theorem State.setImpl_gnss (i : Nat) (x : Impl) : (s.setImpl i x).gnss = s.gnss := rfl
@[simp] theorem State.setImpl_lastTick (i : Nat) (x : Impl) : (s.setImpl i x).lastTick = s.lastTick := rfl
@[simp] theorem State.setImpl_freeIx (i : Nat) (x : Impl) : (s.setImpl i x).freeIx = s.freeIx := rfl
@[simp] theorem State.setImpl_implAt_same (i : Nat) (x : Impl) : (s.setImpl i x).implAt i = x := by simp [State.setImpl, State.implAt]
theorem State.setImpl_implAt (i : Nat) (x : Impl) (j : Nat) : (s.setImpl i x).implAt j = if i = j then x else s.implAt j := by simp [State.setImpl, State.implAt]
@[simp] theorem State.setImpl_sessAt (i : Nat) (x : Impl) (j : Nat) : (s.setImpl i x).sessAt j = s.sessAt j := rfl
@[simp] theorem State.setImpl_partAt (i : Nat) (x : Impl) (j : Nat) : (s.setImpl i x).partAt j = s.partAt j := rfl
@[simp] theorem State.setImpl_unitAt (i : Nat) (x : Impl) (j : Nat) : (s.setImpl i x).unitAt j = s.unitAt j := rfl
@[simp] theorem State.setImpl_secAt (i : Nat) (x : Impl) (j : Nat) : (s.setImpl i x).secAt j = s.secAt j := rfl
@[simp] theorem State.setImpl_odoAt (i : Nat) (x : Impl) (j : Nat) : (s.setImpl i x).odoAt j = s.odoAt j := rfl
@[simp] theorem State.setImpl_sspAt (i : Nat) (x : Impl) (j : Nat) : (s.setImpl i x).sspAt j = s.sspAt j := rfl
@[simp] theorem State.setImpl_prodAt (i : Nat) (x : Impl) (j : Nat) : (s.setImpl i x).prodAt j = s.prodAt j := rfl
@[simp] theorem State.setImpl_now (i : Nat) (x : Impl) : (s.setImpl i x).now = s.now := rfl

/-! ### setSec -/

@[simp] theorem State.setSec_pending (i : Nat) (x : Sec) : (s.setSec i x).pending = s.pending := rfl
@[simp] theorem State.setSec_power (i : Nat) (x : Sec) : (s.setSec i x).power = s.power := rfl
@[simp] theorem State.setSec_times (i : Nat) (x : Sec) : (s.setSec i x).times = s.times := rfl
@[simp] theorem State.setSec_sess (i : Nat) (x : Sec) : (s.setSec i x).sess = s.sess := rfl
@[simp] theorem State.setSec_routed (i : Nat) (x : Sec) : (s.setSec i x).routed = s.routed := rfl
@[simp] theorem State.setSec_cfg (i : Nat) (x : Sec) : (s.setSec i x).cfg = s.cfg := rfl
@[simp] theorem State.setSec_cnts (i : Nat) (x : Sec) : (s.setSec i x).cnts = s.cnts := rfl
@[simp] theorem State.setSec_parts (i : Nat) (x : Sec) : (s.setSec i x).parts = s.parts := rfl
@[simp] theorem State.setSec_own (i : Nat) (x : Sec) : (s.setSec i x).own = s.own := rfl
@[simp] theorem State.setSec_ownlock (i : Nat) (x : Sec) : (s.setSec i x).ownlock = s.ownlock := rfl
@[simp] theorem State.setSec_pinlock (i : Nat) (x : Sec) : (s.setSec i x).pinlock = s.pinlock := rfl
@[simp] theorem State.setSec_key0 (i : Nat) (x : Sec) : (s.setSec i x).key0 = s.key0 := rfl
@[simp] theorem State.setSec_authFails (i : Nat) (x : Sec) : (s.setSec i x).authFails = s.authFails := rfl
@[simp] theorem State.setSec_lockoutEnd (i : Nat) (x : Sec) : (s.setSec i x).lockoutEnd = s.lockoutEnd := rfl
@[simp] theorem State.setSec_islands (i : Nat) (x : Sec) : (s.setSec i x).islands = s.islands := rfl
@[simp] theorem State.setSec_safenLow (i : Nat) (x : Sec) : (s.setSec i x).safenLow = s.safenLow := rfl
@[simp] theorem State.setSec_attic (i : Nat) (x : Sec) : (s.setSec i x).attic = s.attic := rfl
@[simp] theorem State.setSec_trace (i : Nat) (x : Sec) : (s.setSec i x).trace = s.trace := rfl
@[simp] theorem State.setSec_faults (i : Nat) (x : Sec) : (s.setSec i x).faults = s.faults := rfl
@[simp] theorem State.setSec_units (i : Nat) (x : Sec) : (s.setSec i x).units = s.units := rfl
@[simp] theorem State.setSec_grants (i : Nat) (x : Sec) : (s.setSec i x).grants = s.grants := rfl
@[simp] theorem State.setSec_impls (i : Nat) (x : Sec) : (s.setSec i x).impls = s.impls := rfl
@[simp] theorem State.setSec_odos (i : Nat) (x : Sec) : (s.setSec i x).odos = s.odos := rfl
@[simp] theorem State.setSec_ssps (i : Nat) (x : Sec) : (s.setSec i x).ssps = s.ssps := rfl
@[simp] theorem State.setSec_prods (i : Nat) (x : Sec) : (s.setSec i x).prods = s.prods := rfl
@[simp] theorem State.setSec_cellar (i : Nat) (x : Sec) : (s.setSec i x).cellar = s.cellar := rfl
@[simp] theorem State.setSec_larder (i : Nat) (x : Sec) : (s.setSec i x).larder = s.larder := rfl
@[simp] theorem State.setSec_pantry (i : Nat) (x : Sec) : (s.setSec i x).pantry = s.pantry := rfl
@[simp] theorem State.setSec_cans (i : Nat) (x : Sec) : (s.setSec i x).cans = s.cans := rfl
@[simp] theorem State.setSec_peer (i : Nat) (x : Sec) : (s.setSec i x).peer = s.peer := rfl
@[simp] theorem State.setSec_uarts (i : Nat) (x : Sec) : (s.setSec i x).uarts = s.uarts := rfl
@[simp] theorem State.setSec_spi (i : Nat) (x : Sec) : (s.setSec i x).spi = s.spi := rfl
@[simp] theorem State.setSec_i2cs (i : Nat) (x : Sec) : (s.setSec i x).i2cs = s.i2cs := rfl
@[simp] theorem State.setSec_pins (i : Nat) (x : Sec) : (s.setSec i x).pins = s.pins := rfl
@[simp] theorem State.setSec_gnss (i : Nat) (x : Sec) : (s.setSec i x).gnss = s.gnss := rfl
@[simp] theorem State.setSec_lastTick (i : Nat) (x : Sec) : (s.setSec i x).lastTick = s.lastTick := rfl
@[simp] theorem State.setSec_freeIx (i : Nat) (x : Sec) : (s.setSec i x).freeIx = s.freeIx := rfl
@[simp] theorem State.setSec_secAt_same (i : Nat) (x : Sec) : (s.setSec i x).secAt i = x := by simp [State.setSec, State.secAt]
theorem State.setSec_secAt (i : Nat) (x : Sec) (j : Nat) : (s.setSec i x).secAt j = if i = j then x else s.secAt j := by simp [State.setSec, State.secAt]
@[simp] theorem State.setSec_sessAt (i : Nat) (x : Sec) (j : Nat) : (s.setSec i x).sessAt j = s.sessAt j := rfl
@[simp] theorem State.setSec_partAt (i : Nat) (x : Sec) (j : Nat) : (s.setSec i x).partAt j = s.partAt j := rfl
@[simp] theorem State.setSec_unitAt (i : Nat) (x : Sec) (j : Nat) : (s.setSec i x).unitAt j = s.unitAt j := rfl
@[simp] theorem State.setSec_implAt (i : Nat) (x : Sec) (j : Nat) : (s.setSec i x).implAt j = s.implAt j := rfl
@[simp] theorem State.setSec_odoAt (i : Nat) (x : Sec) (j : Nat) : (s.setSec i x).odoAt j = s.odoAt j := rfl
@[simp] theorem State.setSec_sspAt (i : Nat) (x : Sec) (j : Nat) : (s.setSec i x).sspAt j = s.sspAt j := rfl
@[simp] theorem State.setSec_prodAt (i : Nat) (x : Sec) (j : Nat) : (s.setSec i x).prodAt j = s.prodAt j := rfl
@[simp] theorem State.setSec_now (i : Nat) (x : Sec) : (s.setSec i x).now = s.now := rfl

/-! ### setOdo -/

@[simp] theorem State.setOdo_pending (i : Nat) (x : Odo) : (s.setOdo i x).pending = s.pending := rfl
@[simp] theorem State.setOdo_power (i : Nat) (x : Odo) : (s.setOdo i x).power = s.power := rfl
@[simp] theorem State.setOdo_times (i : Nat) (x : Odo) : (s.setOdo i x).times = s.times := rfl
@[simp] theorem State.setOdo_sess (i : Nat) (x : Odo) : (s.setOdo i x).sess = s.sess := rfl
@[simp] theorem State.setOdo_routed (i : Nat) (x : Odo) : (s.setOdo i x).routed = s.routed := rfl
@[simp] theorem State.setOdo_cfg (i : Nat) (x : Odo) : (s.setOdo i x).cfg = s.cfg := rfl
@[simp] theorem State.setOdo_cnts (i : Nat) (x : Odo) : (s.setOdo i x).cnts = s.cnts := rfl
@[simp] theorem State.setOdo_parts (i : Nat) (x : Odo) : (s.setOdo i x).parts = s.parts := rfl
@[simp] theorem State.setOdo_own (i : Nat) (x : Odo) : (s.setOdo i x).own = s.own := rfl
@[simp] theorem State.setOdo_ownlock (i : Nat) (x : Odo) : (s.setOdo i x).ownlock = s.ownlock := rfl
@[simp] theorem State.setOdo_pinlock (i : Nat) (x : Odo) : (s.setOdo i x).pinlock = s.pinlock := rfl
@[simp] theorem State.setOdo_key0 (i : Nat) (x : Odo) : (s.setOdo i x).key0 = s.key0 := rfl
@[simp] theorem State.setOdo_authFails (i : Nat) (x : Odo) : (s.setOdo i x).authFails = s.authFails := rfl
@[simp] theorem State.setOdo_lockoutEnd (i : Nat) (x : Odo) : (s.setOdo i x).lockoutEnd = s.lockoutEnd := rfl
@[simp] theorem State.setOdo_islands (i : Nat) (x : Odo) : (s.setOdo i x).islands = s.islands := rfl
@[simp] theorem State.setOdo_safenLow (i : Nat) (x : Odo) : (s.setOdo i x).safenLow = s.safenLow := rfl
@[simp] theorem State.setOdo_attic (i : Nat) (x : Odo) : (s.setOdo i x).attic = s.attic := rfl
@[simp] theorem State.setOdo_trace (i : Nat) (x : Odo) : (s.setOdo i x).trace = s.trace := rfl
@[simp] theorem State.setOdo_faults (i : Nat) (x : Odo) : (s.setOdo i x).faults = s.faults := rfl
@[simp] theorem State.setOdo_units (i : Nat) (x : Odo) : (s.setOdo i x).units = s.units := rfl
@[simp] theorem State.setOdo_grants (i : Nat) (x : Odo) : (s.setOdo i x).grants = s.grants := rfl
@[simp] theorem State.setOdo_impls (i : Nat) (x : Odo) : (s.setOdo i x).impls = s.impls := rfl
@[simp] theorem State.setOdo_secs (i : Nat) (x : Odo) : (s.setOdo i x).secs = s.secs := rfl
@[simp] theorem State.setOdo_ssps (i : Nat) (x : Odo) : (s.setOdo i x).ssps = s.ssps := rfl
@[simp] theorem State.setOdo_prods (i : Nat) (x : Odo) : (s.setOdo i x).prods = s.prods := rfl
@[simp] theorem State.setOdo_cellar (i : Nat) (x : Odo) : (s.setOdo i x).cellar = s.cellar := rfl
@[simp] theorem State.setOdo_larder (i : Nat) (x : Odo) : (s.setOdo i x).larder = s.larder := rfl
@[simp] theorem State.setOdo_pantry (i : Nat) (x : Odo) : (s.setOdo i x).pantry = s.pantry := rfl
@[simp] theorem State.setOdo_cans (i : Nat) (x : Odo) : (s.setOdo i x).cans = s.cans := rfl
@[simp] theorem State.setOdo_peer (i : Nat) (x : Odo) : (s.setOdo i x).peer = s.peer := rfl
@[simp] theorem State.setOdo_uarts (i : Nat) (x : Odo) : (s.setOdo i x).uarts = s.uarts := rfl
@[simp] theorem State.setOdo_spi (i : Nat) (x : Odo) : (s.setOdo i x).spi = s.spi := rfl
@[simp] theorem State.setOdo_i2cs (i : Nat) (x : Odo) : (s.setOdo i x).i2cs = s.i2cs := rfl
@[simp] theorem State.setOdo_pins (i : Nat) (x : Odo) : (s.setOdo i x).pins = s.pins := rfl
@[simp] theorem State.setOdo_gnss (i : Nat) (x : Odo) : (s.setOdo i x).gnss = s.gnss := rfl
@[simp] theorem State.setOdo_lastTick (i : Nat) (x : Odo) : (s.setOdo i x).lastTick = s.lastTick := rfl
@[simp] theorem State.setOdo_freeIx (i : Nat) (x : Odo) : (s.setOdo i x).freeIx = s.freeIx := rfl
@[simp] theorem State.setOdo_odoAt_same (i : Nat) (x : Odo) : (s.setOdo i x).odoAt i = x := by simp [State.setOdo, State.odoAt]
theorem State.setOdo_odoAt (i : Nat) (x : Odo) (j : Nat) : (s.setOdo i x).odoAt j = if i = j then x else s.odoAt j := by simp [State.setOdo, State.odoAt]
@[simp] theorem State.setOdo_sessAt (i : Nat) (x : Odo) (j : Nat) : (s.setOdo i x).sessAt j = s.sessAt j := rfl
@[simp] theorem State.setOdo_partAt (i : Nat) (x : Odo) (j : Nat) : (s.setOdo i x).partAt j = s.partAt j := rfl
@[simp] theorem State.setOdo_unitAt (i : Nat) (x : Odo) (j : Nat) : (s.setOdo i x).unitAt j = s.unitAt j := rfl
@[simp] theorem State.setOdo_implAt (i : Nat) (x : Odo) (j : Nat) : (s.setOdo i x).implAt j = s.implAt j := rfl
@[simp] theorem State.setOdo_secAt (i : Nat) (x : Odo) (j : Nat) : (s.setOdo i x).secAt j = s.secAt j := rfl
@[simp] theorem State.setOdo_sspAt (i : Nat) (x : Odo) (j : Nat) : (s.setOdo i x).sspAt j = s.sspAt j := rfl
@[simp] theorem State.setOdo_prodAt (i : Nat) (x : Odo) (j : Nat) : (s.setOdo i x).prodAt j = s.prodAt j := rfl
@[simp] theorem State.setOdo_now (i : Nat) (x : Odo) : (s.setOdo i x).now = s.now := rfl

/-! ### setSsp -/

@[simp] theorem State.setSsp_pending (i : Nat) (x : Ssp) : (s.setSsp i x).pending = s.pending := rfl
@[simp] theorem State.setSsp_power (i : Nat) (x : Ssp) : (s.setSsp i x).power = s.power := rfl
@[simp] theorem State.setSsp_times (i : Nat) (x : Ssp) : (s.setSsp i x).times = s.times := rfl
@[simp] theorem State.setSsp_sess (i : Nat) (x : Ssp) : (s.setSsp i x).sess = s.sess := rfl
@[simp] theorem State.setSsp_routed (i : Nat) (x : Ssp) : (s.setSsp i x).routed = s.routed := rfl
@[simp] theorem State.setSsp_cfg (i : Nat) (x : Ssp) : (s.setSsp i x).cfg = s.cfg := rfl
@[simp] theorem State.setSsp_cnts (i : Nat) (x : Ssp) : (s.setSsp i x).cnts = s.cnts := rfl
@[simp] theorem State.setSsp_parts (i : Nat) (x : Ssp) : (s.setSsp i x).parts = s.parts := rfl
@[simp] theorem State.setSsp_own (i : Nat) (x : Ssp) : (s.setSsp i x).own = s.own := rfl
@[simp] theorem State.setSsp_ownlock (i : Nat) (x : Ssp) : (s.setSsp i x).ownlock = s.ownlock := rfl
@[simp] theorem State.setSsp_pinlock (i : Nat) (x : Ssp) : (s.setSsp i x).pinlock = s.pinlock := rfl
@[simp] theorem State.setSsp_key0 (i : Nat) (x : Ssp) : (s.setSsp i x).key0 = s.key0 := rfl
@[simp] theorem State.setSsp_authFails (i : Nat) (x : Ssp) : (s.setSsp i x).authFails = s.authFails := rfl
@[simp] theorem State.setSsp_lockoutEnd (i : Nat) (x : Ssp) : (s.setSsp i x).lockoutEnd = s.lockoutEnd := rfl
@[simp] theorem State.setSsp_islands (i : Nat) (x : Ssp) : (s.setSsp i x).islands = s.islands := rfl
@[simp] theorem State.setSsp_safenLow (i : Nat) (x : Ssp) : (s.setSsp i x).safenLow = s.safenLow := rfl
@[simp] theorem State.setSsp_attic (i : Nat) (x : Ssp) : (s.setSsp i x).attic = s.attic := rfl
@[simp] theorem State.setSsp_trace (i : Nat) (x : Ssp) : (s.setSsp i x).trace = s.trace := rfl
@[simp] theorem State.setSsp_faults (i : Nat) (x : Ssp) : (s.setSsp i x).faults = s.faults := rfl
@[simp] theorem State.setSsp_units (i : Nat) (x : Ssp) : (s.setSsp i x).units = s.units := rfl
@[simp] theorem State.setSsp_grants (i : Nat) (x : Ssp) : (s.setSsp i x).grants = s.grants := rfl
@[simp] theorem State.setSsp_impls (i : Nat) (x : Ssp) : (s.setSsp i x).impls = s.impls := rfl
@[simp] theorem State.setSsp_secs (i : Nat) (x : Ssp) : (s.setSsp i x).secs = s.secs := rfl
@[simp] theorem State.setSsp_odos (i : Nat) (x : Ssp) : (s.setSsp i x).odos = s.odos := rfl
@[simp] theorem State.setSsp_prods (i : Nat) (x : Ssp) : (s.setSsp i x).prods = s.prods := rfl
@[simp] theorem State.setSsp_cellar (i : Nat) (x : Ssp) : (s.setSsp i x).cellar = s.cellar := rfl
@[simp] theorem State.setSsp_larder (i : Nat) (x : Ssp) : (s.setSsp i x).larder = s.larder := rfl
@[simp] theorem State.setSsp_pantry (i : Nat) (x : Ssp) : (s.setSsp i x).pantry = s.pantry := rfl
@[simp] theorem State.setSsp_cans (i : Nat) (x : Ssp) : (s.setSsp i x).cans = s.cans := rfl
@[simp] theorem State.setSsp_peer (i : Nat) (x : Ssp) : (s.setSsp i x).peer = s.peer := rfl
@[simp] theorem State.setSsp_uarts (i : Nat) (x : Ssp) : (s.setSsp i x).uarts = s.uarts := rfl
@[simp] theorem State.setSsp_spi (i : Nat) (x : Ssp) : (s.setSsp i x).spi = s.spi := rfl
@[simp] theorem State.setSsp_i2cs (i : Nat) (x : Ssp) : (s.setSsp i x).i2cs = s.i2cs := rfl
@[simp] theorem State.setSsp_pins (i : Nat) (x : Ssp) : (s.setSsp i x).pins = s.pins := rfl
@[simp] theorem State.setSsp_gnss (i : Nat) (x : Ssp) : (s.setSsp i x).gnss = s.gnss := rfl
@[simp] theorem State.setSsp_lastTick (i : Nat) (x : Ssp) : (s.setSsp i x).lastTick = s.lastTick := rfl
@[simp] theorem State.setSsp_freeIx (i : Nat) (x : Ssp) : (s.setSsp i x).freeIx = s.freeIx := rfl
@[simp] theorem State.setSsp_sspAt_same (i : Nat) (x : Ssp) : (s.setSsp i x).sspAt i = x := by simp [State.setSsp, State.sspAt]
theorem State.setSsp_sspAt (i : Nat) (x : Ssp) (j : Nat) : (s.setSsp i x).sspAt j = if i = j then x else s.sspAt j := by simp [State.setSsp, State.sspAt]
@[simp] theorem State.setSsp_sessAt (i : Nat) (x : Ssp) (j : Nat) : (s.setSsp i x).sessAt j = s.sessAt j := rfl
@[simp] theorem State.setSsp_partAt (i : Nat) (x : Ssp) (j : Nat) : (s.setSsp i x).partAt j = s.partAt j := rfl
@[simp] theorem State.setSsp_unitAt (i : Nat) (x : Ssp) (j : Nat) : (s.setSsp i x).unitAt j = s.unitAt j := rfl
@[simp] theorem State.setSsp_implAt (i : Nat) (x : Ssp) (j : Nat) : (s.setSsp i x).implAt j = s.implAt j := rfl
@[simp] theorem State.setSsp_secAt (i : Nat) (x : Ssp) (j : Nat) : (s.setSsp i x).secAt j = s.secAt j := rfl
@[simp] theorem State.setSsp_odoAt (i : Nat) (x : Ssp) (j : Nat) : (s.setSsp i x).odoAt j = s.odoAt j := rfl
@[simp] theorem State.setSsp_prodAt (i : Nat) (x : Ssp) (j : Nat) : (s.setSsp i x).prodAt j = s.prodAt j := rfl
@[simp] theorem State.setSsp_now (i : Nat) (x : Ssp) : (s.setSsp i x).now = s.now := rfl

/-! ### setProd -/

@[simp] theorem State.setProd_pending (i : Nat) (x : Prod_) : (s.setProd i x).pending = s.pending := rfl
@[simp] theorem State.setProd_power (i : Nat) (x : Prod_) : (s.setProd i x).power = s.power := rfl
@[simp] theorem State.setProd_times (i : Nat) (x : Prod_) : (s.setProd i x).times = s.times := rfl
@[simp] theorem State.setProd_sess (i : Nat) (x : Prod_) : (s.setProd i x).sess = s.sess := rfl
@[simp] theorem State.setProd_routed (i : Nat) (x : Prod_) : (s.setProd i x).routed = s.routed := rfl
@[simp] theorem State.setProd_cfg (i : Nat) (x : Prod_) : (s.setProd i x).cfg = s.cfg := rfl
@[simp] theorem State.setProd_cnts (i : Nat) (x : Prod_) : (s.setProd i x).cnts = s.cnts := rfl
@[simp] theorem State.setProd_parts (i : Nat) (x : Prod_) : (s.setProd i x).parts = s.parts := rfl
@[simp] theorem State.setProd_own (i : Nat) (x : Prod_) : (s.setProd i x).own = s.own := rfl
@[simp] theorem State.setProd_ownlock (i : Nat) (x : Prod_) : (s.setProd i x).ownlock = s.ownlock := rfl
@[simp] theorem State.setProd_pinlock (i : Nat) (x : Prod_) : (s.setProd i x).pinlock = s.pinlock := rfl
@[simp] theorem State.setProd_key0 (i : Nat) (x : Prod_) : (s.setProd i x).key0 = s.key0 := rfl
@[simp] theorem State.setProd_authFails (i : Nat) (x : Prod_) : (s.setProd i x).authFails = s.authFails := rfl
@[simp] theorem State.setProd_lockoutEnd (i : Nat) (x : Prod_) : (s.setProd i x).lockoutEnd = s.lockoutEnd := rfl
@[simp] theorem State.setProd_islands (i : Nat) (x : Prod_) : (s.setProd i x).islands = s.islands := rfl
@[simp] theorem State.setProd_safenLow (i : Nat) (x : Prod_) : (s.setProd i x).safenLow = s.safenLow := rfl
@[simp] theorem State.setProd_attic (i : Nat) (x : Prod_) : (s.setProd i x).attic = s.attic := rfl
@[simp] theorem State.setProd_trace (i : Nat) (x : Prod_) : (s.setProd i x).trace = s.trace := rfl
@[simp] theorem State.setProd_faults (i : Nat) (x : Prod_) : (s.setProd i x).faults = s.faults := rfl
@[simp] theorem State.setProd_units (i : Nat) (x : Prod_) : (s.setProd i x).units = s.units := rfl
@[simp] theorem State.setProd_grants (i : Nat) (x : Prod_) : (s.setProd i x).grants = s.grants := rfl
@[simp] theorem State.setProd_impls (i : Nat) (x : Prod_) : (s.setProd i x).impls = s.impls := rfl
@[simp] theorem State.setProd_secs (i : Nat) (x : Prod_) : (s.setProd i x).secs = s.secs := rfl
@[simp] theorem State.setProd_odos (i : Nat) (x : Prod_) : (s.setProd i x).odos = s.odos := rfl
@[simp] theorem State.setProd_ssps (i : Nat) (x : Prod_) : (s.setProd i x).ssps = s.ssps := rfl
@[simp] theorem State.setProd_cellar (i : Nat) (x : Prod_) : (s.setProd i x).cellar = s.cellar := rfl
@[simp] theorem State.setProd_larder (i : Nat) (x : Prod_) : (s.setProd i x).larder = s.larder := rfl
@[simp] theorem State.setProd_pantry (i : Nat) (x : Prod_) : (s.setProd i x).pantry = s.pantry := rfl
@[simp] theorem State.setProd_cans (i : Nat) (x : Prod_) : (s.setProd i x).cans = s.cans := rfl
@[simp] theorem State.setProd_peer (i : Nat) (x : Prod_) : (s.setProd i x).peer = s.peer := rfl
@[simp] theorem State.setProd_uarts (i : Nat) (x : Prod_) : (s.setProd i x).uarts = s.uarts := rfl
@[simp] theorem State.setProd_spi (i : Nat) (x : Prod_) : (s.setProd i x).spi = s.spi := rfl
@[simp] theorem State.setProd_i2cs (i : Nat) (x : Prod_) : (s.setProd i x).i2cs = s.i2cs := rfl
@[simp] theorem State.setProd_pins (i : Nat) (x : Prod_) : (s.setProd i x).pins = s.pins := rfl
@[simp] theorem State.setProd_gnss (i : Nat) (x : Prod_) : (s.setProd i x).gnss = s.gnss := rfl
@[simp] theorem State.setProd_lastTick (i : Nat) (x : Prod_) : (s.setProd i x).lastTick = s.lastTick := rfl
@[simp] theorem State.setProd_freeIx (i : Nat) (x : Prod_) : (s.setProd i x).freeIx = s.freeIx := rfl
@[simp] theorem State.setProd_prodAt_same (i : Nat) (x : Prod_) : (s.setProd i x).prodAt i = x := by simp [State.setProd, State.prodAt]
theorem State.setProd_prodAt (i : Nat) (x : Prod_) (j : Nat) : (s.setProd i x).prodAt j = if i = j then x else s.prodAt j := by simp [State.setProd, State.prodAt]
@[simp] theorem State.setProd_sessAt (i : Nat) (x : Prod_) (j : Nat) : (s.setProd i x).sessAt j = s.sessAt j := rfl
@[simp] theorem State.setProd_partAt (i : Nat) (x : Prod_) (j : Nat) : (s.setProd i x).partAt j = s.partAt j := rfl
@[simp] theorem State.setProd_unitAt (i : Nat) (x : Prod_) (j : Nat) : (s.setProd i x).unitAt j = s.unitAt j := rfl
@[simp] theorem State.setProd_implAt (i : Nat) (x : Prod_) (j : Nat) : (s.setProd i x).implAt j = s.implAt j := rfl
@[simp] theorem State.setProd_secAt (i : Nat) (x : Prod_) (j : Nat) : (s.setProd i x).secAt j = s.secAt j := rfl
@[simp] theorem State.setProd_odoAt (i : Nat) (x : Prod_) (j : Nat) : (s.setProd i x).odoAt j = s.odoAt j := rfl
@[simp] theorem State.setProd_sspAt (i : Nat) (x : Prod_) (j : Nat) : (s.setProd i x).sspAt j = s.sspAt j := rfl
@[simp] theorem State.setProd_now (i : Nat) (x : Prod_) : (s.setProd i x).now = s.now := rfl

/-! ### setIsland -/

@[simp] theorem State.setIsland_pending (i : Nat) (x : IslState) : (s.setIsland i x).pending = s.pending := rfl
@[simp] theorem State.setIsland_power (i : Nat) (x : IslState) : (s.setIsland i x).power = s.power := rfl
@[simp] theorem State.setIsland_times (i : Nat) (x : IslState) : (s.setIsland i x).times = s.times := rfl
@[simp] theorem State.setIsland_sess (i : Nat) (x : IslState) : (s.setIsland i x).sess = s.sess := rfl
@[simp] theorem State.setIsland_routed (i : Nat) (x : IslState) : (s.setIsland i x).routed = s.routed := rfl
@[simp] theorem State.setIsland_cfg (i : Nat) (x : IslState) : (s.setIsland i x).cfg = s.cfg := rfl
@[simp] theorem State.setIsland_cnts (i : Nat) (x : IslState) : (s.setIsland i x).cnts = s.cnts := rfl
@[simp] theorem State.setIsland_parts (i : Nat) (x : IslState) : (s.setIsland i x).parts = s.parts := rfl
@[simp] theorem State.setIsland_own (i : Nat) (x : IslState) : (s.setIsland i x).own = s.own := rfl
@[simp] theorem State.setIsland_ownlock (i : Nat) (x : IslState) : (s.setIsland i x).ownlock = s.ownlock := rfl
@[simp] theorem State.setIsland_pinlock (i : Nat) (x : IslState) : (s.setIsland i x).pinlock = s.pinlock := rfl
@[simp] theorem State.setIsland_key0 (i : Nat) (x : IslState) : (s.setIsland i x).key0 = s.key0 := rfl
@[simp] theorem State.setIsland_authFails (i : Nat) (x : IslState) : (s.setIsland i x).authFails = s.authFails := rfl
@[simp] theorem State.setIsland_lockoutEnd (i : Nat) (x : IslState) : (s.setIsland i x).lockoutEnd = s.lockoutEnd := rfl
@[simp] theorem State.setIsland_safenLow (i : Nat) (x : IslState) : (s.setIsland i x).safenLow = s.safenLow := rfl
@[simp] theorem State.setIsland_attic (i : Nat) (x : IslState) : (s.setIsland i x).attic = s.attic := rfl
@[simp] theorem State.setIsland_trace (i : Nat) (x : IslState) : (s.setIsland i x).trace = s.trace := rfl
@[simp] theorem State.setIsland_faults (i : Nat) (x : IslState) : (s.setIsland i x).faults = s.faults := rfl
@[simp] theorem State.setIsland_units (i : Nat) (x : IslState) : (s.setIsland i x).units = s.units := rfl
@[simp] theorem State.setIsland_grants (i : Nat) (x : IslState) : (s.setIsland i x).grants = s.grants := rfl
@[simp] theorem State.setIsland_impls (i : Nat) (x : IslState) : (s.setIsland i x).impls = s.impls := rfl
@[simp] theorem State.setIsland_secs (i : Nat) (x : IslState) : (s.setIsland i x).secs = s.secs := rfl
@[simp] theorem State.setIsland_odos (i : Nat) (x : IslState) : (s.setIsland i x).odos = s.odos := rfl
@[simp] theorem State.setIsland_ssps (i : Nat) (x : IslState) : (s.setIsland i x).ssps = s.ssps := rfl
@[simp] theorem State.setIsland_prods (i : Nat) (x : IslState) : (s.setIsland i x).prods = s.prods := rfl
@[simp] theorem State.setIsland_cellar (i : Nat) (x : IslState) : (s.setIsland i x).cellar = s.cellar := rfl
@[simp] theorem State.setIsland_larder (i : Nat) (x : IslState) : (s.setIsland i x).larder = s.larder := rfl
@[simp] theorem State.setIsland_pantry (i : Nat) (x : IslState) : (s.setIsland i x).pantry = s.pantry := rfl
@[simp] theorem State.setIsland_cans (i : Nat) (x : IslState) : (s.setIsland i x).cans = s.cans := rfl
@[simp] theorem State.setIsland_peer (i : Nat) (x : IslState) : (s.setIsland i x).peer = s.peer := rfl
@[simp] theorem State.setIsland_uarts (i : Nat) (x : IslState) : (s.setIsland i x).uarts = s.uarts := rfl
@[simp] theorem State.setIsland_spi (i : Nat) (x : IslState) : (s.setIsland i x).spi = s.spi := rfl
@[simp] theorem State.setIsland_i2cs (i : Nat) (x : IslState) : (s.setIsland i x).i2cs = s.i2cs := rfl
@[simp] theorem State.setIsland_pins (i : Nat) (x : IslState) : (s.setIsland i x).pins = s.pins := rfl
@[simp] theorem State.setIsland_gnss (i : Nat) (x : IslState) : (s.setIsland i x).gnss = s.gnss := rfl
@[simp] theorem State.setIsland_lastTick (i : Nat) (x : IslState) : (s.setIsland i x).lastTick = s.lastTick := rfl
@[simp] theorem State.setIsland_freeIx (i : Nat) (x : IslState) : (s.setIsland i x).freeIx = s.freeIx := rfl
@[simp] theorem State.setIsland_sessAt (i : Nat) (x : IslState) (j : Nat) : (s.setIsland i x).sessAt j = s.sessAt j := rfl
@[simp] theorem State.setIsland_partAt (i : Nat) (x : IslState) (j : Nat) : (s.setIsland i x).partAt j = s.partAt j := rfl
@[simp] theorem State.setIsland_unitAt (i : Nat) (x : IslState) (j : Nat) : (s.setIsland i x).unitAt j = s.unitAt j := rfl
@[simp] theorem State.setIsland_implAt (i : Nat) (x : IslState) (j : Nat) : (s.setIsland i x).implAt j = s.implAt j := rfl
@[simp] theorem State.setIsland_secAt (i : Nat) (x : IslState) (j : Nat) : (s.setIsland i x).secAt j = s.secAt j := rfl
@[simp] theorem State.setIsland_odoAt (i : Nat) (x : IslState) (j : Nat) : (s.setIsland i x).odoAt j = s.odoAt j := rfl
@[simp] theorem State.setIsland_sspAt (i : Nat) (x : IslState) (j : Nat) : (s.setIsland i x).sspAt j = s.sspAt j := rfl
@[simp] theorem State.setIsland_prodAt (i : Nat) (x : IslState) (j : Nat) : (s.setIsland i x).prodAt j = s.prodAt j := rfl
@[simp] theorem State.setIsland_now (i : Nat) (x : IslState) : (s.setIsland i x).now = s.now := rfl

/-! ### setCnt -/

@[simp] theorem State.setCnt_pending (n : String) (i v : Nat) : (s.setCnt n i v).pending = s.pending := rfl
@[simp] theorem State.setCnt_power (n : String) (i v : Nat) : (s.setCnt n i v).power = s.power := rfl
@[simp] theorem State.setCnt_times (n : String) (i v : Nat) : (s.setCnt n i v).times = s.times := rfl
@[simp] theorem State.setCnt_sess (n : String) (i v : Nat) : (s.setCnt n i v).sess = s.sess := rfl
@[simp] theorem State.setCnt_routed (n : String) (i v : Nat) : (s.setCnt n i v).routed = s.routed := rfl
@[simp] theorem State.setCnt_cfg (n : String) (i v : Nat) : (s.setCnt n i v).cfg = s.cfg := rfl
@[simp] theorem State.setCnt_parts (n : String) (i v : Nat) : (s.setCnt n i v).parts = s.parts := rfl
@[simp] theorem State.setCnt_own (n : String) (i v : Nat) : (s.setCnt n i v).own = s.own := rfl
@[simp] theorem State.setCnt_ownlock (n : String) (i v : Nat) : (s.setCnt n i v).ownlock = s.ownlock := rfl
@[simp] theorem State.setCnt_pinlock (n : String) (i v : Nat) : (s.setCnt n i v).pinlock = s.pinlock := rfl
@[simp] theorem State.setCnt_key0 (n : String) (i v : Nat) : (s.setCnt n i v).key0 = s.key0 := rfl
@[simp] theorem State.setCnt_authFails (n : String) (i v : Nat) : (s.setCnt n i v).authFails = s.authFails := rfl
@[simp] theorem State.setCnt_lockoutEnd (n : String) (i v : Nat) : (s.setCnt n i v).lockoutEnd = s.lockoutEnd := rfl
@[simp] theorem State.setCnt_islands (n : String) (i v : Nat) : (s.setCnt n i v).islands = s.islands := rfl
@[simp] theorem State.setCnt_safenLow (n : String) (i v : Nat) : (s.setCnt n i v).safenLow = s.safenLow := rfl
@[simp] theorem State.setCnt_attic (n : String) (i v : Nat) : (s.setCnt n i v).attic = s.attic := rfl
@[simp] theorem State.setCnt_trace (n : String) (i v : Nat) : (s.setCnt n i v).trace = s.trace := rfl
@[simp] theorem State.setCnt_faults (n : String) (i v : Nat) : (s.setCnt n i v).faults = s.faults := rfl
@[simp] theorem State.setCnt_units (n : String) (i v : Nat) : (s.setCnt n i v).units = s.units := rfl
@[simp] theorem State.setCnt_grants (n : String) (i v : Nat) : (s.setCnt n i v).grants = s.grants := rfl
@[simp] theorem State.setCnt_impls (n : String) (i v : Nat) : (s.setCnt n i v).impls = s.impls := rfl
@[simp] theorem State.setCnt_secs (n : String) (i v : Nat) : (s.setCnt n i v).secs = s.secs := rfl
@[simp] theorem State.setCnt_odos (n : String) (i v : Nat) : (s.setCnt n i v).odos = s.odos := rfl
@[simp] theorem State.setCnt_ssps (n : String) (i v : Nat) : (s.setCnt n i v).ssps = s.ssps := rfl
@[simp] theorem State.setCnt_prods (n : String) (i v : Nat) : (s.setCnt n i v).prods = s.prods := rfl
@[simp] theorem State.setCnt_cellar (n : String) (i v : Nat) : (s.setCnt n i v).cellar = s.cellar := rfl
@[simp] theorem State.setCnt_larder (n : String) (i v : Nat) : (s.setCnt n i v).larder = s.larder := rfl
@[simp] theorem State.setCnt_pantry (n : String) (i v : Nat) : (s.setCnt n i v).pantry = s.pantry := rfl
@[simp] theorem State.setCnt_cans (n : String) (i v : Nat) : (s.setCnt n i v).cans = s.cans := rfl
@[simp] theorem State.setCnt_peer (n : String) (i v : Nat) : (s.setCnt n i v).peer = s.peer := rfl
@[simp] theorem State.setCnt_uarts (n : String) (i v : Nat) : (s.setCnt n i v).uarts = s.uarts := rfl
@[simp] theorem State.setCnt_spi (n : String) (i v : Nat) : (s.setCnt n i v).spi = s.spi := rfl
@[simp] theorem State.setCnt_i2cs (n : String) (i v : Nat) : (s.setCnt n i v).i2cs = s.i2cs := rfl
@[simp] theorem State.setCnt_pins (n : String) (i v : Nat) : (s.setCnt n i v).pins = s.pins := rfl
@[simp] theorem State.setCnt_gnss (n : String) (i v : Nat) : (s.setCnt n i v).gnss = s.gnss := rfl
@[simp] theorem State.setCnt_lastTick (n : String) (i v : Nat) : (s.setCnt n i v).lastTick = s.lastTick := rfl
@[simp] theorem State.setCnt_freeIx (n : String) (i v : Nat) : (s.setCnt n i v).freeIx = s.freeIx := rfl
@[simp] theorem State.setCnt_sessAt (n : String) (i v : Nat) (j : Nat) : (s.setCnt n i v).sessAt j = s.sessAt j := rfl
@[simp] theorem State.setCnt_partAt (n : String) (i v : Nat) (j : Nat) : (s.setCnt n i v).partAt j = s.partAt j := rfl
@[simp] theorem State.setCnt_unitAt (n : String) (i v : Nat) (j : Nat) : (s.setCnt n i v).unitAt j = s.unitAt j := rfl
@[simp] theorem State.setCnt_implAt (n : String) (i v : Nat) (j : Nat) : (s.setCnt n i v).implAt j = s.implAt j := rfl
@[simp] theorem State.setCnt_secAt (n : String) (i v : Nat) (j : Nat) : (s.setCnt n i v).secAt j = s.secAt j := rfl
@[simp] theorem State.setCnt_odoAt (n : String) (i v : Nat) (j : Nat) : (s.setCnt n i v).odoAt j = s.odoAt j := rfl
@[simp] theorem State.setCnt_sspAt (n : String) (i v : Nat) (j : Nat) : (s.setCnt n i v).sspAt j = s.sspAt j := rfl
@[simp] theorem State.setCnt_prodAt (n : String) (i v : Nat) (j : Nat) : (s.setCnt n i v).prodAt j = s.prodAt j := rfl
@[simp] theorem State.setCnt_now (n : String) (i v : Nat) : (s.setCnt n i v).now = s.now := rfl

/-! ### bumpBy -/

@[simp] theorem State.bumpBy_pending (n : String) (i k : Nat) : (s.bumpBy n i k).pending = s.pending := rfl
@[simp] theorem State.bumpBy_power (n : String) (i k : Nat) : (s.bumpBy n i k).power = s.power := rfl
@[simp] theorem State.bumpBy_times (n : String) (i k : Nat) : (s.bumpBy n i k).times = s.times := rfl
@[simp] theorem State.bumpBy_sess (n : String) (i k : Nat) : (s.bumpBy n i k).sess = s.sess := rfl
@[simp] theorem State.bumpBy_routed (n : String) (i k : Nat) : (s.bumpBy n i k).routed = s.routed := rfl
@[simp] theorem State.bumpBy_cfg (n : String) (i k : Nat) : (s.bumpBy n i k).cfg = s.cfg := rfl
@[simp] theorem State.bumpBy_parts (n : String) (i k : Nat) : (s.bumpBy n i k).parts = s.parts := rfl
@[simp] theorem State.bumpBy_own (n : String) (i k : Nat) : (s.bumpBy n i k).own = s.own := rfl
@[simp] theorem State.bumpBy_ownlock (n : String) (i k : Nat) : (s.bumpBy n i k).ownlock = s.ownlock := rfl
@[simp] theorem State.bumpBy_pinlock (n : String) (i k : Nat) : (s.bumpBy n i k).pinlock = s.pinlock := rfl
@[simp] theorem State.bumpBy_key0 (n : String) (i k : Nat) : (s.bumpBy n i k).key0 = s.key0 := rfl
@[simp] theorem State.bumpBy_authFails (n : String) (i k : Nat) : (s.bumpBy n i k).authFails = s.authFails := rfl
@[simp] theorem State.bumpBy_lockoutEnd (n : String) (i k : Nat) : (s.bumpBy n i k).lockoutEnd = s.lockoutEnd := rfl
@[simp] theorem State.bumpBy_islands (n : String) (i k : Nat) : (s.bumpBy n i k).islands = s.islands := rfl
@[simp] theorem State.bumpBy_safenLow (n : String) (i k : Nat) : (s.bumpBy n i k).safenLow = s.safenLow := rfl
@[simp] theorem State.bumpBy_attic (n : String) (i k : Nat) : (s.bumpBy n i k).attic = s.attic := rfl
@[simp] theorem State.bumpBy_trace (n : String) (i k : Nat) : (s.bumpBy n i k).trace = s.trace := rfl
@[simp] theorem State.bumpBy_faults (n : String) (i k : Nat) : (s.bumpBy n i k).faults = s.faults := rfl
@[simp] theorem State.bumpBy_units (n : String) (i k : Nat) : (s.bumpBy n i k).units = s.units := rfl
@[simp] theorem State.bumpBy_grants (n : String) (i k : Nat) : (s.bumpBy n i k).grants = s.grants := rfl
@[simp] theorem State.bumpBy_impls (n : String) (i k : Nat) : (s.bumpBy n i k).impls = s.impls := rfl
@[simp] theorem State.bumpBy_secs (n : String) (i k : Nat) : (s.bumpBy n i k).secs = s.secs := rfl
@[simp] theorem State.bumpBy_odos (n : String) (i k : Nat) : (s.bumpBy n i k).odos = s.odos := rfl
@[simp] theorem State.bumpBy_ssps (n : String) (i k : Nat) : (s.bumpBy n i k).ssps = s.ssps := rfl
@[simp] theorem State.bumpBy_prods (n : String) (i k : Nat) : (s.bumpBy n i k).prods = s.prods := rfl
@[simp] theorem State.bumpBy_cellar (n : String) (i k : Nat) : (s.bumpBy n i k).cellar = s.cellar := rfl
@[simp] theorem State.bumpBy_larder (n : String) (i k : Nat) : (s.bumpBy n i k).larder = s.larder := rfl
@[simp] theorem State.bumpBy_pantry (n : String) (i k : Nat) : (s.bumpBy n i k).pantry = s.pantry := rfl
@[simp] theorem State.bumpBy_cans (n : String) (i k : Nat) : (s.bumpBy n i k).cans = s.cans := rfl
@[simp] theorem State.bumpBy_peer (n : String) (i k : Nat) : (s.bumpBy n i k).peer = s.peer := rfl
@[simp] theorem State.bumpBy_uarts (n : String) (i k : Nat) : (s.bumpBy n i k).uarts = s.uarts := rfl
@[simp] theorem State.bumpBy_spi (n : String) (i k : Nat) : (s.bumpBy n i k).spi = s.spi := rfl
@[simp] theorem State.bumpBy_i2cs (n : String) (i k : Nat) : (s.bumpBy n i k).i2cs = s.i2cs := rfl
@[simp] theorem State.bumpBy_pins (n : String) (i k : Nat) : (s.bumpBy n i k).pins = s.pins := rfl
@[simp] theorem State.bumpBy_gnss (n : String) (i k : Nat) : (s.bumpBy n i k).gnss = s.gnss := rfl
@[simp] theorem State.bumpBy_lastTick (n : String) (i k : Nat) : (s.bumpBy n i k).lastTick = s.lastTick := rfl
@[simp] theorem State.bumpBy_freeIx (n : String) (i k : Nat) : (s.bumpBy n i k).freeIx = s.freeIx := rfl
@[simp] theorem State.bumpBy_sessAt (n : String) (i k : Nat) (j : Nat) : (s.bumpBy n i k).sessAt j = s.sessAt j := rfl
@[simp] theorem State.bumpBy_partAt (n : String) (i k : Nat) (j : Nat) : (s.bumpBy n i k).partAt j = s.partAt j := rfl
@[simp] theorem State.bumpBy_unitAt (n : String) (i k : Nat) (j : Nat) : (s.bumpBy n i k).unitAt j = s.unitAt j := rfl
@[simp] theorem State.bumpBy_implAt (n : String) (i k : Nat) (j : Nat) : (s.bumpBy n i k).implAt j = s.implAt j := rfl
@[simp] theorem State.bumpBy_secAt (n : String) (i k : Nat) (j : Nat) : (s.bumpBy n i k).secAt j = s.secAt j := rfl
@[simp] theorem State.bumpBy_odoAt (n : String) (i k : Nat) (j : Nat) : (s.bumpBy n i k).odoAt j = s.odoAt j := rfl
@[simp] theorem State.bumpBy_sspAt (n : String) (i k : Nat) (j : Nat) : (s.bumpBy n i k).sspAt j = s.sspAt j := rfl
@[simp] theorem State.bumpBy_prodAt (n : String) (i k : Nat) (j : Nat) : (s.bumpBy n i k).prodAt j = s.prodAt j := rfl
@[simp] theorem State.bumpBy_now (n : String) (i k : Nat) : (s.bumpBy n i k).now = s.now := rfl

/-! ### bump -/

@[simp] theorem State.bump_pending (n : String) (i : Nat) : (s.bump n i).pending = s.pending := rfl
@[simp] theorem State.bump_power (n : String) (i : Nat) : (s.bump n i).power = s.power := rfl
@[simp] theorem State.bump_times (n : String) (i : Nat) : (s.bump n i).times = s.times := rfl
@[simp] theorem State.bump_sess (n : String) (i : Nat) : (s.bump n i).sess = s.sess := rfl
@[simp] theorem State.bump_routed (n : String) (i : Nat) : (s.bump n i).routed = s.routed := rfl
@[simp] theorem State.bump_cfg (n : String) (i : Nat) : (s.bump n i).cfg = s.cfg := rfl
@[simp] theorem State.bump_parts (n : String) (i : Nat) : (s.bump n i).parts = s.parts := rfl
@[simp] theorem State.bump_own (n : String) (i : Nat) : (s.bump n i).own = s.own := rfl
@[simp] theorem State.bump_ownlock (n : String) (i : Nat) : (s.bump n i).ownlock = s.ownlock := rfl
@[simp] theorem State.bump_pinlock (n : String) (i : Nat) : (s.bump n i).pinlock = s.pinlock := rfl
@[simp] theorem State.bump_key0 (n : String) (i : Nat) : (s.bump n i).key0 = s.key0 := rfl
@[simp] theorem State.bump_authFails (n : String) (i : Nat) : (s.bump n i).authFails = s.authFails := rfl
@[simp] theorem State.bump_lockoutEnd (n : String) (i : Nat) : (s.bump n i).lockoutEnd = s.lockoutEnd := rfl
@[simp] theorem State.bump_islands (n : String) (i : Nat) : (s.bump n i).islands = s.islands := rfl
@[simp] theorem State.bump_safenLow (n : String) (i : Nat) : (s.bump n i).safenLow = s.safenLow := rfl
@[simp] theorem State.bump_attic (n : String) (i : Nat) : (s.bump n i).attic = s.attic := rfl
@[simp] theorem State.bump_trace (n : String) (i : Nat) : (s.bump n i).trace = s.trace := rfl
@[simp] theorem State.bump_faults (n : String) (i : Nat) : (s.bump n i).faults = s.faults := rfl
@[simp] theorem State.bump_units (n : String) (i : Nat) : (s.bump n i).units = s.units := rfl
@[simp] theorem State.bump_grants (n : String) (i : Nat) : (s.bump n i).grants = s.grants := rfl
@[simp] theorem State.bump_impls (n : String) (i : Nat) : (s.bump n i).impls = s.impls := rfl
@[simp] theorem State.bump_secs (n : String) (i : Nat) : (s.bump n i).secs = s.secs := rfl
@[simp] theorem State.bump_odos (n : String) (i : Nat) : (s.bump n i).odos = s.odos := rfl
@[simp] theorem State.bump_ssps (n : String) (i : Nat) : (s.bump n i).ssps = s.ssps := rfl
@[simp] theorem State.bump_prods (n : String) (i : Nat) : (s.bump n i).prods = s.prods := rfl
@[simp] theorem State.bump_cellar (n : String) (i : Nat) : (s.bump n i).cellar = s.cellar := rfl
@[simp] theorem State.bump_larder (n : String) (i : Nat) : (s.bump n i).larder = s.larder := rfl
@[simp] theorem State.bump_pantry (n : String) (i : Nat) : (s.bump n i).pantry = s.pantry := rfl
@[simp] theorem State.bump_cans (n : String) (i : Nat) : (s.bump n i).cans = s.cans := rfl
@[simp] theorem State.bump_peer (n : String) (i : Nat) : (s.bump n i).peer = s.peer := rfl
@[simp] theorem State.bump_uarts (n : String) (i : Nat) : (s.bump n i).uarts = s.uarts := rfl
@[simp] theorem State.bump_spi (n : String) (i : Nat) : (s.bump n i).spi = s.spi := rfl
@[simp] theorem State.bump_i2cs (n : String) (i : Nat) : (s.bump n i).i2cs = s.i2cs := rfl
@[simp] theorem State.bump_pins (n : String) (i : Nat) : (s.bump n i).pins = s.pins := rfl
@[simp] theorem State.bump_gnss (n : String) (i : Nat) : (s.bump n i).gnss = s.gnss := rfl
@[simp] theorem State.bump_lastTick (n : String) (i : Nat) : (s.bump n i).lastTick = s.lastTick := rfl
@[simp] theorem State.bump_freeIx (n : String) (i : Nat) : (s.bump n i).freeIx = s.freeIx := rfl
@[simp] theorem State.bump_sessAt (n : String) (i : Nat) (j : Nat) : (s.bump n i).sessAt j = s.sessAt j := rfl
@[simp] theorem State.bump_partAt (n : String) (i : Nat) (j : Nat) : (s.bump n i).partAt j = s.partAt j := rfl
@[simp] theorem State.bump_unitAt (n : String) (i : Nat) (j : Nat) : (s.bump n i).unitAt j = s.unitAt j := rfl
@[simp] theorem State.bump_implAt (n : String) (i : Nat) (j : Nat) : (s.bump n i).implAt j = s.implAt j := rfl
@[simp] theorem State.bump_secAt (n : String) (i : Nat) (j : Nat) : (s.bump n i).secAt j = s.secAt j := rfl
@[simp] theorem State.bump_odoAt (n : String) (i : Nat) (j : Nat) : (s.bump n i).odoAt j = s.odoAt j := rfl
@[simp] theorem State.bump_sspAt (n : String) (i : Nat) (j : Nat) : (s.bump n i).sspAt j = s.sspAt j := rfl
@[simp] theorem State.bump_prodAt (n : String) (i : Nat) (j : Nat) : (s.bump n i).prodAt j = s.prodAt j := rfl
@[simp] theorem State.bump_now (n : String) (i : Nat) : (s.bump n i).now = s.now := rfl

/-! ### store -/

@[simp] theorem State.store_pending (n : Noun) (i : Nat) (sub a : String) (v : Val) : (s.store n i sub a v).pending = s.pending := rfl
@[simp] theorem State.store_power (n : Noun) (i : Nat) (sub a : String) (v : Val) : (s.store n i sub a v).power = s.power := rfl
@[simp] theorem State.store_times (n : Noun) (i : Nat) (sub a : String) (v : Val) : (s.store n i sub a v).times = s.times := rfl
@[simp] theorem State.store_sess (n : Noun) (i : Nat) (sub a : String) (v : Val) : (s.store n i sub a v).sess = s.sess := rfl
@[simp] theorem State.store_routed (n : Noun) (i : Nat) (sub a : String) (v : Val) : (s.store n i sub a v).routed = s.routed := rfl
@[simp] theorem State.store_cnts (n : Noun) (i : Nat) (sub a : String) (v : Val) : (s.store n i sub a v).cnts = s.cnts := rfl
@[simp] theorem State.store_parts (n : Noun) (i : Nat) (sub a : String) (v : Val) : (s.store n i sub a v).parts = s.parts := rfl
@[simp] theorem State.store_own (n : Noun) (i : Nat) (sub a : String) (v : Val) : (s.store n i sub a v).own = s.own := rfl
@[simp] theorem State.store_ownlock (n : Noun) (i : Nat) (sub a : String) (v : Val) : (s.store n i sub a v).ownlock = s.ownlock := rfl
@[simp] theorem State.store_pinlock (n : Noun) (i : Nat) (sub a : String) (v : Val) : (s.store n i sub a v).pinlock = s.pinlock := rfl
@[simp] theorem State.store_key0 (n : Noun) (i : Nat) (sub a : String) (v : Val) : (s.store n i sub a v).key0 = s.key0 := rfl
@[simp] theorem State.store_authFails (n : Noun) (i : Nat) (sub a : String) (v : Val) : (s.store n i sub a v).authFails = s.authFails := rfl
@[simp] theorem State.store_lockoutEnd (n : Noun) (i : Nat) (sub a : String) (v : Val) : (s.store n i sub a v).lockoutEnd = s.lockoutEnd := rfl
@[simp] theorem State.store_islands (n : Noun) (i : Nat) (sub a : String) (v : Val) : (s.store n i sub a v).islands = s.islands := rfl
@[simp] theorem State.store_safenLow (n : Noun) (i : Nat) (sub a : String) (v : Val) : (s.store n i sub a v).safenLow = s.safenLow := rfl
@[simp] theorem State.store_attic (n : Noun) (i : Nat) (sub a : String) (v : Val) : (s.store n i sub a v).attic = s.attic := rfl
@[simp] theorem State.store_trace (n : Noun) (i : Nat) (sub a : String) (v : Val) : (s.store n i sub a v).trace = s.trace := rfl
@[simp] theorem State.store_faults (n : Noun) (i : Nat) (sub a : String) (v : Val) : (s.store n i sub a v).faults = s.faults := rfl
@[simp] theorem State.store_units (n : Noun) (i : Nat) (sub a : String) (v : Val) : (s.store n i sub a v).units = s.units := rfl
@[simp] theorem State.store_grants (n : Noun) (i : Nat) (sub a : String) (v : Val) : (s.store n i sub a v).grants = s.grants := rfl
@[simp] theorem State.store_impls (n : Noun) (i : Nat) (sub a : String) (v : Val) : (s.store n i sub a v).impls = s.impls := rfl
@[simp] theorem State.store_secs (n : Noun) (i : Nat) (sub a : String) (v : Val) : (s.store n i sub a v).secs = s.secs := rfl
@[simp] theorem State.store_odos (n : Noun) (i : Nat) (sub a : String) (v : Val) : (s.store n i sub a v).odos = s.odos := rfl
@[simp] theorem State.store_ssps (n : Noun) (i : Nat) (sub a : String) (v : Val) : (s.store n i sub a v).ssps = s.ssps := rfl
@[simp] theorem State.store_prods (n : Noun) (i : Nat) (sub a : String) (v : Val) : (s.store n i sub a v).prods = s.prods := rfl
@[simp] theorem State.store_cellar (n : Noun) (i : Nat) (sub a : String) (v : Val) : (s.store n i sub a v).cellar = s.cellar := rfl
@[simp] theorem State.store_larder (n : Noun) (i : Nat) (sub a : String) (v : Val) : (s.store n i sub a v).larder = s.larder := rfl
@[simp] theorem State.store_pantry (n : Noun) (i : Nat) (sub a : String) (v : Val) : (s.store n i sub a v).pantry = s.pantry := rfl
@[simp] theorem State.store_cans (n : Noun) (i : Nat) (sub a : String) (v : Val) : (s.store n i sub a v).cans = s.cans := rfl
@[simp] theorem State.store_peer (n : Noun) (i : Nat) (sub a : String) (v : Val) : (s.store n i sub a v).peer = s.peer := rfl
@[simp] theorem State.store_uarts (n : Noun) (i : Nat) (sub a : String) (v : Val) : (s.store n i sub a v).uarts = s.uarts := rfl
@[simp] theorem State.store_spi (n : Noun) (i : Nat) (sub a : String) (v : Val) : (s.store n i sub a v).spi = s.spi := rfl
@[simp] theorem State.store_i2cs (n : Noun) (i : Nat) (sub a : String) (v : Val) : (s.store n i sub a v).i2cs = s.i2cs := rfl
@[simp] theorem State.store_pins (n : Noun) (i : Nat) (sub a : String) (v : Val) : (s.store n i sub a v).pins = s.pins := rfl
@[simp] theorem State.store_gnss (n : Noun) (i : Nat) (sub a : String) (v : Val) : (s.store n i sub a v).gnss = s.gnss := rfl
@[simp] theorem State.store_lastTick (n : Noun) (i : Nat) (sub a : String) (v : Val) : (s.store n i sub a v).lastTick = s.lastTick := rfl
@[simp] theorem State.store_freeIx (n : Noun) (i : Nat) (sub a : String) (v : Val) : (s.store n i sub a v).freeIx = s.freeIx := rfl
@[simp] theorem State.store_sessAt (n : Noun) (i : Nat) (sub a : String) (v : Val) (j : Nat) : (s.store n i sub a v).sessAt j = s.sessAt j := rfl
@[simp] theorem State.store_partAt (n : Noun) (i : Nat) (sub a : String) (v : Val) (j : Nat) : (s.store n i sub a v).partAt j = s.partAt j := rfl
@[simp] theorem State.store_unitAt (n : Noun) (i : Nat) (sub a : String) (v : Val) (j : Nat) : (s.store n i sub a v).unitAt j = s.unitAt j := rfl
@[simp] theorem State.store_implAt (n : Noun) (i : Nat) (sub a : String) (v : Val) (j : Nat) : (s.store n i sub a v).implAt j = s.implAt j := rfl
@[simp] theorem State.store_secAt (n : Noun) (i : Nat) (sub a : String) (v : Val) (j : Nat) : (s.store n i sub a v).secAt j = s.secAt j := rfl
@[simp] theorem State.store_odoAt (n : Noun) (i : Nat) (sub a : String) (v : Val) (j : Nat) : (s.store n i sub a v).odoAt j = s.odoAt j := rfl
@[simp] theorem State.store_sspAt (n : Noun) (i : Nat) (sub a : String) (v : Val) (j : Nat) : (s.store n i sub a v).sspAt j = s.sspAt j := rfl
@[simp] theorem State.store_prodAt (n : Noun) (i : Nat) (sub a : String) (v : Val) (j : Nat) : (s.store n i sub a v).prodAt j = s.prodAt j := rfl
@[simp] theorem State.store_now (n : Noun) (i : Nat) (sub a : String) (v : Val) : (s.store n i sub a v).now = s.now := rfl

/-! ### setOwner -/

@[simp] theorem State.setOwner_pending (n : Noun) (i o : Nat) : (s.setOwner n i o).pending = s.pending := rfl
@[simp] theorem State.setOwner_power (n : Noun) (i o : Nat) : (s.setOwner n i o).power = s.power := rfl
@[simp] theorem State.setOwner_times (n : Noun) (i o : Nat) : (s.setOwner n i o).times = s.times := rfl
@[simp] theorem State.setOwner_sess (n : Noun) (i o : Nat) : (s.setOwner n i o).sess = s.sess := rfl
@[simp] theorem State.setOwner_routed (n : Noun) (i o : Nat) : (s.setOwner n i o).routed = s.routed := rfl
@[simp] theorem State.setOwner_cfg (n : Noun) (i o : Nat) : (s.setOwner n i o).cfg = s.cfg := rfl
@[simp] theorem State.setOwner_cnts (n : Noun) (i o : Nat) : (s.setOwner n i o).cnts = s.cnts := rfl
@[simp] theorem State.setOwner_parts (n : Noun) (i o : Nat) : (s.setOwner n i o).parts = s.parts := rfl
@[simp] theorem State.setOwner_ownlock (n : Noun) (i o : Nat) : (s.setOwner n i o).ownlock = s.ownlock := rfl
@[simp] theorem State.setOwner_pinlock (n : Noun) (i o : Nat) : (s.setOwner n i o).pinlock = s.pinlock := rfl
@[simp] theorem State.setOwner_key0 (n : Noun) (i o : Nat) : (s.setOwner n i o).key0 = s.key0 := rfl
@[simp] theorem State.setOwner_authFails (n : Noun) (i o : Nat) : (s.setOwner n i o).authFails = s.authFails := rfl
@[simp] theorem State.setOwner_lockoutEnd (n : Noun) (i o : Nat) : (s.setOwner n i o).lockoutEnd = s.lockoutEnd := rfl
@[simp] theorem State.setOwner_islands (n : Noun) (i o : Nat) : (s.setOwner n i o).islands = s.islands := rfl
@[simp] theorem State.setOwner_safenLow (n : Noun) (i o : Nat) : (s.setOwner n i o).safenLow = s.safenLow := rfl
@[simp] theorem State.setOwner_attic (n : Noun) (i o : Nat) : (s.setOwner n i o).attic = s.attic := rfl
@[simp] theorem State.setOwner_trace (n : Noun) (i o : Nat) : (s.setOwner n i o).trace = s.trace := rfl
@[simp] theorem State.setOwner_faults (n : Noun) (i o : Nat) : (s.setOwner n i o).faults = s.faults := rfl
@[simp] theorem State.setOwner_units (n : Noun) (i o : Nat) : (s.setOwner n i o).units = s.units := rfl
@[simp] theorem State.setOwner_grants (n : Noun) (i o : Nat) : (s.setOwner n i o).grants = s.grants := rfl
@[simp] theorem State.setOwner_impls (n : Noun) (i o : Nat) : (s.setOwner n i o).impls = s.impls := rfl
@[simp] theorem State.setOwner_secs (n : Noun) (i o : Nat) : (s.setOwner n i o).secs = s.secs := rfl
@[simp] theorem State.setOwner_odos (n : Noun) (i o : Nat) : (s.setOwner n i o).odos = s.odos := rfl
@[simp] theorem State.setOwner_ssps (n : Noun) (i o : Nat) : (s.setOwner n i o).ssps = s.ssps := rfl
@[simp] theorem State.setOwner_prods (n : Noun) (i o : Nat) : (s.setOwner n i o).prods = s.prods := rfl
@[simp] theorem State.setOwner_cellar (n : Noun) (i o : Nat) : (s.setOwner n i o).cellar = s.cellar := rfl
@[simp] theorem State.setOwner_larder (n : Noun) (i o : Nat) : (s.setOwner n i o).larder = s.larder := rfl
@[simp] theorem State.setOwner_pantry (n : Noun) (i o : Nat) : (s.setOwner n i o).pantry = s.pantry := rfl
@[simp] theorem State.setOwner_cans (n : Noun) (i o : Nat) : (s.setOwner n i o).cans = s.cans := rfl
@[simp] theorem State.setOwner_peer (n : Noun) (i o : Nat) : (s.setOwner n i o).peer = s.peer := rfl
@[simp] theorem State.setOwner_uarts (n : Noun) (i o : Nat) : (s.setOwner n i o).uarts = s.uarts := rfl
@[simp] theorem State.setOwner_spi (n : Noun) (i o : Nat) : (s.setOwner n i o).spi = s.spi := rfl
@[simp] theorem State.setOwner_i2cs (n : Noun) (i o : Nat) : (s.setOwner n i o).i2cs = s.i2cs := rfl
@[simp] theorem State.setOwner_pins (n : Noun) (i o : Nat) : (s.setOwner n i o).pins = s.pins := rfl
@[simp] theorem State.setOwner_gnss (n : Noun) (i o : Nat) : (s.setOwner n i o).gnss = s.gnss := rfl
@[simp] theorem State.setOwner_lastTick (n : Noun) (i o : Nat) : (s.setOwner n i o).lastTick = s.lastTick := rfl
@[simp] theorem State.setOwner_freeIx (n : Noun) (i o : Nat) : (s.setOwner n i o).freeIx = s.freeIx := rfl
@[simp] theorem State.setOwner_sessAt (n : Noun) (i o : Nat) (j : Nat) : (s.setOwner n i o).sessAt j = s.sessAt j := rfl
@[simp] theorem State.setOwner_partAt (n : Noun) (i o : Nat) (j : Nat) : (s.setOwner n i o).partAt j = s.partAt j := rfl
@[simp] theorem State.setOwner_unitAt (n : Noun) (i o : Nat) (j : Nat) : (s.setOwner n i o).unitAt j = s.unitAt j := rfl
@[simp] theorem State.setOwner_implAt (n : Noun) (i o : Nat) (j : Nat) : (s.setOwner n i o).implAt j = s.implAt j := rfl
@[simp] theorem State.setOwner_secAt (n : Noun) (i o : Nat) (j : Nat) : (s.setOwner n i o).secAt j = s.secAt j := rfl
@[simp] theorem State.setOwner_odoAt (n : Noun) (i o : Nat) (j : Nat) : (s.setOwner n i o).odoAt j = s.odoAt j := rfl
@[simp] theorem State.setOwner_sspAt (n : Noun) (i o : Nat) (j : Nat) : (s.setOwner n i o).sspAt j = s.sspAt j := rfl
@[simp] theorem State.setOwner_prodAt (n : Noun) (i o : Nat) (j : Nat) : (s.setOwner n i o).prodAt j = s.prodAt j := rfl
@[simp] theorem State.setOwner_now (n : Noun) (i o : Nat) : (s.setOwner n i o).now = s.now := rfl

/-! ### advanceTo -/

@[simp] theorem State.advanceTo_pending (t : Nat) : (s.advanceTo t).pending = s.pending := rfl
@[simp] theorem State.advanceTo_power (t : Nat) : (s.advanceTo t).power = s.power := rfl
@[simp] theorem State.advanceTo_sess (t : Nat) : (s.advanceTo t).sess = s.sess := rfl
@[simp] theorem State.advanceTo_routed (t : Nat) : (s.advanceTo t).routed = s.routed := rfl
@[simp] theorem State.advanceTo_cfg (t : Nat) : (s.advanceTo t).cfg = s.cfg := rfl
@[simp] theorem State.advanceTo_cnts (t : Nat) : (s.advanceTo t).cnts = s.cnts := rfl
@[simp] theorem State.advanceTo_parts (t : Nat) : (s.advanceTo t).parts = s.parts := rfl
@[simp] theorem State.advanceTo_own (t : Nat) : (s.advanceTo t).own = s.own := rfl
@[simp] theorem State.advanceTo_ownlock (t : Nat) : (s.advanceTo t).ownlock = s.ownlock := rfl
@[simp] theorem State.advanceTo_pinlock (t : Nat) : (s.advanceTo t).pinlock = s.pinlock := rfl
@[simp] theorem State.advanceTo_key0 (t : Nat) : (s.advanceTo t).key0 = s.key0 := rfl
@[simp] theorem State.advanceTo_authFails (t : Nat) : (s.advanceTo t).authFails = s.authFails := rfl
@[simp] theorem State.advanceTo_lockoutEnd (t : Nat) : (s.advanceTo t).lockoutEnd = s.lockoutEnd := rfl
@[simp] theorem State.advanceTo_islands (t : Nat) : (s.advanceTo t).islands = s.islands := rfl
@[simp] theorem State.advanceTo_safenLow (t : Nat) : (s.advanceTo t).safenLow = s.safenLow := rfl
@[simp] theorem State.advanceTo_attic (t : Nat) : (s.advanceTo t).attic = s.attic := rfl
@[simp] theorem State.advanceTo_trace (t : Nat) : (s.advanceTo t).trace = s.trace := rfl
@[simp] theorem State.advanceTo_faults (t : Nat) : (s.advanceTo t).faults = s.faults := rfl
@[simp] theorem State.advanceTo_units (t : Nat) : (s.advanceTo t).units = s.units := rfl
@[simp] theorem State.advanceTo_grants (t : Nat) : (s.advanceTo t).grants = s.grants := rfl
@[simp] theorem State.advanceTo_impls (t : Nat) : (s.advanceTo t).impls = s.impls := rfl
@[simp] theorem State.advanceTo_secs (t : Nat) : (s.advanceTo t).secs = s.secs := rfl
@[simp] theorem State.advanceTo_odos (t : Nat) : (s.advanceTo t).odos = s.odos := rfl
@[simp] theorem State.advanceTo_ssps (t : Nat) : (s.advanceTo t).ssps = s.ssps := rfl
@[simp] theorem State.advanceTo_prods (t : Nat) : (s.advanceTo t).prods = s.prods := rfl
@[simp] theorem State.advanceTo_cellar (t : Nat) : (s.advanceTo t).cellar = s.cellar := rfl
@[simp] theorem State.advanceTo_larder (t : Nat) : (s.advanceTo t).larder = s.larder := rfl
@[simp] theorem State.advanceTo_pantry (t : Nat) : (s.advanceTo t).pantry = s.pantry := rfl
@[simp] theorem State.advanceTo_cans (t : Nat) : (s.advanceTo t).cans = s.cans := rfl
@[simp] theorem State.advanceTo_peer (t : Nat) : (s.advanceTo t).peer = s.peer := rfl
@[simp] theorem State.advanceTo_uarts (t : Nat) : (s.advanceTo t).uarts = s.uarts := rfl
@[simp] theorem State.advanceTo_spi (t : Nat) : (s.advanceTo t).spi = s.spi := rfl
@[simp] theorem State.advanceTo_i2cs (t : Nat) : (s.advanceTo t).i2cs = s.i2cs := rfl
@[simp] theorem State.advanceTo_pins (t : Nat) : (s.advanceTo t).pins = s.pins := rfl
@[simp] theorem State.advanceTo_gnss (t : Nat) : (s.advanceTo t).gnss = s.gnss := rfl
@[simp] theorem State.advanceTo_lastTick (t : Nat) : (s.advanceTo t).lastTick = s.lastTick := rfl
@[simp] theorem State.advanceTo_freeIx (t : Nat) : (s.advanceTo t).freeIx = s.freeIx := rfl
@[simp] theorem State.advanceTo_sessAt (t : Nat) (j : Nat) : (s.advanceTo t).sessAt j = s.sessAt j := rfl
@[simp] theorem State.advanceTo_partAt (t : Nat) (j : Nat) : (s.advanceTo t).partAt j = s.partAt j := rfl
@[simp] theorem State.advanceTo_unitAt (t : Nat) (j : Nat) : (s.advanceTo t).unitAt j = s.unitAt j := rfl
@[simp] theorem State.advanceTo_implAt (t : Nat) (j : Nat) : (s.advanceTo t).implAt j = s.implAt j := rfl
@[simp] theorem State.advanceTo_secAt (t : Nat) (j : Nat) : (s.advanceTo t).secAt j = s.secAt j := rfl
@[simp] theorem State.advanceTo_odoAt (t : Nat) (j : Nat) : (s.advanceTo t).odoAt j = s.odoAt j := rfl
@[simp] theorem State.advanceTo_sspAt (t : Nat) (j : Nat) : (s.advanceTo t).sspAt j = s.sspAt j := rfl
@[simp] theorem State.advanceTo_prodAt (t : Nat) (j : Nat) : (s.advanceTo t).prodAt j = s.prodAt j := rfl

/-! ### tick -/

@[simp] theorem State.tick_pending (n : String) (i p : Nat) : (s.tick n i p).pending = s.pending := rfl
@[simp] theorem State.tick_power (n : String) (i p : Nat) : (s.tick n i p).power = s.power := rfl
@[simp] theorem State.tick_sess (n : String) (i p : Nat) : (s.tick n i p).sess = s.sess := rfl
@[simp] theorem State.tick_routed (n : String) (i p : Nat) : (s.tick n i p).routed = s.routed := rfl
@[simp] theorem State.tick_cfg (n : String) (i p : Nat) : (s.tick n i p).cfg = s.cfg := rfl
@[simp] theorem State.tick_cnts (n : String) (i p : Nat) : (s.tick n i p).cnts = s.cnts := rfl
@[simp] theorem State.tick_parts (n : String) (i p : Nat) : (s.tick n i p).parts = s.parts := rfl
@[simp] theorem State.tick_own (n : String) (i p : Nat) : (s.tick n i p).own = s.own := rfl
@[simp] theorem State.tick_ownlock (n : String) (i p : Nat) : (s.tick n i p).ownlock = s.ownlock := rfl
@[simp] theorem State.tick_pinlock (n : String) (i p : Nat) : (s.tick n i p).pinlock = s.pinlock := rfl
@[simp] theorem State.tick_key0 (n : String) (i p : Nat) : (s.tick n i p).key0 = s.key0 := rfl
@[simp] theorem State.tick_authFails (n : String) (i p : Nat) : (s.tick n i p).authFails = s.authFails := rfl
@[simp] theorem State.tick_lockoutEnd (n : String) (i p : Nat) : (s.tick n i p).lockoutEnd = s.lockoutEnd := rfl
@[simp] theorem State.tick_islands (n : String) (i p : Nat) : (s.tick n i p).islands = s.islands := rfl
@[simp] theorem State.tick_safenLow (n : String) (i p : Nat) : (s.tick n i p).safenLow = s.safenLow := rfl
@[simp] theorem State.tick_attic (n : String) (i p : Nat) : (s.tick n i p).attic = s.attic := rfl
@[simp] theorem State.tick_trace (n : String) (i p : Nat) : (s.tick n i p).trace = s.trace := rfl
@[simp] theorem State.tick_faults (n : String) (i p : Nat) : (s.tick n i p).faults = s.faults := rfl
@[simp] theorem State.tick_units (n : String) (i p : Nat) : (s.tick n i p).units = s.units := rfl
@[simp] theorem State.tick_grants (n : String) (i p : Nat) : (s.tick n i p).grants = s.grants := rfl
@[simp] theorem State.tick_impls (n : String) (i p : Nat) : (s.tick n i p).impls = s.impls := rfl
@[simp] theorem State.tick_secs (n : String) (i p : Nat) : (s.tick n i p).secs = s.secs := rfl
@[simp] theorem State.tick_odos (n : String) (i p : Nat) : (s.tick n i p).odos = s.odos := rfl
@[simp] theorem State.tick_ssps (n : String) (i p : Nat) : (s.tick n i p).ssps = s.ssps := rfl
@[simp] theorem State.tick_prods (n : String) (i p : Nat) : (s.tick n i p).prods = s.prods := rfl
@[simp] theorem State.tick_cellar (n : String) (i p : Nat) : (s.tick n i p).cellar = s.cellar := rfl
@[simp] theorem State.tick_larder (n : String) (i p : Nat) : (s.tick n i p).larder = s.larder := rfl
@[simp] theorem State.tick_pantry (n : String) (i p : Nat) : (s.tick n i p).pantry = s.pantry := rfl
@[simp] theorem State.tick_cans (n : String) (i p : Nat) : (s.tick n i p).cans = s.cans := rfl
@[simp] theorem State.tick_peer (n : String) (i p : Nat) : (s.tick n i p).peer = s.peer := rfl
@[simp] theorem State.tick_uarts (n : String) (i p : Nat) : (s.tick n i p).uarts = s.uarts := rfl
@[simp] theorem State.tick_spi (n : String) (i p : Nat) : (s.tick n i p).spi = s.spi := rfl
@[simp] theorem State.tick_i2cs (n : String) (i p : Nat) : (s.tick n i p).i2cs = s.i2cs := rfl
@[simp] theorem State.tick_pins (n : String) (i p : Nat) : (s.tick n i p).pins = s.pins := rfl
@[simp] theorem State.tick_gnss (n : String) (i p : Nat) : (s.tick n i p).gnss = s.gnss := rfl
@[simp] theorem State.tick_freeIx (n : String) (i p : Nat) : (s.tick n i p).freeIx = s.freeIx := rfl
@[simp] theorem State.tick_sessAt (n : String) (i p : Nat) (j : Nat) : (s.tick n i p).sessAt j = s.sessAt j := rfl
@[simp] theorem State.tick_partAt (n : String) (i p : Nat) (j : Nat) : (s.tick n i p).partAt j = s.partAt j := rfl
@[simp] theorem State.tick_unitAt (n : String) (i p : Nat) (j : Nat) : (s.tick n i p).unitAt j = s.unitAt j := rfl
@[simp] theorem State.tick_implAt (n : String) (i p : Nat) (j : Nat) : (s.tick n i p).implAt j = s.implAt j := rfl
@[simp] theorem State.tick_secAt (n : String) (i p : Nat) (j : Nat) : (s.tick n i p).secAt j = s.secAt j := rfl
@[simp] theorem State.tick_odoAt (n : String) (i p : Nat) (j : Nat) : (s.tick n i p).odoAt j = s.odoAt j := rfl
@[simp] theorem State.tick_sspAt (n : String) (i p : Nat) (j : Nat) : (s.tick n i p).sspAt j = s.sspAt j := rfl
@[simp] theorem State.tick_prodAt (n : String) (i p : Nat) (j : Nat) : (s.tick n i p).prodAt j = s.prodAt j := rfl

/-! ### free -/

@[simp] theorem State.free_pending  : s.free.2.pending = s.pending := rfl
@[simp] theorem State.free_power  : s.free.2.power = s.power := rfl
@[simp] theorem State.free_times  : s.free.2.times = s.times := rfl
@[simp] theorem State.free_sess  : s.free.2.sess = s.sess := rfl
@[simp] theorem State.free_routed  : s.free.2.routed = s.routed := rfl
@[simp] theorem State.free_cfg  : s.free.2.cfg = s.cfg := rfl
@[simp] theorem State.free_cnts  : s.free.2.cnts = s.cnts := rfl
@[simp] theorem State.free_parts  : s.free.2.parts = s.parts := rfl
@[simp] theorem State.free_own  : s.free.2.own = s.own := rfl
@[simp] theorem State.free_ownlock  : s.free.2.ownlock = s.ownlock := rfl
@[simp] theorem State.free_pinlock  : s.free.2.pinlock = s.pinlock := rfl
@[simp] theorem State.free_key0  : s.free.2.key0 = s.key0 := rfl
@[simp] theorem State.free_authFails  : s.free.2.authFails = s.authFails := rfl
@[simp] theorem State.free_lockoutEnd  : s.free.2.lockoutEnd = s.lockoutEnd := rfl
@[simp] theorem State.free_islands  : s.free.2.islands = s.islands := rfl
@[simp] theorem State.free_safenLow  : s.free.2.safenLow = s.safenLow := rfl
@[simp] theorem State.free_attic  : s.free.2.attic = s.attic := rfl
@[simp] theorem State.free_trace  : s.free.2.trace = s.trace := rfl
@[simp] theorem State.free_faults  : s.free.2.faults = s.faults := rfl
@[simp] theorem State.free_units  : s.free.2.units = s.units := rfl
@[simp] theorem State.free_grants  : s.free.2.grants = s.grants := rfl
@[simp] theorem State.free_impls  : s.free.2.impls = s.impls := rfl
@[simp] theorem State.free_secs  : s.free.2.secs = s.secs := rfl
@[simp] theorem State.free_odos  : s.free.2.odos = s.odos := rfl
@[simp] theorem State.free_ssps  : s.free.2.ssps = s.ssps := rfl
@[simp] theorem State.free_prods  : s.free.2.prods = s.prods := rfl
@[simp] theorem State.free_cellar  : s.free.2.cellar = s.cellar := rfl
@[simp] theorem State.free_larder  : s.free.2.larder = s.larder := rfl
@[simp] theorem State.free_pantry  : s.free.2.pantry = s.pantry := rfl
@[simp] theorem State.free_cans  : s.free.2.cans = s.cans := rfl
@[simp] theorem State.free_peer  : s.free.2.peer = s.peer := rfl
@[simp] theorem State.free_uarts  : s.free.2.uarts = s.uarts := rfl
@[simp] theorem State.free_spi  : s.free.2.spi = s.spi := rfl
@[simp] theorem State.free_i2cs  : s.free.2.i2cs = s.i2cs := rfl
@[simp] theorem State.free_pins  : s.free.2.pins = s.pins := rfl
@[simp] theorem State.free_gnss  : s.free.2.gnss = s.gnss := rfl
@[simp] theorem State.free_lastTick  : s.free.2.lastTick = s.lastTick := rfl
@[simp] theorem State.free_sessAt  (j : Nat) : s.free.2.sessAt j = s.sessAt j := rfl
@[simp] theorem State.free_partAt  (j : Nat) : s.free.2.partAt j = s.partAt j := rfl
@[simp] theorem State.free_unitAt  (j : Nat) : s.free.2.unitAt j = s.unitAt j := rfl
@[simp] theorem State.free_implAt  (j : Nat) : s.free.2.implAt j = s.implAt j := rfl
@[simp] theorem State.free_secAt  (j : Nat) : s.free.2.secAt j = s.secAt j := rfl
@[simp] theorem State.free_odoAt  (j : Nat) : s.free.2.odoAt j = s.odoAt j := rfl
@[simp] theorem State.free_sspAt  (j : Nat) : s.free.2.sspAt j = s.sspAt j := rfl
@[simp] theorem State.free_prodAt  (j : Nat) : s.free.2.prodAt j = s.prodAt j := rfl
@[simp] theorem State.free_now  : s.free.2.now = s.now := rfl

/-- Time moves to the instant, and never back. -/
@[simp] theorem State.advanceTo_now (t : Nat) : (s.advanceTo t).now = max s.now t := by
  simp only [State.advanceTo, State.now]; omega

/-- A stored attribute reads as stored, and every other as before. -/
theorem State.store_val (n m : Noun) (i j : Nat) (sub sub' a b : String) (v : Val) :
    (s.store n i sub a v).val m j b sub' = if n = m ∧ i = j ∧ sub = sub' ∧ a = b then v else s.val m j b sub' := by
  simp only [State.store, State.val, AMap.find_put]
  by_cases h : n = m ∧ i = j ∧ sub = sub' ∧ a = b
  · obtain ⟨rfl, rfl, rfl, rfl⟩ := h; simp
  · rw [if_neg h, if_neg]
    intro hk
    injection hk with h1 h2 h3 h4
    exact h ⟨h1, h2, h3, h4⟩

/-- A counter reads as set, modulo 2^32, and every other as before. -/
theorem State.setCnt_cnt (n m : String) (i j v : Nat) :
    (s.setCnt n i v).cnt m j = if n = m ∧ i = j then v % 2 ^ 32 else s.cnt m j := by
  simp only [State.setCnt, State.cnt, AMap.find_put, Prod.mk.injEq]
  split <;> simp

/-- An increment, modulo 2^32. -/
theorem State.bump_cnt (n m : String) (i j : Nat) :
    (s.bump n i).cnt m j = if n = m ∧ i = j then (s.cnt n i + 1) % 2 ^ 32 else s.cnt m j := by
  simp only [State.bump, State.bumpBy, State.setCnt_cnt]

end Sys2Proof.Machine
end

