-- ==== Sys2Proof/Laws/Ops.lean ====
section
/-!
SUPPORT. Sys2Proof/Laws/Ops.lean: what each shared operation leaves unchanged: event lines touch the sessions, the counters and the trace; records
the attic and the larder besides; replies the session and the counters.
-/
set_option Elab.async false

namespace Sys2Proof.Machine

variable (s : State)

/-- What every turn of a loop keeps, the loop keeps. -/
theorem overList_keeps {α β : Type} (g : State → β) (f : α → State → State) (h : ∀ x a, g (f x a) = g a) (xs : List α) (a : State) :
    g (overList xs f a) = g a := by
  induction xs generalizing a with
  | nil => rfl
  | cons x xs ih => simp only [overList, List.foldl_cons] at *; rw [ih, h]

/-! ### evTo -/

@[simp] theorem State.evTo_pending (i : Nat) (b : String) : (s.evTo i b).pending = s.pending := by simp only [State.evTo]; repeat (first | split | rfl)
@[simp] theorem State.evTo_power (i : Nat) (b : String) : (s.evTo i b).power = s.power := by simp only [State.evTo]; repeat (first | split | rfl)
@[simp] theorem State.evTo_times (i : Nat) (b : String) : (s.evTo i b).times = s.times := by simp only [State.evTo]; repeat (first | split | rfl)
@[simp] theorem State.evTo_routed (i : Nat) (b : String) : (s.evTo i b).routed = s.routed := by simp only [State.evTo]; repeat (first | split | rfl)
@[simp] theorem State.evTo_cfg (i : Nat) (b : String) : (s.evTo i b).cfg = s.cfg := by simp only [State.evTo]; repeat (first | split | rfl)
@[simp] theorem State.evTo_parts (i : Nat) (b : String) : (s.evTo i b).parts = s.parts := by simp only [State.evTo]; repeat (first | split | rfl)
@[simp] theorem State.evTo_own (i : Nat) (b : String) : (s.evTo i b).own = s.own := by simp only [State.evTo]; repeat (first | split | rfl)
@[simp] theorem State.evTo_ownlock (i : Nat) (b : String) : (s.evTo i b).ownlock = s.ownlock := by simp only [State.evTo]; repeat (first | split | rfl)
@[simp] theorem State.evTo_pinlock (i : Nat) (b : String) : (s.evTo i b).pinlock = s.pinlock := by simp only [State.evTo]; repeat (first | split | rfl)
@[simp] theorem State.evTo_key0 (i : Nat) (b : String) : (s.evTo i b).key0 = s.key0 := by simp only [State.evTo]; repeat (first | split | rfl)
@[simp] theorem State.evTo_authFails (i : Nat) (b : String) : (s.evTo i b).authFails = s.authFails := by simp only [State.evTo]; repeat (first | split | rfl)
@[simp] theorem State.evTo_lockoutEnd (i : Nat) (b : String) : (s.evTo i b).lockoutEnd = s.lockoutEnd := by simp only [State.evTo]; repeat (first | split | rfl)
@[simp] theorem State.evTo_islands (i : Nat) (b : String) : (s.evTo i b).islands = s.islands := by simp only [State.evTo]; repeat (first | split | rfl)
@[simp] theorem State.evTo_safenLow (i : Nat) (b : String) : (s.evTo i b).safenLow = s.safenLow := by simp only [State.evTo]; repeat (first | split | rfl)
@[simp] theorem State.evTo_attic (i : Nat) (b : String) : (s.evTo i b).attic = s.attic := by simp only [State.evTo]; repeat (first | split | rfl)
@[simp] theorem State.evTo_trace (i : Nat) (b : String) : (s.evTo i b).trace = s.trace := by simp only [State.evTo]; repeat (first | split | rfl)
@[simp] theorem State.evTo_faults (i : Nat) (b : String) : (s.evTo i b).faults = s.faults := by simp only [State.evTo]; repeat (first | split | rfl)
@[simp] theorem State.evTo_units (i : Nat) (b : String) : (s.evTo i b).units = s.units := by simp only [State.evTo]; repeat (first | split | rfl)
@[simp] theorem State.evTo_grants (i : Nat) (b : String) : (s.evTo i b).grants = s.grants := by simp only [State.evTo]; repeat (first | split | rfl)
@[simp] theorem State.evTo_impls (i : Nat) (b : String) : (s.evTo i b).impls = s.impls := by simp only [State.evTo]; repeat (first | split | rfl)
@[simp] theorem State.evTo_secs (i : Nat) (b : String) : (s.evTo i b).secs = s.secs := by simp only [State.evTo]; repeat (first | split | rfl)
@[simp] theorem State.evTo_odos (i : Nat) (b : String) : (s.evTo i b).odos = s.odos := by simp only [State.evTo]; repeat (first | split | rfl)
@[simp] theorem State.evTo_ssps (i : Nat) (b : String) : (s.evTo i b).ssps = s.ssps := by simp only [State.evTo]; repeat (first | split | rfl)
@[simp] theorem State.evTo_prods (i : Nat) (b : String) : (s.evTo i b).prods = s.prods := by simp only [State.evTo]; repeat (first | split | rfl)
@[simp] theorem State.evTo_cellar (i : Nat) (b : String) : (s.evTo i b).cellar = s.cellar := by simp only [State.evTo]; repeat (first | split | rfl)
@[simp] theorem State.evTo_larder (i : Nat) (b : String) : (s.evTo i b).larder = s.larder := by simp only [State.evTo]; repeat (first | split | rfl)
@[simp] theorem State.evTo_pantry (i : Nat) (b : String) : (s.evTo i b).pantry = s.pantry := by simp only [State.evTo]; repeat (first | split | rfl)
@[simp] theorem State.evTo_cans (i : Nat) (b : String) : (s.evTo i b).cans = s.cans := by simp only [State.evTo]; repeat (first | split | rfl)
@[simp] theorem State.evTo_peer (i : Nat) (b : String) : (s.evTo i b).peer = s.peer := by simp only [State.evTo]; repeat (first | split | rfl)
@[simp] theorem State.evTo_uarts (i : Nat) (b : String) : (s.evTo i b).uarts = s.uarts := by simp only [State.evTo]; repeat (first | split | rfl)
@[simp] theorem State.evTo_spi (i : Nat) (b : String) : (s.evTo i b).spi = s.spi := by simp only [State.evTo]; repeat (first | split | rfl)
@[simp] theorem State.evTo_i2cs (i : Nat) (b : String) : (s.evTo i b).i2cs = s.i2cs := by simp only [State.evTo]; repeat (first | split | rfl)
@[simp] theorem State.evTo_pins (i : Nat) (b : String) : (s.evTo i b).pins = s.pins := by simp only [State.evTo]; repeat (first | split | rfl)
@[simp] theorem State.evTo_gnss (i : Nat) (b : String) : (s.evTo i b).gnss = s.gnss := by simp only [State.evTo]; repeat (first | split | rfl)
@[simp] theorem State.evTo_lastTick (i : Nat) (b : String) : (s.evTo i b).lastTick = s.lastTick := by simp only [State.evTo]; repeat (first | split | rfl)
@[simp] theorem State.evTo_freeIx (i : Nat) (b : String) : (s.evTo i b).freeIx = s.freeIx := by simp only [State.evTo]; repeat (first | split | rfl)
@[simp] theorem State.evTo_partAt (i : Nat) (b : String) (j : Nat) : (s.evTo i b).partAt j = s.partAt j := by simp only [State.partAt, State.evTo_parts]
@[simp] theorem State.evTo_unitAt (i : Nat) (b : String) (j : Nat) : (s.evTo i b).unitAt j = s.unitAt j := by simp only [State.unitAt, State.evTo_units]
@[simp] theorem State.evTo_implAt (i : Nat) (b : String) (j : Nat) : (s.evTo i b).implAt j = s.implAt j := by simp only [State.implAt, State.evTo_impls]
@[simp] theorem State.evTo_secAt (i : Nat) (b : String) (j : Nat) : (s.evTo i b).secAt j = s.secAt j := by simp only [State.secAt, State.evTo_secs]
@[simp] theorem State.evTo_odoAt (i : Nat) (b : String) (j : Nat) : (s.evTo i b).odoAt j = s.odoAt j := by simp only [State.odoAt, State.evTo_odos]
@[simp] theorem State.evTo_sspAt (i : Nat) (b : String) (j : Nat) : (s.evTo i b).sspAt j = s.sspAt j := by simp only [State.sspAt, State.evTo_ssps]
@[simp] theorem State.evTo_prodAt (i : Nat) (b : String) (j : Nat) : (s.evTo i b).prodAt j = s.prodAt j := by simp only [State.prodAt, State.evTo_prods]
@[simp] theorem State.evTo_now (i : Nat) (b : String) : (s.evTo i b).now = s.now := by simp only [State.now, State.evTo_times]

/-! ### traceLine -/

@[simp] theorem State.traceLine_pending (l : Nat) (c t : String) : (s.traceLine l c t).pending = s.pending := by simp only [State.traceLine]; repeat (first | split | rfl)
@[simp] theorem State.traceLine_power (l : Nat) (c t : String) : (s.traceLine l c t).power = s.power := by simp only [State.traceLine]; repeat (first | split | rfl)
@[simp] theorem State.traceLine_times (l : Nat) (c t : String) : (s.traceLine l c t).times = s.times := by simp only [State.traceLine]; repeat (first | split | rfl)
@[simp] theorem State.traceLine_sess (l : Nat) (c t : String) : (s.traceLine l c t).sess = s.sess := by simp only [State.traceLine]; repeat (first | split | rfl)
@[simp] theorem State.traceLine_routed (l : Nat) (c t : String) : (s.traceLine l c t).routed = s.routed := by simp only [State.traceLine]; repeat (first | split | rfl)
@[simp] theorem State.traceLine_cfg (l : Nat) (c t : String) : (s.traceLine l c t).cfg = s.cfg := by simp only [State.traceLine]; repeat (first | split | rfl)
@[simp] theorem State.traceLine_parts (l : Nat) (c t : String) : (s.traceLine l c t).parts = s.parts := by simp only [State.traceLine]; repeat (first | split | rfl)
@[simp] theorem State.traceLine_own (l : Nat) (c t : String) : (s.traceLine l c t).own = s.own := by simp only [State.traceLine]; repeat (first | split | rfl)
@[simp] theorem State.traceLine_ownlock (l : Nat) (c t : String) : (s.traceLine l c t).ownlock = s.ownlock := by simp only [State.traceLine]; repeat (first | split | rfl)
@[simp] theorem State.traceLine_pinlock (l : Nat) (c t : String) : (s.traceLine l c t).pinlock = s.pinlock := by simp only [State.traceLine]; repeat (first | split | rfl)
@[simp] theorem State.traceLine_key0 (l : Nat) (c t : String) : (s.traceLine l c t).key0 = s.key0 := by simp only [State.traceLine]; repeat (first | split | rfl)
@[simp] theorem State.traceLine_authFails (l : Nat) (c t : String) : (s.traceLine l c t).authFails = s.authFails := by simp only [State.traceLine]; repeat (first | split | rfl)
@[simp] theorem State.traceLine_lockoutEnd (l : Nat) (c t : String) : (s.traceLine l c t).lockoutEnd = s.lockoutEnd := by simp only [State.traceLine]; repeat (first | split | rfl)
@[simp] theorem State.traceLine_islands (l : Nat) (c t : String) : (s.traceLine l c t).islands = s.islands := by simp only [State.traceLine]; repeat (first | split | rfl)
@[simp] theorem State.traceLine_safenLow (l : Nat) (c t : String) : (s.traceLine l c t).safenLow = s.safenLow := by simp only [State.traceLine]; repeat (first | split | rfl)
@[simp] theorem State.traceLine_attic (l : Nat) (c t : String) : (s.traceLine l c t).attic = s.attic := by simp only [State.traceLine]; repeat (first | split | rfl)
@[simp] theorem State.traceLine_faults (l : Nat) (c t : String) : (s.traceLine l c t).faults = s.faults := by simp only [State.traceLine]; repeat (first | split | rfl)
@[simp] theorem State.traceLine_units (l : Nat) (c t : String) : (s.traceLine l c t).units = s.units := by simp only [State.traceLine]; repeat (first | split | rfl)
@[simp] theorem State.traceLine_grants (l : Nat) (c t : String) : (s.traceLine l c t).grants = s.grants := by simp only [State.traceLine]; repeat (first | split | rfl)
@[simp] theorem State.traceLine_impls (l : Nat) (c t : String) : (s.traceLine l c t).impls = s.impls := by simp only [State.traceLine]; repeat (first | split | rfl)
@[simp] theorem State.traceLine_secs (l : Nat) (c t : String) : (s.traceLine l c t).secs = s.secs := by simp only [State.traceLine]; repeat (first | split | rfl)
@[simp] theorem State.traceLine_odos (l : Nat) (c t : String) : (s.traceLine l c t).odos = s.odos := by simp only [State.traceLine]; repeat (first | split | rfl)
@[simp] theorem State.traceLine_ssps (l : Nat) (c t : String) : (s.traceLine l c t).ssps = s.ssps := by simp only [State.traceLine]; repeat (first | split | rfl)
@[simp] theorem State.traceLine_prods (l : Nat) (c t : String) : (s.traceLine l c t).prods = s.prods := by simp only [State.traceLine]; repeat (first | split | rfl)
@[simp] theorem State.traceLine_cellar (l : Nat) (c t : String) : (s.traceLine l c t).cellar = s.cellar := by simp only [State.traceLine]; repeat (first | split | rfl)
@[simp] theorem State.traceLine_larder (l : Nat) (c t : String) : (s.traceLine l c t).larder = s.larder := by simp only [State.traceLine]; repeat (first | split | rfl)
@[simp] theorem State.traceLine_pantry (l : Nat) (c t : String) : (s.traceLine l c t).pantry = s.pantry := by simp only [State.traceLine]; repeat (first | split | rfl)
@[simp] theorem State.traceLine_cans (l : Nat) (c t : String) : (s.traceLine l c t).cans = s.cans := by simp only [State.traceLine]; repeat (first | split | rfl)
@[simp] theorem State.traceLine_peer (l : Nat) (c t : String) : (s.traceLine l c t).peer = s.peer := by simp only [State.traceLine]; repeat (first | split | rfl)
@[simp] theorem State.traceLine_uarts (l : Nat) (c t : String) : (s.traceLine l c t).uarts = s.uarts := by simp only [State.traceLine]; repeat (first | split | rfl)
@[simp] theorem State.traceLine_spi (l : Nat) (c t : String) : (s.traceLine l c t).spi = s.spi := by simp only [State.traceLine]; repeat (first | split | rfl)
@[simp] theorem State.traceLine_i2cs (l : Nat) (c t : String) : (s.traceLine l c t).i2cs = s.i2cs := by simp only [State.traceLine]; repeat (first | split | rfl)
@[simp] theorem State.traceLine_pins (l : Nat) (c t : String) : (s.traceLine l c t).pins = s.pins := by simp only [State.traceLine]; repeat (first | split | rfl)
@[simp] theorem State.traceLine_gnss (l : Nat) (c t : String) : (s.traceLine l c t).gnss = s.gnss := by simp only [State.traceLine]; repeat (first | split | rfl)
@[simp] theorem State.traceLine_lastTick (l : Nat) (c t : String) : (s.traceLine l c t).lastTick = s.lastTick := by simp only [State.traceLine]; repeat (first | split | rfl)
@[simp] theorem State.traceLine_freeIx (l : Nat) (c t : String) : (s.traceLine l c t).freeIx = s.freeIx := by simp only [State.traceLine]; repeat (first | split | rfl)
@[simp] theorem State.traceLine_sessAt (l : Nat) (c t : String) (j : Nat) : (s.traceLine l c t).sessAt j = s.sessAt j := by simp only [State.sessAt, State.traceLine_sess]
@[simp] theorem State.traceLine_partAt (l : Nat) (c t : String) (j : Nat) : (s.traceLine l c t).partAt j = s.partAt j := by simp only [State.partAt, State.traceLine_parts]
@[simp] theorem State.traceLine_unitAt (l : Nat) (c t : String) (j : Nat) : (s.traceLine l c t).unitAt j = s.unitAt j := by simp only [State.unitAt, State.traceLine_units]
@[simp] theorem State.traceLine_implAt (l : Nat) (c t : String) (j : Nat) : (s.traceLine l c t).implAt j = s.implAt j := by simp only [State.implAt, State.traceLine_impls]
@[simp] theorem State.traceLine_secAt (l : Nat) (c t : String) (j : Nat) : (s.traceLine l c t).secAt j = s.secAt j := by simp only [State.secAt, State.traceLine_secs]
@[simp] theorem State.traceLine_odoAt (l : Nat) (c t : String) (j : Nat) : (s.traceLine l c t).odoAt j = s.odoAt j := by simp only [State.odoAt, State.traceLine_odos]
@[simp] theorem State.traceLine_sspAt (l : Nat) (c t : String) (j : Nat) : (s.traceLine l c t).sspAt j = s.sspAt j := by simp only [State.sspAt, State.traceLine_ssps]
@[simp] theorem State.traceLine_prodAt (l : Nat) (c t : String) (j : Nat) : (s.traceLine l c t).prodAt j = s.prodAt j := by simp only [State.prodAt, State.traceLine_prods]
@[simp] theorem State.traceLine_now (l : Nat) (c t : String) : (s.traceLine l c t).now = s.now := by simp only [State.now, State.traceLine_times]

/-! ### ev -/

@[simp] theorem State.ev_pending (c : String) (d : EvDest) (b : String) : (s.ev c d b).pending = s.pending := by unfold State.ev; rw [State.traceLine_pending]; exact overList_keeps State.pending _ (fun x a => by split <;> simp) _ _
@[simp] theorem State.ev_power (c : String) (d : EvDest) (b : String) : (s.ev c d b).power = s.power := by unfold State.ev; rw [State.traceLine_power]; exact overList_keeps State.power _ (fun x a => by split <;> simp) _ _
@[simp] theorem State.ev_times (c : String) (d : EvDest) (b : String) : (s.ev c d b).times = s.times := by unfold State.ev; rw [State.traceLine_times]; exact overList_keeps State.times _ (fun x a => by split <;> simp) _ _
@[simp] theorem State.ev_routed (c : String) (d : EvDest) (b : String) : (s.ev c d b).routed = s.routed := by unfold State.ev; rw [State.traceLine_routed]; exact overList_keeps State.routed _ (fun x a => by split <;> simp) _ _
@[simp] theorem State.ev_cfg (c : String) (d : EvDest) (b : String) : (s.ev c d b).cfg = s.cfg := by unfold State.ev; rw [State.traceLine_cfg]; exact overList_keeps State.cfg _ (fun x a => by split <;> simp) _ _
@[simp] theorem State.ev_parts (c : String) (d : EvDest) (b : String) : (s.ev c d b).parts = s.parts := by unfold State.ev; rw [State.traceLine_parts]; exact overList_keeps State.parts _ (fun x a => by split <;> simp) _ _
@[simp] theorem State.ev_own (c : String) (d : EvDest) (b : String) : (s.ev c d b).own = s.own := by unfold State.ev; rw [State.traceLine_own]; exact overList_keeps State.own _ (fun x a => by split <;> simp) _ _
@[simp] theorem State.ev_ownlock (c : String) (d : EvDest) (b : String) : (s.ev c d b).ownlock = s.ownlock := by unfold State.ev; rw [State.traceLine_ownlock]; exact overList_keeps State.ownlock _ (fun x a => by split <;> simp) _ _
@[simp] theorem State.ev_pinlock (c : String) (d : EvDest) (b : String) : (s.ev c d b).pinlock = s.pinlock := by unfold State.ev; rw [State.traceLine_pinlock]; exact overList_keeps State.pinlock _ (fun x a => by split <;> simp) _ _
@[simp] theorem State.ev_key0 (c : String) (d : EvDest) (b : String) : (s.ev c d b).key0 = s.key0 := by unfold State.ev; rw [State.traceLine_key0]; exact overList_keeps State.key0 _ (fun x a => by split <;> simp) _ _
@[simp] theorem State.ev_authFails (c : String) (d : EvDest) (b : String) : (s.ev c d b).authFails = s.authFails := by unfold State.ev; rw [State.traceLine_authFails]; exact overList_keeps State.authFails _ (fun x a => by split <;> simp) _ _
@[simp] theorem State.ev_lockoutEnd (c : String) (d : EvDest) (b : String) : (s.ev c d b).lockoutEnd = s.lockoutEnd := by unfold State.ev; rw [State.traceLine_lockoutEnd]; exact overList_keeps State.lockoutEnd _ (fun x a => by split <;> simp) _ _
@[simp] theorem State.ev_islands (c : String) (d : EvDest) (b : String) : (s.ev c d b).islands = s.islands := by unfold State.ev; rw [State.traceLine_islands]; exact overList_keeps State.islands _ (fun x a => by split <;> simp) _ _
@[simp] theorem State.ev_safenLow (c : String) (d : EvDest) (b : String) : (s.ev c d b).safenLow = s.safenLow := by unfold State.ev; rw [State.traceLine_safenLow]; exact overList_keeps State.safenLow _ (fun x a => by split <;> simp) _ _
@[simp] theorem State.ev_attic (c : String) (d : EvDest) (b : String) : (s.ev c d b).attic = s.attic := by unfold State.ev; rw [State.traceLine_attic]; exact overList_keeps State.attic _ (fun x a => by split <;> simp) _ _
@[simp] theorem State.ev_faults (c : String) (d : EvDest) (b : String) : (s.ev c d b).faults = s.faults := by unfold State.ev; rw [State.traceLine_faults]; exact overList_keeps State.faults _ (fun x a => by split <;> simp) _ _
@[simp] theorem State.ev_units (c : String) (d : EvDest) (b : String) : (s.ev c d b).units = s.units := by unfold State.ev; rw [State.traceLine_units]; exact overList_keeps State.units _ (fun x a => by split <;> simp) _ _
@[simp] theorem State.ev_grants (c : String) (d : EvDest) (b : String) : (s.ev c d b).grants = s.grants := by unfold State.ev; rw [State.traceLine_grants]; exact overList_keeps State.grants _ (fun x a => by split <;> simp) _ _
@[simp] theorem State.ev_impls (c : String) (d : EvDest) (b : String) : (s.ev c d b).impls = s.impls := by unfold State.ev; rw [State.traceLine_impls]; exact overList_keeps State.impls _ (fun x a => by split <;> simp) _ _
@[simp] theorem State.ev_secs (c : String) (d : EvDest) (b : String) : (s.ev c d b).secs = s.secs := by unfold State.ev; rw [State.traceLine_secs]; exact overList_keeps State.secs _ (fun x a => by split <;> simp) _ _
@[simp] theorem State.ev_odos (c : String) (d : EvDest) (b : String) : (s.ev c d b).odos = s.odos := by unfold State.ev; rw [State.traceLine_odos]; exact overList_keeps State.odos _ (fun x a => by split <;> simp) _ _
@[simp] theorem State.ev_ssps (c : String) (d : EvDest) (b : String) : (s.ev c d b).ssps = s.ssps := by unfold State.ev; rw [State.traceLine_ssps]; exact overList_keeps State.ssps _ (fun x a => by split <;> simp) _ _
@[simp] theorem State.ev_prods (c : String) (d : EvDest) (b : String) : (s.ev c d b).prods = s.prods := by unfold State.ev; rw [State.traceLine_prods]; exact overList_keeps State.prods _ (fun x a => by split <;> simp) _ _
@[simp] theorem State.ev_cellar (c : String) (d : EvDest) (b : String) : (s.ev c d b).cellar = s.cellar := by unfold State.ev; rw [State.traceLine_cellar]; exact overList_keeps State.cellar _ (fun x a => by split <;> simp) _ _
@[simp] theorem State.ev_larder (c : String) (d : EvDest) (b : String) : (s.ev c d b).larder = s.larder := by unfold State.ev; rw [State.traceLine_larder]; exact overList_keeps State.larder _ (fun x a => by split <;> simp) _ _
@[simp] theorem State.ev_pantry (c : String) (d : EvDest) (b : String) : (s.ev c d b).pantry = s.pantry := by unfold State.ev; rw [State.traceLine_pantry]; exact overList_keeps State.pantry _ (fun x a => by split <;> simp) _ _
@[simp] theorem State.ev_cans (c : String) (d : EvDest) (b : String) : (s.ev c d b).cans = s.cans := by unfold State.ev; rw [State.traceLine_cans]; exact overList_keeps State.cans _ (fun x a => by split <;> simp) _ _
@[simp] theorem State.ev_peer (c : String) (d : EvDest) (b : String) : (s.ev c d b).peer = s.peer := by unfold State.ev; rw [State.traceLine_peer]; exact overList_keeps State.peer _ (fun x a => by split <;> simp) _ _
@[simp] theorem State.ev_uarts (c : String) (d : EvDest) (b : String) : (s.ev c d b).uarts = s.uarts := by unfold State.ev; rw [State.traceLine_uarts]; exact overList_keeps State.uarts _ (fun x a => by split <;> simp) _ _
@[simp] theorem State.ev_spi (c : String) (d : EvDest) (b : String) : (s.ev c d b).spi = s.spi := by unfold State.ev; rw [State.traceLine_spi]; exact overList_keeps State.spi _ (fun x a => by split <;> simp) _ _
@[simp] theorem State.ev_i2cs (c : String) (d : EvDest) (b : String) : (s.ev c d b).i2cs = s.i2cs := by unfold State.ev; rw [State.traceLine_i2cs]; exact overList_keeps State.i2cs _ (fun x a => by split <;> simp) _ _
@[simp] theorem State.ev_pins (c : String) (d : EvDest) (b : String) : (s.ev c d b).pins = s.pins := by unfold State.ev; rw [State.traceLine_pins]; exact overList_keeps State.pins _ (fun x a => by split <;> simp) _ _
@[simp] theorem State.ev_gnss (c : String) (d : EvDest) (b : String) : (s.ev c d b).gnss = s.gnss := by unfold State.ev; rw [State.traceLine_gnss]; exact overList_keeps State.gnss _ (fun x a => by split <;> simp) _ _
@[simp] theorem State.ev_lastTick (c : String) (d : EvDest) (b : String) : (s.ev c d b).lastTick = s.lastTick := by unfold State.ev; rw [State.traceLine_lastTick]; exact overList_keeps State.lastTick _ (fun x a => by split <;> simp) _ _
@[simp] theorem State.ev_freeIx (c : String) (d : EvDest) (b : String) : (s.ev c d b).freeIx = s.freeIx := by unfold State.ev; rw [State.traceLine_freeIx]; exact overList_keeps State.freeIx _ (fun x a => by split <;> simp) _ _
@[simp] theorem State.ev_partAt (c : String) (d : EvDest) (b : String) (j : Nat) : (s.ev c d b).partAt j = s.partAt j := by simp only [State.partAt, State.ev_parts]
@[simp] theorem State.ev_unitAt (c : String) (d : EvDest) (b : String) (j : Nat) : (s.ev c d b).unitAt j = s.unitAt j := by simp only [State.unitAt, State.ev_units]
@[simp] theorem State.ev_implAt (c : String) (d : EvDest) (b : String) (j : Nat) : (s.ev c d b).implAt j = s.implAt j := by simp only [State.implAt, State.ev_impls]
@[simp] theorem State.ev_secAt (c : String) (d : EvDest) (b : String) (j : Nat) : (s.ev c d b).secAt j = s.secAt j := by simp only [State.secAt, State.ev_secs]
@[simp] theorem State.ev_odoAt (c : String) (d : EvDest) (b : String) (j : Nat) : (s.ev c d b).odoAt j = s.odoAt j := by simp only [State.odoAt, State.ev_odos]
@[simp] theorem State.ev_sspAt (c : String) (d : EvDest) (b : String) (j : Nat) : (s.ev c d b).sspAt j = s.sspAt j := by simp only [State.sspAt, State.ev_ssps]
@[simp] theorem State.ev_prodAt (c : String) (d : EvDest) (b : String) (j : Nat) : (s.ev c d b).prodAt j = s.prodAt j := by simp only [State.prodAt, State.ev_prods]
@[simp] theorem State.ev_now (c : String) (d : EvDest) (b : String) : (s.ev c d b).now = s.now := by simp only [State.now, State.ev_times]

/-! ### setDState -/

@[simp] theorem State.setDState_pending (d : DState) (c : String) : (s.setDState d c).pending = s.pending := by unfold State.setDState; (repeat' split) <;> simp
@[simp] theorem State.setDState_times (d : DState) (c : String) : (s.setDState d c).times = s.times := by unfold State.setDState; (repeat' split) <;> simp
@[simp] theorem State.setDState_routed (d : DState) (c : String) : (s.setDState d c).routed = s.routed := by unfold State.setDState; (repeat' split) <;> simp
@[simp] theorem State.setDState_cfg (d : DState) (c : String) : (s.setDState d c).cfg = s.cfg := by unfold State.setDState; (repeat' split) <;> simp
@[simp] theorem State.setDState_parts (d : DState) (c : String) : (s.setDState d c).parts = s.parts := by unfold State.setDState; (repeat' split) <;> simp
@[simp] theorem State.setDState_own (d : DState) (c : String) : (s.setDState d c).own = s.own := by unfold State.setDState; (repeat' split) <;> simp
@[simp] theorem State.setDState_ownlock (d : DState) (c : String) : (s.setDState d c).ownlock = s.ownlock := by unfold State.setDState; (repeat' split) <;> simp
@[simp] theorem State.setDState_pinlock (d : DState) (c : String) : (s.setDState d c).pinlock = s.pinlock := by unfold State.setDState; (repeat' split) <;> simp
@[simp] theorem State.setDState_key0 (d : DState) (c : String) : (s.setDState d c).key0 = s.key0 := by unfold State.setDState; (repeat' split) <;> simp
@[simp] theorem State.setDState_authFails (d : DState) (c : String) : (s.setDState d c).authFails = s.authFails := by unfold State.setDState; (repeat' split) <;> simp
@[simp] theorem State.setDState_lockoutEnd (d : DState) (c : String) : (s.setDState d c).lockoutEnd = s.lockoutEnd := by unfold State.setDState; (repeat' split) <;> simp
@[simp] theorem State.setDState_islands (d : DState) (c : String) : (s.setDState d c).islands = s.islands := by unfold State.setDState; (repeat' split) <;> simp
@[simp] theorem State.setDState_safenLow (d : DState) (c : String) : (s.setDState d c).safenLow = s.safenLow := by unfold State.setDState; (repeat' split) <;> simp
@[simp] theorem State.setDState_attic (d : DState) (c : String) : (s.setDState d c).attic = s.attic := by unfold State.setDState; (repeat' split) <;> simp
@[simp] theorem State.setDState_faults (d : DState) (c : String) : (s.setDState d c).faults = s.faults := by unfold State.setDState; (repeat' split) <;> simp
@[simp] theorem State.setDState_units (d : DState) (c : String) : (s.setDState d c).units = s.units := by unfold State.setDState; (repeat' split) <;> simp
@[simp] theorem State.setDState_grants (d : DState) (c : String) : (s.setDState d c).grants = s.grants := by unfold State.setDState; (repeat' split) <;> simp
@[simp] theorem State.setDState_impls (d : DState) (c : String) : (s.setDState d c).impls = s.impls := by unfold State.setDState; (repeat' split) <;> simp
@[simp] theorem State.setDState_secs (d : DState) (c : String) : (s.setDState d c).secs = s.secs := by unfold State.setDState; (repeat' split) <;> simp
@[simp] theorem State.setDState_odos (d : DState) (c : String) : (s.setDState d c).odos = s.odos := by unfold State.setDState; (repeat' split) <;> simp
@[simp] theorem State.setDState_ssps (d : DState) (c : String) : (s.setDState d c).ssps = s.ssps := by unfold State.setDState; (repeat' split) <;> simp
@[simp] theorem State.setDState_prods (d : DState) (c : String) : (s.setDState d c).prods = s.prods := by unfold State.setDState; (repeat' split) <;> simp
@[simp] theorem State.setDState_cellar (d : DState) (c : String) : (s.setDState d c).cellar = s.cellar := by unfold State.setDState; (repeat' split) <;> simp
@[simp] theorem State.setDState_larder (d : DState) (c : String) : (s.setDState d c).larder = s.larder := by unfold State.setDState; (repeat' split) <;> simp
@[simp] theorem State.setDState_pantry (d : DState) (c : String) : (s.setDState d c).pantry = s.pantry := by unfold State.setDState; (repeat' split) <;> simp
@[simp] theorem State.setDState_cans (d : DState) (c : String) : (s.setDState d c).cans = s.cans := by unfold State.setDState; (repeat' split) <;> simp
@[simp] theorem State.setDState_peer (d : DState) (c : String) : (s.setDState d c).peer = s.peer := by unfold State.setDState; (repeat' split) <;> simp
@[simp] theorem State.setDState_uarts (d : DState) (c : String) : (s.setDState d c).uarts = s.uarts := by unfold State.setDState; (repeat' split) <;> simp
@[simp] theorem State.setDState_spi (d : DState) (c : String) : (s.setDState d c).spi = s.spi := by unfold State.setDState; (repeat' split) <;> simp
@[simp] theorem State.setDState_i2cs (d : DState) (c : String) : (s.setDState d c).i2cs = s.i2cs := by unfold State.setDState; (repeat' split) <;> simp
@[simp] theorem State.setDState_pins (d : DState) (c : String) : (s.setDState d c).pins = s.pins := by unfold State.setDState; (repeat' split) <;> simp
@[simp] theorem State.setDState_gnss (d : DState) (c : String) : (s.setDState d c).gnss = s.gnss := by unfold State.setDState; (repeat' split) <;> simp
@[simp] theorem State.setDState_lastTick (d : DState) (c : String) : (s.setDState d c).lastTick = s.lastTick := by unfold State.setDState; (repeat' split) <;> simp
@[simp] theorem State.setDState_freeIx (d : DState) (c : String) : (s.setDState d c).freeIx = s.freeIx := by unfold State.setDState; (repeat' split) <;> simp
@[simp] theorem State.setDState_partAt (d : DState) (c : String) (j : Nat) : (s.setDState d c).partAt j = s.partAt j := by simp only [State.partAt, State.setDState_parts]
@[simp] theorem State.setDState_unitAt (d : DState) (c : String) (j : Nat) : (s.setDState d c).unitAt j = s.unitAt j := by simp only [State.unitAt, State.setDState_units]
@[simp] theorem State.setDState_implAt (d : DState) (c : String) (j : Nat) : (s.setDState d c).implAt j = s.implAt j := by simp only [State.implAt, State.setDState_impls]
@[simp] theorem State.setDState_secAt (d : DState) (c : String) (j : Nat) : (s.setDState d c).secAt j = s.secAt j := by simp only [State.secAt, State.setDState_secs]
@[simp] theorem State.setDState_odoAt (d : DState) (c : String) (j : Nat) : (s.setDState d c).odoAt j = s.odoAt j := by simp only [State.odoAt, State.setDState_odos]
@[simp] theorem State.setDState_sspAt (d : DState) (c : String) (j : Nat) : (s.setDState d c).sspAt j = s.sspAt j := by simp only [State.sspAt, State.setDState_ssps]
@[simp] theorem State.setDState_prodAt (d : DState) (c : String) (j : Nat) : (s.setDState d c).prodAt j = s.prodAt j := by simp only [State.prodAt, State.setDState_prods]
@[simp] theorem State.setDState_now (d : DState) (c : String) : (s.setDState d c).now = s.now := by simp only [State.now, State.setDState_times]

/-! ### updateDState -/

@[simp] theorem State.updateDState_pending (n : Nat) : (s.updateDState n).pending = s.pending := by unfold State.updateDState; simp only []; (repeat' split) <;> simp
@[simp] theorem State.updateDState_times (n : Nat) : (s.updateDState n).times = s.times := by unfold State.updateDState; simp only []; (repeat' split) <;> simp
@[simp] theorem State.updateDState_routed (n : Nat) : (s.updateDState n).routed = s.routed := by unfold State.updateDState; simp only []; (repeat' split) <;> simp
@[simp] theorem State.updateDState_cfg (n : Nat) : (s.updateDState n).cfg = s.cfg := by unfold State.updateDState; simp only []; (repeat' split) <;> simp
@[simp] theorem State.updateDState_parts (n : Nat) : (s.updateDState n).parts = s.parts := by unfold State.updateDState; simp only []; (repeat' split) <;> simp
@[simp] theorem State.updateDState_own (n : Nat) : (s.updateDState n).own = s.own := by unfold State.updateDState; simp only []; (repeat' split) <;> simp
@[simp] theorem State.updateDState_ownlock (n : Nat) : (s.updateDState n).ownlock = s.ownlock := by unfold State.updateDState; simp only []; (repeat' split) <;> simp
@[simp] theorem State.updateDState_pinlock (n : Nat) : (s.updateDState n).pinlock = s.pinlock := by unfold State.updateDState; simp only []; (repeat' split) <;> simp
@[simp] theorem State.updateDState_key0 (n : Nat) : (s.updateDState n).key0 = s.key0 := by unfold State.updateDState; simp only []; (repeat' split) <;> simp
@[simp] theorem State.updateDState_authFails (n : Nat) : (s.updateDState n).authFails = s.authFails := by unfold State.updateDState; simp only []; (repeat' split) <;> simp
@[simp] theorem State.updateDState_lockoutEnd (n : Nat) : (s.updateDState n).lockoutEnd = s.lockoutEnd := by unfold State.updateDState; simp only []; (repeat' split) <;> simp
@[simp] theorem State.updateDState_islands (n : Nat) : (s.updateDState n).islands = s.islands := by unfold State.updateDState; simp only []; (repeat' split) <;> simp
@[simp] theorem State.updateDState_safenLow (n : Nat) : (s.updateDState n).safenLow = s.safenLow := by unfold State.updateDState; simp only []; (repeat' split) <;> simp
@[simp] theorem State.updateDState_attic (n : Nat) : (s.updateDState n).attic = s.attic := by unfold State.updateDState; simp only []; (repeat' split) <;> simp
@[simp] theorem State.updateDState_faults (n : Nat) : (s.updateDState n).faults = s.faults := by unfold State.updateDState; simp only []; (repeat' split) <;> simp
@[simp] theorem State.updateDState_units (n : Nat) : (s.updateDState n).units = s.units := by unfold State.updateDState; simp only []; (repeat' split) <;> simp
@[simp] theorem State.updateDState_grants (n : Nat) : (s.updateDState n).grants = s.grants := by unfold State.updateDState; simp only []; (repeat' split) <;> simp
@[simp] theorem State.updateDState_impls (n : Nat) : (s.updateDState n).impls = s.impls := by unfold State.updateDState; simp only []; (repeat' split) <;> simp
@[simp] theorem State.updateDState_secs (n : Nat) : (s.updateDState n).secs = s.secs := by unfold State.updateDState; simp only []; (repeat' split) <;> simp
@[simp] theorem State.updateDState_odos (n : Nat) : (s.updateDState n).odos = s.odos := by unfold State.updateDState; simp only []; (repeat' split) <;> simp
@[simp] theorem State.updateDState_ssps (n : Nat) : (s.updateDState n).ssps = s.ssps := by unfold State.updateDState; simp only []; (repeat' split) <;> simp
@[simp] theorem State.updateDState_prods (n : Nat) : (s.updateDState n).prods = s.prods := by unfold State.updateDState; simp only []; (repeat' split) <;> simp
@[simp] theorem State.updateDState_cellar (n : Nat) : (s.updateDState n).cellar = s.cellar := by unfold State.updateDState; simp only []; (repeat' split) <;> simp
@[simp] theorem State.updateDState_larder (n : Nat) : (s.updateDState n).larder = s.larder := by unfold State.updateDState; simp only []; (repeat' split) <;> simp
@[simp] theorem State.updateDState_pantry (n : Nat) : (s.updateDState n).pantry = s.pantry := by unfold State.updateDState; simp only []; (repeat' split) <;> simp
@[simp] theorem State.updateDState_cans (n : Nat) : (s.updateDState n).cans = s.cans := by unfold State.updateDState; simp only []; (repeat' split) <;> simp
@[simp] theorem State.updateDState_peer (n : Nat) : (s.updateDState n).peer = s.peer := by unfold State.updateDState; simp only []; (repeat' split) <;> simp
@[simp] theorem State.updateDState_uarts (n : Nat) : (s.updateDState n).uarts = s.uarts := by unfold State.updateDState; simp only []; (repeat' split) <;> simp
@[simp] theorem State.updateDState_spi (n : Nat) : (s.updateDState n).spi = s.spi := by unfold State.updateDState; simp only []; (repeat' split) <;> simp
@[simp] theorem State.updateDState_i2cs (n : Nat) : (s.updateDState n).i2cs = s.i2cs := by unfold State.updateDState; simp only []; (repeat' split) <;> simp
@[simp] theorem State.updateDState_pins (n : Nat) : (s.updateDState n).pins = s.pins := by unfold State.updateDState; simp only []; (repeat' split) <;> simp
@[simp] theorem State.updateDState_gnss (n : Nat) : (s.updateDState n).gnss = s.gnss := by unfold State.updateDState; simp only []; (repeat' split) <;> simp
@[simp] theorem State.updateDState_lastTick (n : Nat) : (s.updateDState n).lastTick = s.lastTick := by unfold State.updateDState; simp only []; (repeat' split) <;> simp
@[simp] theorem State.updateDState_freeIx (n : Nat) : (s.updateDState n).freeIx = s.freeIx := by unfold State.updateDState; simp only []; (repeat' split) <;> simp
@[simp] theorem State.updateDState_partAt (n : Nat) (j : Nat) : (s.updateDState n).partAt j = s.partAt j := by simp only [State.partAt, State.updateDState_parts]
@[simp] theorem State.updateDState_unitAt (n : Nat) (j : Nat) : (s.updateDState n).unitAt j = s.unitAt j := by simp only [State.unitAt, State.updateDState_units]
@[simp] theorem State.updateDState_implAt (n : Nat) (j : Nat) : (s.updateDState n).implAt j = s.implAt j := by simp only [State.implAt, State.updateDState_impls]
@[simp] theorem State.updateDState_secAt (n : Nat) (j : Nat) : (s.updateDState n).secAt j = s.secAt j := by simp only [State.secAt, State.updateDState_secs]
@[simp] theorem State.updateDState_odoAt (n : Nat) (j : Nat) : (s.updateDState n).odoAt j = s.odoAt j := by simp only [State.odoAt, State.updateDState_odos]
@[simp] theorem State.updateDState_sspAt (n : Nat) (j : Nat) : (s.updateDState n).sspAt j = s.sspAt j := by simp only [State.sspAt, State.updateDState_ssps]
@[simp] theorem State.updateDState_prodAt (n : Nat) (j : Nat) : (s.updateDState n).prodAt j = s.prodAt j := by simp only [State.prodAt, State.updateDState_prods]
@[simp] theorem State.updateDState_now (n : Nat) : (s.updateDState n).now = s.now := by simp only [State.now, State.updateDState_times]

/-! ### setPState -/

@[simp] theorem State.setPState_pending (n : Nat) (x : PState) (c : String) : (s.setPState n x c).pending = s.pending := by unfold State.setPState; simp only []; (repeat' split) <;> simp
@[simp] theorem State.setPState_times (n : Nat) (x : PState) (c : String) : (s.setPState n x c).times = s.times := by unfold State.setPState; simp only []; (repeat' split) <;> simp
@[simp] theorem State.setPState_routed (n : Nat) (x : PState) (c : String) : (s.setPState n x c).routed = s.routed := by unfold State.setPState; simp only []; (repeat' split) <;> simp
@[simp] theorem State.setPState_cfg (n : Nat) (x : PState) (c : String) : (s.setPState n x c).cfg = s.cfg := by unfold State.setPState; simp only []; (repeat' split) <;> simp
@[simp] theorem State.setPState_own (n : Nat) (x : PState) (c : String) : (s.setPState n x c).own = s.own := by unfold State.setPState; simp only []; (repeat' split) <;> simp
@[simp] theorem State.setPState_ownlock (n : Nat) (x : PState) (c : String) : (s.setPState n x c).ownlock = s.ownlock := by unfold State.setPState; simp only []; (repeat' split) <;> simp
@[simp] theorem State.setPState_pinlock (n : Nat) (x : PState) (c : String) : (s.setPState n x c).pinlock = s.pinlock := by unfold State.setPState; simp only []; (repeat' split) <;> simp
@[simp] theorem State.setPState_key0 (n : Nat) (x : PState) (c : String) : (s.setPState n x c).key0 = s.key0 := by unfold State.setPState; simp only []; (repeat' split) <;> simp
@[simp] theorem State.setPState_authFails (n : Nat) (x : PState) (c : String) : (s.setPState n x c).authFails = s.authFails := by unfold State.setPState; simp only []; (repeat' split) <;> simp
@[simp] theorem State.setPState_lockoutEnd (n : Nat) (x : PState) (c : String) : (s.setPState n x c).lockoutEnd = s.lockoutEnd := by unfold State.setPState; simp only []; (repeat' split) <;> simp
@[simp] theorem State.setPState_islands (n : Nat) (x : PState) (c : String) : (s.setPState n x c).islands = s.islands := by unfold State.setPState; simp only []; (repeat' split) <;> simp
@[simp] theorem State.setPState_safenLow (n : Nat) (x : PState) (c : String) : (s.setPState n x c).safenLow = s.safenLow := by unfold State.setPState; simp only []; (repeat' split) <;> simp
@[simp] theorem State.setPState_attic (n : Nat) (x : PState) (c : String) : (s.setPState n x c).attic = s.attic := by unfold State.setPState; simp only []; (repeat' split) <;> simp
@[simp] theorem State.setPState_faults (n : Nat) (x : PState) (c : String) : (s.setPState n x c).faults = s.faults := by unfold State.setPState; simp only []; (repeat' split) <;> simp
@[simp] theorem State.setPState_units (n : Nat) (x : PState) (c : String) : (s.setPState n x c).units = s.units := by unfold State.setPState; simp only []; (repeat' split) <;> simp
@[simp] theorem State.setPState_grants (n : Nat) (x : PState) (c : String) : (s.setPState n x c).grants = s.grants := by unfold State.setPState; simp only []; (repeat' split) <;> simp
@[simp] theorem State.setPState_impls (n : Nat) (x : PState) (c : String) : (s.setPState n x c).impls = s.impls := by unfold State.setPState; simp only []; (repeat' split) <;> simp
@[simp] theorem State.setPState_secs (n : Nat) (x : PState) (c : String) : (s.setPState n x c).secs = s.secs := by unfold State.setPState; simp only []; (repeat' split) <;> simp
@[simp] theorem State.setPState_odos (n : Nat) (x : PState) (c : String) : (s.setPState n x c).odos = s.odos := by unfold State.setPState; simp only []; (repeat' split) <;> simp
@[simp] theorem State.setPState_ssps (n : Nat) (x : PState) (c : String) : (s.setPState n x c).ssps = s.ssps := by unfold State.setPState; simp only []; (repeat' split) <;> simp
@[simp] theorem State.setPState_prods (n : Nat) (x : PState) (c : String) : (s.setPState n x c).prods = s.prods := by unfold State.setPState; simp only []; (repeat' split) <;> simp
@[simp] theorem State.setPState_cellar (n : Nat) (x : PState) (c : String) : (s.setPState n x c).cellar = s.cellar := by unfold State.setPState; simp only []; (repeat' split) <;> simp
@[simp] theorem State.setPState_larder (n : Nat) (x : PState) (c : String) : (s.setPState n x c).larder = s.larder := by unfold State.setPState; simp only []; (repeat' split) <;> simp
@[simp] theorem State.setPState_pantry (n : Nat) (x : PState) (c : String) : (s.setPState n x c).pantry = s.pantry := by unfold State.setPState; simp only []; (repeat' split) <;> simp
@[simp] theorem State.setPState_cans (n : Nat) (x : PState) (c : String) : (s.setPState n x c).cans = s.cans := by unfold State.setPState; simp only []; (repeat' split) <;> simp
@[simp] theorem State.setPState_peer (n : Nat) (x : PState) (c : String) : (s.setPState n x c).peer = s.peer := by unfold State.setPState; simp only []; (repeat' split) <;> simp
@[simp] theorem State.setPState_uarts (n : Nat) (x : PState) (c : String) : (s.setPState n x c).uarts = s.uarts := by unfold State.setPState; simp only []; (repeat' split) <;> simp
@[simp] theorem State.setPState_spi (n : Nat) (x : PState) (c : String) : (s.setPState n x c).spi = s.spi := by unfold State.setPState; simp only []; (repeat' split) <;> simp
@[simp] theorem State.setPState_i2cs (n : Nat) (x : PState) (c : String) : (s.setPState n x c).i2cs = s.i2cs := by unfold State.setPState; simp only []; (repeat' split) <;> simp
@[simp] theorem State.setPState_pins (n : Nat) (x : PState) (c : String) : (s.setPState n x c).pins = s.pins := by unfold State.setPState; simp only []; (repeat' split) <;> simp
@[simp] theorem State.setPState_gnss (n : Nat) (x : PState) (c : String) : (s.setPState n x c).gnss = s.gnss := by unfold State.setPState; simp only []; (repeat' split) <;> simp
@[simp] theorem State.setPState_lastTick (n : Nat) (x : PState) (c : String) : (s.setPState n x c).lastTick = s.lastTick := by unfold State.setPState; simp only []; (repeat' split) <;> simp
@[simp] theorem State.setPState_freeIx (n : Nat) (x : PState) (c : String) : (s.setPState n x c).freeIx = s.freeIx := by unfold State.setPState; simp only []; (repeat' split) <;> simp
@[simp] theorem State.setPState_unitAt (n : Nat) (x : PState) (c : String) (j : Nat) : (s.setPState n x c).unitAt j = s.unitAt j := by simp only [State.unitAt, State.setPState_units]
@[simp] theorem State.setPState_implAt (n : Nat) (x : PState) (c : String) (j : Nat) : (s.setPState n x c).implAt j = s.implAt j := by simp only [State.implAt, State.setPState_impls]
@[simp] theorem State.setPState_secAt (n : Nat) (x : PState) (c : String) (j : Nat) : (s.setPState n x c).secAt j = s.secAt j := by simp only [State.secAt, State.setPState_secs]
@[simp] theorem State.setPState_odoAt (n : Nat) (x : PState) (c : String) (j : Nat) : (s.setPState n x c).odoAt j = s.odoAt j := by simp only [State.odoAt, State.setPState_odos]
@[simp] theorem State.setPState_sspAt (n : Nat) (x : PState) (c : String) (j : Nat) : (s.setPState n x c).sspAt j = s.sspAt j := by simp only [State.sspAt, State.setPState_ssps]
@[simp] theorem State.setPState_prodAt (n : Nat) (x : PState) (c : String) (j : Nat) : (s.setPState n x c).prodAt j = s.prodAt j := by simp only [State.prodAt, State.setPState_prods]
@[simp] theorem State.setPState_now (n : Nat) (x : PState) (c : String) : (s.setPState n x c).now = s.now := by simp only [State.now, State.setPState_times]

/-! ### larderRefused -/

@[simp] theorem State.larderRefused_pending (o : Nat) : (s.larderRefused o).pending = s.pending := by unfold State.larderRefused; simp only []; (repeat' split) <;> simp
@[simp] theorem State.larderRefused_power (o : Nat) : (s.larderRefused o).power = s.power := by unfold State.larderRefused; simp only []; (repeat' split) <;> simp
@[simp] theorem State.larderRefused_times (o : Nat) : (s.larderRefused o).times = s.times := by unfold State.larderRefused; simp only []; (repeat' split) <;> simp
@[simp] theorem State.larderRefused_routed (o : Nat) : (s.larderRefused o).routed = s.routed := by unfold State.larderRefused; simp only []; (repeat' split) <;> simp
@[simp] theorem State.larderRefused_cfg (o : Nat) : (s.larderRefused o).cfg = s.cfg := by unfold State.larderRefused; simp only []; (repeat' split) <;> simp
@[simp] theorem State.larderRefused_parts (o : Nat) : (s.larderRefused o).parts = s.parts := by unfold State.larderRefused; simp only []; (repeat' split) <;> simp
@[simp] theorem State.larderRefused_own (o : Nat) : (s.larderRefused o).own = s.own := by unfold State.larderRefused; simp only []; (repeat' split) <;> simp
@[simp] theorem State.larderRefused_ownlock (o : Nat) : (s.larderRefused o).ownlock = s.ownlock := by unfold State.larderRefused; simp only []; (repeat' split) <;> simp
@[simp] theorem State.larderRefused_pinlock (o : Nat) : (s.larderRefused o).pinlock = s.pinlock := by unfold State.larderRefused; simp only []; (repeat' split) <;> simp
@[simp] theorem State.larderRefused_key0 (o : Nat) : (s.larderRefused o).key0 = s.key0 := by unfold State.larderRefused; simp only []; (repeat' split) <;> simp
@[simp] theorem State.larderRefused_authFails (o : Nat) : (s.larderRefused o).authFails = s.authFails := by unfold State.larderRefused; simp only []; (repeat' split) <;> simp
@[simp] theorem State.larderRefused_lockoutEnd (o : Nat) : (s.larderRefused o).lockoutEnd = s.lockoutEnd := by unfold State.larderRefused; simp only []; (repeat' split) <;> simp
@[simp] theorem State.larderRefused_islands (o : Nat) : (s.larderRefused o).islands = s.islands := by unfold State.larderRefused; simp only []; (repeat' split) <;> simp
@[simp] theorem State.larderRefused_safenLow (o : Nat) : (s.larderRefused o).safenLow = s.safenLow := by unfold State.larderRefused; simp only []; (repeat' split) <;> simp
@[simp] theorem State.larderRefused_attic (o : Nat) : (s.larderRefused o).attic = s.attic := by unfold State.larderRefused; simp only []; (repeat' split) <;> simp
@[simp] theorem State.larderRefused_faults (o : Nat) : (s.larderRefused o).faults = s.faults := by unfold State.larderRefused; simp only []; (repeat' split) <;> simp
@[simp] theorem State.larderRefused_units (o : Nat) : (s.larderRefused o).units = s.units := by unfold State.larderRefused; simp only []; (repeat' split) <;> simp
@[simp] theorem State.larderRefused_grants (o : Nat) : (s.larderRefused o).grants = s.grants := by unfold State.larderRefused; simp only []; (repeat' split) <;> simp
@[simp] theorem State.larderRefused_impls (o : Nat) : (s.larderRefused o).impls = s.impls := by unfold State.larderRefused; simp only []; (repeat' split) <;> simp
@[simp] theorem State.larderRefused_secs (o : Nat) : (s.larderRefused o).secs = s.secs := by unfold State.larderRefused; simp only []; (repeat' split) <;> simp
@[simp] theorem State.larderRefused_odos (o : Nat) : (s.larderRefused o).odos = s.odos := by unfold State.larderRefused; simp only []; (repeat' split) <;> simp
@[simp] theorem State.larderRefused_ssps (o : Nat) : (s.larderRefused o).ssps = s.ssps := by unfold State.larderRefused; simp only []; (repeat' split) <;> simp
@[simp] theorem State.larderRefused_prods (o : Nat) : (s.larderRefused o).prods = s.prods := by unfold State.larderRefused; simp only []; (repeat' split) <;> simp
@[simp] theorem State.larderRefused_cellar (o : Nat) : (s.larderRefused o).cellar = s.cellar := by unfold State.larderRefused; simp only []; (repeat' split) <;> simp
@[simp] theorem State.larderRefused_pantry (o : Nat) : (s.larderRefused o).pantry = s.pantry := by unfold State.larderRefused; simp only []; (repeat' split) <;> simp
@[simp] theorem State.larderRefused_cans (o : Nat) : (s.larderRefused o).cans = s.cans := by unfold State.larderRefused; simp only []; (repeat' split) <;> simp
@[simp] theorem State.larderRefused_peer (o : Nat) : (s.larderRefused o).peer = s.peer := by unfold State.larderRefused; simp only []; (repeat' split) <;> simp
@[simp] theorem State.larderRefused_uarts (o : Nat) : (s.larderRefused o).uarts = s.uarts := by unfold State.larderRefused; simp only []; (repeat' split) <;> simp
@[simp] theorem State.larderRefused_spi (o : Nat) : (s.larderRefused o).spi = s.spi := by unfold State.larderRefused; simp only []; (repeat' split) <;> simp
@[simp] theorem State.larderRefused_i2cs (o : Nat) : (s.larderRefused o).i2cs = s.i2cs := by unfold State.larderRefused; simp only []; (repeat' split) <;> simp
@[simp] theorem State.larderRefused_pins (o : Nat) : (s.larderRefused o).pins = s.pins := by unfold State.larderRefused; simp only []; (repeat' split) <;> simp
@[simp] theorem State.larderRefused_gnss (o : Nat) : (s.larderRefused o).gnss = s.gnss := by unfold State.larderRefused; simp only []; (repeat' split) <;> simp
@[simp] theorem State.larderRefused_lastTick (o : Nat) : (s.larderRefused o).lastTick = s.lastTick := by unfold State.larderRefused; simp only []; (repeat' split) <;> simp
@[simp] theorem State.larderRefused_freeIx (o : Nat) : (s.larderRefused o).freeIx = s.freeIx := by unfold State.larderRefused; simp only []; (repeat' split) <;> simp
@[simp] theorem State.larderRefused_partAt (o : Nat) (j : Nat) : (s.larderRefused o).partAt j = s.partAt j := by simp only [State.partAt, State.larderRefused_parts]
@[simp] theorem State.larderRefused_unitAt (o : Nat) (j : Nat) : (s.larderRefused o).unitAt j = s.unitAt j := by simp only [State.unitAt, State.larderRefused_units]
@[simp] theorem State.larderRefused_implAt (o : Nat) (j : Nat) : (s.larderRefused o).implAt j = s.implAt j := by simp only [State.implAt, State.larderRefused_impls]
@[simp] theorem State.larderRefused_secAt (o : Nat) (j : Nat) : (s.larderRefused o).secAt j = s.secAt j := by simp only [State.secAt, State.larderRefused_secs]
@[simp] theorem State.larderRefused_odoAt (o : Nat) (j : Nat) : (s.larderRefused o).odoAt j = s.odoAt j := by simp only [State.odoAt, State.larderRefused_odos]
@[simp] theorem State.larderRefused_sspAt (o : Nat) (j : Nat) : (s.larderRefused o).sspAt j = s.sspAt j := by simp only [State.sspAt, State.larderRefused_ssps]
@[simp] theorem State.larderRefused_prodAt (o : Nat) (j : Nat) : (s.larderRefused o).prodAt j = s.prodAt j := by simp only [State.prodAt, State.larderRefused_prods]
@[simp] theorem State.larderRefused_now (o : Nat) : (s.larderRefused o).now = s.now := by simp only [State.now, State.larderRefused_times]

/-! ### atticGapEv -/

@[simp] theorem State.atticGapEv_pending (l k : Nat) : (s.atticGapEv l k).pending = s.pending := by unfold State.atticGapEv; simp only []; (repeat' split) <;> simp
@[simp] theorem State.atticGapEv_power (l k : Nat) : (s.atticGapEv l k).power = s.power := by unfold State.atticGapEv; simp only []; (repeat' split) <;> simp
@[simp] theorem State.atticGapEv_times (l k : Nat) : (s.atticGapEv l k).times = s.times := by unfold State.atticGapEv; simp only []; (repeat' split) <;> simp
@[simp] theorem State.atticGapEv_routed (l k : Nat) : (s.atticGapEv l k).routed = s.routed := by unfold State.atticGapEv; simp only []; (repeat' split) <;> simp
@[simp] theorem State.atticGapEv_cfg (l k : Nat) : (s.atticGapEv l k).cfg = s.cfg := by unfold State.atticGapEv; simp only []; (repeat' split) <;> simp
@[simp] theorem State.atticGapEv_parts (l k : Nat) : (s.atticGapEv l k).parts = s.parts := by unfold State.atticGapEv; simp only []; (repeat' split) <;> simp
@[simp] theorem State.atticGapEv_own (l k : Nat) : (s.atticGapEv l k).own = s.own := by unfold State.atticGapEv; simp only []; (repeat' split) <;> simp
@[simp] theorem State.atticGapEv_ownlock (l k : Nat) : (s.atticGapEv l k).ownlock = s.ownlock := by unfold State.atticGapEv; simp only []; (repeat' split) <;> simp
@[simp] theorem State.atticGapEv_pinlock (l k : Nat) : (s.atticGapEv l k).pinlock = s.pinlock := by unfold State.atticGapEv; simp only []; (repeat' split) <;> simp
@[simp] theorem State.atticGapEv_key0 (l k : Nat) : (s.atticGapEv l k).key0 = s.key0 := by unfold State.atticGapEv; simp only []; (repeat' split) <;> simp
@[simp] theorem State.atticGapEv_authFails (l k : Nat) : (s.atticGapEv l k).authFails = s.authFails := by unfold State.atticGapEv; simp only []; (repeat' split) <;> simp
@[simp] theorem State.atticGapEv_lockoutEnd (l k : Nat) : (s.atticGapEv l k).lockoutEnd = s.lockoutEnd := by unfold State.atticGapEv; simp only []; (repeat' split) <;> simp
@[simp] theorem State.atticGapEv_islands (l k : Nat) : (s.atticGapEv l k).islands = s.islands := by unfold State.atticGapEv; simp only []; (repeat' split) <;> simp
@[simp] theorem State.atticGapEv_safenLow (l k : Nat) : (s.atticGapEv l k).safenLow = s.safenLow := by unfold State.atticGapEv; simp only []; (repeat' split) <;> simp
@[simp] theorem State.atticGapEv_faults (l k : Nat) : (s.atticGapEv l k).faults = s.faults := by unfold State.atticGapEv; simp only []; (repeat' split) <;> simp
@[simp] theorem State.atticGapEv_units (l k : Nat) : (s.atticGapEv l k).units = s.units := by unfold State.atticGapEv; simp only []; (repeat' split) <;> simp
@[simp] theorem State.atticGapEv_grants (l k : Nat) : (s.atticGapEv l k).grants = s.grants := by unfold State.atticGapEv; simp only []; (repeat' split) <;> simp
@[simp] theorem State.atticGapEv_impls (l k : Nat) : (s.atticGapEv l k).impls = s.impls := by unfold State.atticGapEv; simp only []; (repeat' split) <;> simp
@[simp] theorem State.atticGapEv_secs (l k : Nat) : (s.atticGapEv l k).secs = s.secs := by unfold State.atticGapEv; simp only []; (repeat' split) <;> simp
@[simp] theorem State.atticGapEv_odos (l k : Nat) : (s.atticGapEv l k).odos = s.odos := by unfold State.atticGapEv; simp only []; (repeat' split) <;> simp
@[simp] theorem State.atticGapEv_ssps (l k : Nat) : (s.atticGapEv l k).ssps = s.ssps := by unfold State.atticGapEv; simp only []; (repeat' split) <;> simp
@[simp] theorem State.atticGapEv_prods (l k : Nat) : (s.atticGapEv l k).prods = s.prods := by unfold State.atticGapEv; simp only []; (repeat' split) <;> simp
@[simp] theorem State.atticGapEv_cellar (l k : Nat) : (s.atticGapEv l k).cellar = s.cellar := by unfold State.atticGapEv; simp only []; (repeat' split) <;> simp
@[simp] theorem State.atticGapEv_larder (l k : Nat) : (s.atticGapEv l k).larder = s.larder := by unfold State.atticGapEv; simp only []; (repeat' split) <;> simp
@[simp] theorem State.atticGapEv_pantry (l k : Nat) : (s.atticGapEv l k).pantry = s.pantry := by unfold State.atticGapEv; simp only []; (repeat' split) <;> simp
@[simp] theorem State.atticGapEv_cans (l k : Nat) : (s.atticGapEv l k).cans = s.cans := by unfold State.atticGapEv; simp only []; (repeat' split) <;> simp
@[simp] theorem State.atticGapEv_peer (l k : Nat) : (s.atticGapEv l k).peer = s.peer := by unfold State.atticGapEv; simp only []; (repeat' split) <;> simp
@[simp] theorem State.atticGapEv_uarts (l k : Nat) : (s.atticGapEv l k).uarts = s.uarts := by unfold State.atticGapEv; simp only []; (repeat' split) <;> simp
@[simp] theorem State.atticGapEv_spi (l k : Nat) : (s.atticGapEv l k).spi = s.spi := by unfold State.atticGapEv; simp only []; (repeat' split) <;> simp
@[simp] theorem State.atticGapEv_i2cs (l k : Nat) : (s.atticGapEv l k).i2cs = s.i2cs := by unfold State.atticGapEv; simp only []; (repeat' split) <;> simp
@[simp] theorem State.atticGapEv_pins (l k : Nat) : (s.atticGapEv l k).pins = s.pins := by unfold State.atticGapEv; simp only []; (repeat' split) <;> simp
@[simp] theorem State.atticGapEv_gnss (l k : Nat) : (s.atticGapEv l k).gnss = s.gnss := by unfold State.atticGapEv; simp only []; (repeat' split) <;> simp
@[simp] theorem State.atticGapEv_lastTick (l k : Nat) : (s.atticGapEv l k).lastTick = s.lastTick := by unfold State.atticGapEv; simp only []; (repeat' split) <;> simp
@[simp] theorem State.atticGapEv_freeIx (l k : Nat) : (s.atticGapEv l k).freeIx = s.freeIx := by unfold State.atticGapEv; simp only []; (repeat' split) <;> simp
@[simp] theorem State.atticGapEv_partAt (l k : Nat) (j : Nat) : (s.atticGapEv l k).partAt j = s.partAt j := by simp only [State.partAt, State.atticGapEv_parts]
@[simp] theorem State.atticGapEv_unitAt (l k : Nat) (j : Nat) : (s.atticGapEv l k).unitAt j = s.unitAt j := by simp only [State.unitAt, State.atticGapEv_units]
@[simp] theorem State.atticGapEv_implAt (l k : Nat) (j : Nat) : (s.atticGapEv l k).implAt j = s.implAt j := by simp only [State.implAt, State.atticGapEv_impls]
@[simp] theorem State.atticGapEv_secAt (l k : Nat) (j : Nat) : (s.atticGapEv l k).secAt j = s.secAt j := by simp only [State.secAt, State.atticGapEv_secs]
@[simp] theorem State.atticGapEv_odoAt (l k : Nat) (j : Nat) : (s.atticGapEv l k).odoAt j = s.odoAt j := by simp only [State.odoAt, State.atticGapEv_odos]
@[simp] theorem State.atticGapEv_sspAt (l k : Nat) (j : Nat) : (s.atticGapEv l k).sspAt j = s.sspAt j := by simp only [State.sspAt, State.atticGapEv_ssps]
@[simp] theorem State.atticGapEv_prodAt (l k : Nat) (j : Nat) : (s.atticGapEv l k).prodAt j = s.prodAt j := by simp only [State.prodAt, State.atticGapEv_prods]
@[simp] theorem State.atticGapEv_now (l k : Nat) : (s.atticGapEv l k).now = s.now := by simp only [State.now, State.atticGapEv_times]

/-! ### atticLose -/

@[simp] theorem State.atticLose_pending (l : Nat) : (s.atticLose l).pending = s.pending := by unfold State.atticLose; simp
@[simp] theorem State.atticLose_power (l : Nat) : (s.atticLose l).power = s.power := by unfold State.atticLose; simp
@[simp] theorem State.atticLose_times (l : Nat) : (s.atticLose l).times = s.times := by unfold State.atticLose; simp
@[simp] theorem State.atticLose_routed (l : Nat) : (s.atticLose l).routed = s.routed := by unfold State.atticLose; simp
@[simp] theorem State.atticLose_cfg (l : Nat) : (s.atticLose l).cfg = s.cfg := by unfold State.atticLose; simp
@[simp] theorem State.atticLose_parts (l : Nat) : (s.atticLose l).parts = s.parts := by unfold State.atticLose; simp
@[simp] theorem State.atticLose_own (l : Nat) : (s.atticLose l).own = s.own := by unfold State.atticLose; simp
@[simp] theorem State.atticLose_ownlock (l : Nat) : (s.atticLose l).ownlock = s.ownlock := by unfold State.atticLose; simp
@[simp] theorem State.atticLose_pinlock (l : Nat) : (s.atticLose l).pinlock = s.pinlock := by unfold State.atticLose; simp
@[simp] theorem State.atticLose_key0 (l : Nat) : (s.atticLose l).key0 = s.key0 := by unfold State.atticLose; simp
@[simp] theorem State.atticLose_authFails (l : Nat) : (s.atticLose l).authFails = s.authFails := by unfold State.atticLose; simp
@[simp] theorem State.atticLose_lockoutEnd (l : Nat) : (s.atticLose l).lockoutEnd = s.lockoutEnd := by unfold State.atticLose; simp
@[simp] theorem State.atticLose_islands (l : Nat) : (s.atticLose l).islands = s.islands := by unfold State.atticLose; simp
@[simp] theorem State.atticLose_safenLow (l : Nat) : (s.atticLose l).safenLow = s.safenLow := by unfold State.atticLose; simp
@[simp] theorem State.atticLose_faults (l : Nat) : (s.atticLose l).faults = s.faults := by unfold State.atticLose; simp
@[simp] theorem State.atticLose_units (l : Nat) : (s.atticLose l).units = s.units := by unfold State.atticLose; simp
@[simp] theorem State.atticLose_grants (l : Nat) : (s.atticLose l).grants = s.grants := by unfold State.atticLose; simp
@[simp] theorem State.atticLose_impls (l : Nat) : (s.atticLose l).impls = s.impls := by unfold State.atticLose; simp
@[simp] theorem State.atticLose_secs (l : Nat) : (s.atticLose l).secs = s.secs := by unfold State.atticLose; simp
@[simp] theorem State.atticLose_odos (l : Nat) : (s.atticLose l).odos = s.odos := by unfold State.atticLose; simp
@[simp] theorem State.atticLose_ssps (l : Nat) : (s.atticLose l).ssps = s.ssps := by unfold State.atticLose; simp
@[simp] theorem State.atticLose_prods (l : Nat) : (s.atticLose l).prods = s.prods := by unfold State.atticLose; simp
@[simp] theorem State.atticLose_cellar (l : Nat) : (s.atticLose l).cellar = s.cellar := by unfold State.atticLose; simp
@[simp] theorem State.atticLose_larder (l : Nat) : (s.atticLose l).larder = s.larder := by unfold State.atticLose; simp
@[simp] theorem State.atticLose_pantry (l : Nat) : (s.atticLose l).pantry = s.pantry := by unfold State.atticLose; simp
@[simp] theorem State.atticLose_cans (l : Nat) : (s.atticLose l).cans = s.cans := by unfold State.atticLose; simp
@[simp] theorem State.atticLose_peer (l : Nat) : (s.atticLose l).peer = s.peer := by unfold State.atticLose; simp
@[simp] theorem State.atticLose_uarts (l : Nat) : (s.atticLose l).uarts = s.uarts := by unfold State.atticLose; simp
@[simp] theorem State.atticLose_spi (l : Nat) : (s.atticLose l).spi = s.spi := by unfold State.atticLose; simp
@[simp] theorem State.atticLose_i2cs (l : Nat) : (s.atticLose l).i2cs = s.i2cs := by unfold State.atticLose; simp
@[simp] theorem State.atticLose_pins (l : Nat) : (s.atticLose l).pins = s.pins := by unfold State.atticLose; simp
@[simp] theorem State.atticLose_gnss (l : Nat) : (s.atticLose l).gnss = s.gnss := by unfold State.atticLose; simp
@[simp] theorem State.atticLose_lastTick (l : Nat) : (s.atticLose l).lastTick = s.lastTick := by unfold State.atticLose; simp
@[simp] theorem State.atticLose_freeIx (l : Nat) : (s.atticLose l).freeIx = s.freeIx := by unfold State.atticLose; simp
@[simp] theorem State.atticLose_partAt (l : Nat) (j : Nat) : (s.atticLose l).partAt j = s.partAt j := by simp only [State.partAt, State.atticLose_parts]
@[simp] theorem State.atticLose_unitAt (l : Nat) (j : Nat) : (s.atticLose l).unitAt j = s.unitAt j := by simp only [State.unitAt, State.atticLose_units]
@[simp] theorem State.atticLose_implAt (l : Nat) (j : Nat) : (s.atticLose l).implAt j = s.implAt j := by simp only [State.implAt, State.atticLose_impls]
@[simp] theorem State.atticLose_secAt (l : Nat) (j : Nat) : (s.atticLose l).secAt j = s.secAt j := by simp only [State.secAt, State.atticLose_secs]
@[simp] theorem State.atticLose_odoAt (l : Nat) (j : Nat) : (s.atticLose l).odoAt j = s.odoAt j := by simp only [State.odoAt, State.atticLose_odos]
@[simp] theorem State.atticLose_sspAt (l : Nat) (j : Nat) : (s.atticLose l).sspAt j = s.sspAt j := by simp only [State.sspAt, State.atticLose_ssps]
@[simp] theorem State.atticLose_prodAt (l : Nat) (j : Nat) : (s.atticLose l).prodAt j = s.prodAt j := by simp only [State.prodAt, State.atticLose_prods]
@[simp] theorem State.atticLose_now (l : Nat) : (s.atticLose l).now = s.now := by simp only [State.now, State.atticLose_times]

/-! ### handoff -/

@[simp] theorem State.handoff_pending (r : ARec) : (s.handoff r).pending = s.pending := by unfold State.handoff; simp only []; (repeat' split) <;> simp
@[simp] theorem State.handoff_power (r : ARec) : (s.handoff r).power = s.power := by unfold State.handoff; simp only []; (repeat' split) <;> simp
@[simp] theorem State.handoff_times (r : ARec) : (s.handoff r).times = s.times := by unfold State.handoff; simp only []; (repeat' split) <;> simp
@[simp] theorem State.handoff_routed (r : ARec) : (s.handoff r).routed = s.routed := by unfold State.handoff; simp only []; (repeat' split) <;> simp
@[simp] theorem State.handoff_cfg (r : ARec) : (s.handoff r).cfg = s.cfg := by unfold State.handoff; simp only []; (repeat' split) <;> simp
@[simp] theorem State.handoff_parts (r : ARec) : (s.handoff r).parts = s.parts := by unfold State.handoff; simp only []; (repeat' split) <;> simp
@[simp] theorem State.handoff_own (r : ARec) : (s.handoff r).own = s.own := by unfold State.handoff; simp only []; (repeat' split) <;> simp
@[simp] theorem State.handoff_ownlock (r : ARec) : (s.handoff r).ownlock = s.ownlock := by unfold State.handoff; simp only []; (repeat' split) <;> simp
@[simp] theorem State.handoff_pinlock (r : ARec) : (s.handoff r).pinlock = s.pinlock := by unfold State.handoff; simp only []; (repeat' split) <;> simp
@[simp] theorem State.handoff_key0 (r : ARec) : (s.handoff r).key0 = s.key0 := by unfold State.handoff; simp only []; (repeat' split) <;> simp
@[simp] theorem State.handoff_authFails (r : ARec) : (s.handoff r).authFails = s.authFails := by unfold State.handoff; simp only []; (repeat' split) <;> simp
@[simp] theorem State.handoff_lockoutEnd (r : ARec) : (s.handoff r).lockoutEnd = s.lockoutEnd := by unfold State.handoff; simp only []; (repeat' split) <;> simp
@[simp] theorem State.handoff_islands (r : ARec) : (s.handoff r).islands = s.islands := by unfold State.handoff; simp only []; (repeat' split) <;> simp
@[simp] theorem State.handoff_safenLow (r : ARec) : (s.handoff r).safenLow = s.safenLow := by unfold State.handoff; simp only []; (repeat' split) <;> simp
@[simp] theorem State.handoff_faults (r : ARec) : (s.handoff r).faults = s.faults := by unfold State.handoff; simp only []; (repeat' split) <;> simp
@[simp] theorem State.handoff_units (r : ARec) : (s.handoff r).units = s.units := by unfold State.handoff; simp only []; (repeat' split) <;> simp
@[simp] theorem State.handoff_grants (r : ARec) : (s.handoff r).grants = s.grants := by unfold State.handoff; simp only []; (repeat' split) <;> simp
@[simp] theorem State.handoff_impls (r : ARec) : (s.handoff r).impls = s.impls := by unfold State.handoff; simp only []; (repeat' split) <;> simp
@[simp] theorem State.handoff_secs (r : ARec) : (s.handoff r).secs = s.secs := by unfold State.handoff; simp only []; (repeat' split) <;> simp
@[simp] theorem State.handoff_odos (r : ARec) : (s.handoff r).odos = s.odos := by unfold State.handoff; simp only []; (repeat' split) <;> simp
@[simp] theorem State.handoff_ssps (r : ARec) : (s.handoff r).ssps = s.ssps := by unfold State.handoff; simp only []; (repeat' split) <;> simp
@[simp] theorem State.handoff_prods (r : ARec) : (s.handoff r).prods = s.prods := by unfold State.handoff; simp only []; (repeat' split) <;> simp
@[simp] theorem State.handoff_cellar (r : ARec) : (s.handoff r).cellar = s.cellar := by unfold State.handoff; simp only []; (repeat' split) <;> simp
@[simp] theorem State.handoff_pantry (r : ARec) : (s.handoff r).pantry = s.pantry := by unfold State.handoff; simp only []; (repeat' split) <;> simp
@[simp] theorem State.handoff_cans (r : ARec) : (s.handoff r).cans = s.cans := by unfold State.handoff; simp only []; (repeat' split) <;> simp
@[simp] theorem State.handoff_peer (r : ARec) : (s.handoff r).peer = s.peer := by unfold State.handoff; simp only []; (repeat' split) <;> simp
@[simp] theorem State.handoff_uarts (r : ARec) : (s.handoff r).uarts = s.uarts := by unfold State.handoff; simp only []; (repeat' split) <;> simp
@[simp] theorem State.handoff_spi (r : ARec) : (s.handoff r).spi = s.spi := by unfold State.handoff; simp only []; (repeat' split) <;> simp
@[simp] theorem State.handoff_i2cs (r : ARec) : (s.handoff r).i2cs = s.i2cs := by unfold State.handoff; simp only []; (repeat' split) <;> simp
@[simp] theorem State.handoff_pins (r : ARec) : (s.handoff r).pins = s.pins := by unfold State.handoff; simp only []; (repeat' split) <;> simp
@[simp] theorem State.handoff_gnss (r : ARec) : (s.handoff r).gnss = s.gnss := by unfold State.handoff; simp only []; (repeat' split) <;> simp
@[simp] theorem State.handoff_lastTick (r : ARec) : (s.handoff r).lastTick = s.lastTick := by unfold State.handoff; simp only []; (repeat' split) <;> simp
@[simp] theorem State.handoff_freeIx (r : ARec) : (s.handoff r).freeIx = s.freeIx := by unfold State.handoff; simp only []; (repeat' split) <;> simp
@[simp] theorem State.handoff_partAt (r : ARec) (j : Nat) : (s.handoff r).partAt j = s.partAt j := by simp only [State.partAt, State.handoff_parts]
@[simp] theorem State.handoff_unitAt (r : ARec) (j : Nat) : (s.handoff r).unitAt j = s.unitAt j := by simp only [State.unitAt, State.handoff_units]
@[simp] theorem State.handoff_implAt (r : ARec) (j : Nat) : (s.handoff r).implAt j = s.implAt j := by simp only [State.implAt, State.handoff_impls]
@[simp] theorem State.handoff_secAt (r : ARec) (j : Nat) : (s.handoff r).secAt j = s.secAt j := by simp only [State.secAt, State.handoff_secs]
@[simp] theorem State.handoff_odoAt (r : ARec) (j : Nat) : (s.handoff r).odoAt j = s.odoAt j := by simp only [State.odoAt, State.handoff_odos]
@[simp] theorem State.handoff_sspAt (r : ARec) (j : Nat) : (s.handoff r).sspAt j = s.sspAt j := by simp only [State.sspAt, State.handoff_ssps]
@[simp] theorem State.handoff_prodAt (r : ARec) (j : Nat) : (s.handoff r).prodAt j = s.prodAt j := by simp only [State.prodAt, State.handoff_prods]
@[simp] theorem State.handoff_now (r : ARec) : (s.handoff r).now = s.now := by simp only [State.now, State.handoff_times]

/-! ### service -/

@[simp] theorem State.service_pending (a b c d e : Nat) (l : List Nat) : (s.service a b c d e l).pending = s.pending := by unfold State.service; simp
@[simp] theorem State.service_power (a b c d e : Nat) (l : List Nat) : (s.service a b c d e l).power = s.power := by unfold State.service; simp
@[simp] theorem State.service_times (a b c d e : Nat) (l : List Nat) : (s.service a b c d e l).times = s.times := by unfold State.service; simp
@[simp] theorem State.service_routed (a b c d e : Nat) (l : List Nat) : (s.service a b c d e l).routed = s.routed := by unfold State.service; simp
@[simp] theorem State.service_cfg (a b c d e : Nat) (l : List Nat) : (s.service a b c d e l).cfg = s.cfg := by unfold State.service; simp
@[simp] theorem State.service_parts (a b c d e : Nat) (l : List Nat) : (s.service a b c d e l).parts = s.parts := by unfold State.service; simp
@[simp] theorem State.service_own (a b c d e : Nat) (l : List Nat) : (s.service a b c d e l).own = s.own := by unfold State.service; simp
@[simp] theorem State.service_ownlock (a b c d e : Nat) (l : List Nat) : (s.service a b c d e l).ownlock = s.ownlock := by unfold State.service; simp
@[simp] theorem State.service_pinlock (a b c d e : Nat) (l : List Nat) : (s.service a b c d e l).pinlock = s.pinlock := by unfold State.service; simp
@[simp] theorem State.service_key0 (a b c d e : Nat) (l : List Nat) : (s.service a b c d e l).key0 = s.key0 := by unfold State.service; simp
@[simp] theorem State.service_authFails (a b c d e : Nat) (l : List Nat) : (s.service a b c d e l).authFails = s.authFails := by unfold State.service; simp
@[simp] theorem State.service_lockoutEnd (a b c d e : Nat) (l : List Nat) : (s.service a b c d e l).lockoutEnd = s.lockoutEnd := by unfold State.service; simp
@[simp] theorem State.service_islands (a b c d e : Nat) (l : List Nat) : (s.service a b c d e l).islands = s.islands := by unfold State.service; simp
@[simp] theorem State.service_safenLow (a b c d e : Nat) (l : List Nat) : (s.service a b c d e l).safenLow = s.safenLow := by unfold State.service; simp
@[simp] theorem State.service_faults (a b c d e : Nat) (l : List Nat) : (s.service a b c d e l).faults = s.faults := by unfold State.service; simp
@[simp] theorem State.service_units (a b c d e : Nat) (l : List Nat) : (s.service a b c d e l).units = s.units := by unfold State.service; simp
@[simp] theorem State.service_grants (a b c d e : Nat) (l : List Nat) : (s.service a b c d e l).grants = s.grants := by unfold State.service; simp
@[simp] theorem State.service_impls (a b c d e : Nat) (l : List Nat) : (s.service a b c d e l).impls = s.impls := by unfold State.service; simp
@[simp] theorem State.service_secs (a b c d e : Nat) (l : List Nat) : (s.service a b c d e l).secs = s.secs := by unfold State.service; simp
@[simp] theorem State.service_odos (a b c d e : Nat) (l : List Nat) : (s.service a b c d e l).odos = s.odos := by unfold State.service; simp
@[simp] theorem State.service_ssps (a b c d e : Nat) (l : List Nat) : (s.service a b c d e l).ssps = s.ssps := by unfold State.service; simp
@[simp] theorem State.service_prods (a b c d e : Nat) (l : List Nat) : (s.service a b c d e l).prods = s.prods := by unfold State.service; simp
@[simp] theorem State.service_cellar (a b c d e : Nat) (l : List Nat) : (s.service a b c d e l).cellar = s.cellar := by unfold State.service; simp
@[simp] theorem State.service_pantry (a b c d e : Nat) (l : List Nat) : (s.service a b c d e l).pantry = s.pantry := by unfold State.service; simp
@[simp] theorem State.service_cans (a b c d e : Nat) (l : List Nat) : (s.service a b c d e l).cans = s.cans := by unfold State.service; simp
@[simp] theorem State.service_peer (a b c d e : Nat) (l : List Nat) : (s.service a b c d e l).peer = s.peer := by unfold State.service; simp
@[simp] theorem State.service_uarts (a b c d e : Nat) (l : List Nat) : (s.service a b c d e l).uarts = s.uarts := by unfold State.service; simp
@[simp] theorem State.service_spi (a b c d e : Nat) (l : List Nat) : (s.service a b c d e l).spi = s.spi := by unfold State.service; simp
@[simp] theorem State.service_i2cs (a b c d e : Nat) (l : List Nat) : (s.service a b c d e l).i2cs = s.i2cs := by unfold State.service; simp
@[simp] theorem State.service_pins (a b c d e : Nat) (l : List Nat) : (s.service a b c d e l).pins = s.pins := by unfold State.service; simp
@[simp] theorem State.service_gnss (a b c d e : Nat) (l : List Nat) : (s.service a b c d e l).gnss = s.gnss := by unfold State.service; simp
@[simp] theorem State.service_lastTick (a b c d e : Nat) (l : List Nat) : (s.service a b c d e l).lastTick = s.lastTick := by unfold State.service; simp
@[simp] theorem State.service_freeIx (a b c d e : Nat) (l : List Nat) : (s.service a b c d e l).freeIx = s.freeIx := by unfold State.service; simp
@[simp] theorem State.service_partAt (a b c d e : Nat) (l : List Nat) (j : Nat) : (s.service a b c d e l).partAt j = s.partAt j := by simp only [State.partAt, State.service_parts]
@[simp] theorem State.service_unitAt (a b c d e : Nat) (l : List Nat) (j : Nat) : (s.service a b c d e l).unitAt j = s.unitAt j := by simp only [State.unitAt, State.service_units]
@[simp] theorem State.service_implAt (a b c d e : Nat) (l : List Nat) (j : Nat) : (s.service a b c d e l).implAt j = s.implAt j := by simp only [State.implAt, State.service_impls]
@[simp] theorem State.service_secAt (a b c d e : Nat) (l : List Nat) (j : Nat) : (s.service a b c d e l).secAt j = s.secAt j := by simp only [State.secAt, State.service_secs]
@[simp] theorem State.service_odoAt (a b c d e : Nat) (l : List Nat) (j : Nat) : (s.service a b c d e l).odoAt j = s.odoAt j := by simp only [State.odoAt, State.service_odos]
@[simp] theorem State.service_sspAt (a b c d e : Nat) (l : List Nat) (j : Nat) : (s.service a b c d e l).sspAt j = s.sspAt j := by simp only [State.sspAt, State.service_ssps]
@[simp] theorem State.service_prodAt (a b c d e : Nat) (l : List Nat) (j : Nat) : (s.service a b c d e l).prodAt j = s.prodAt j := by simp only [State.prodAt, State.service_prods]
@[simp] theorem State.service_now (a b c d e : Nat) (l : List Nat) : (s.service a b c d e l).now = s.now := by simp only [State.now, State.service_times]

/-! ### fieldBy -/

@[simp] theorem State.fieldBy_pending (a b c d e : Nat) (l : List Nat) : (s.fieldBy a b c d e l).pending = s.pending := by unfold State.fieldBy; simp
@[simp] theorem State.fieldBy_power (a b c d e : Nat) (l : List Nat) : (s.fieldBy a b c d e l).power = s.power := by unfold State.fieldBy; simp
@[simp] theorem State.fieldBy_times (a b c d e : Nat) (l : List Nat) : (s.fieldBy a b c d e l).times = s.times := by unfold State.fieldBy; simp
@[simp] theorem State.fieldBy_routed (a b c d e : Nat) (l : List Nat) : (s.fieldBy a b c d e l).routed = s.routed := by unfold State.fieldBy; simp
@[simp] theorem State.fieldBy_cfg (a b c d e : Nat) (l : List Nat) : (s.fieldBy a b c d e l).cfg = s.cfg := by unfold State.fieldBy; simp
@[simp] theorem State.fieldBy_parts (a b c d e : Nat) (l : List Nat) : (s.fieldBy a b c d e l).parts = s.parts := by unfold State.fieldBy; simp
@[simp] theorem State.fieldBy_own (a b c d e : Nat) (l : List Nat) : (s.fieldBy a b c d e l).own = s.own := by unfold State.fieldBy; simp
@[simp] theorem State.fieldBy_ownlock (a b c d e : Nat) (l : List Nat) : (s.fieldBy a b c d e l).ownlock = s.ownlock := by unfold State.fieldBy; simp
@[simp] theorem State.fieldBy_pinlock (a b c d e : Nat) (l : List Nat) : (s.fieldBy a b c d e l).pinlock = s.pinlock := by unfold State.fieldBy; simp
@[simp] theorem State.fieldBy_key0 (a b c d e : Nat) (l : List Nat) : (s.fieldBy a b c d e l).key0 = s.key0 := by unfold State.fieldBy; simp
@[simp] theorem State.fieldBy_authFails (a b c d e : Nat) (l : List Nat) : (s.fieldBy a b c d e l).authFails = s.authFails := by unfold State.fieldBy; simp
@[simp] theorem State.fieldBy_lockoutEnd (a b c d e : Nat) (l : List Nat) : (s.fieldBy a b c d e l).lockoutEnd = s.lockoutEnd := by unfold State.fieldBy; simp
@[simp] theorem State.fieldBy_islands (a b c d e : Nat) (l : List Nat) : (s.fieldBy a b c d e l).islands = s.islands := by unfold State.fieldBy; simp
@[simp] theorem State.fieldBy_safenLow (a b c d e : Nat) (l : List Nat) : (s.fieldBy a b c d e l).safenLow = s.safenLow := by unfold State.fieldBy; simp
@[simp] theorem State.fieldBy_faults (a b c d e : Nat) (l : List Nat) : (s.fieldBy a b c d e l).faults = s.faults := by unfold State.fieldBy; simp
@[simp] theorem State.fieldBy_units (a b c d e : Nat) (l : List Nat) : (s.fieldBy a b c d e l).units = s.units := by unfold State.fieldBy; simp
@[simp] theorem State.fieldBy_grants (a b c d e : Nat) (l : List Nat) : (s.fieldBy a b c d e l).grants = s.grants := by unfold State.fieldBy; simp
@[simp] theorem State.fieldBy_impls (a b c d e : Nat) (l : List Nat) : (s.fieldBy a b c d e l).impls = s.impls := by unfold State.fieldBy; simp
@[simp] theorem State.fieldBy_secs (a b c d e : Nat) (l : List Nat) : (s.fieldBy a b c d e l).secs = s.secs := by unfold State.fieldBy; simp
@[simp] theorem State.fieldBy_odos (a b c d e : Nat) (l : List Nat) : (s.fieldBy a b c d e l).odos = s.odos := by unfold State.fieldBy; simp
@[simp] theorem State.fieldBy_ssps (a b c d e : Nat) (l : List Nat) : (s.fieldBy a b c d e l).ssps = s.ssps := by unfold State.fieldBy; simp
@[simp] theorem State.fieldBy_prods (a b c d e : Nat) (l : List Nat) : (s.fieldBy a b c d e l).prods = s.prods := by unfold State.fieldBy; simp
@[simp] theorem State.fieldBy_cellar (a b c d e : Nat) (l : List Nat) : (s.fieldBy a b c d e l).cellar = s.cellar := by unfold State.fieldBy; simp
@[simp] theorem State.fieldBy_pantry (a b c d e : Nat) (l : List Nat) : (s.fieldBy a b c d e l).pantry = s.pantry := by unfold State.fieldBy; simp
@[simp] theorem State.fieldBy_cans (a b c d e : Nat) (l : List Nat) : (s.fieldBy a b c d e l).cans = s.cans := by unfold State.fieldBy; simp
@[simp] theorem State.fieldBy_peer (a b c d e : Nat) (l : List Nat) : (s.fieldBy a b c d e l).peer = s.peer := by unfold State.fieldBy; simp
@[simp] theorem State.fieldBy_uarts (a b c d e : Nat) (l : List Nat) : (s.fieldBy a b c d e l).uarts = s.uarts := by unfold State.fieldBy; simp
@[simp] theorem State.fieldBy_spi (a b c d e : Nat) (l : List Nat) : (s.fieldBy a b c d e l).spi = s.spi := by unfold State.fieldBy; simp
@[simp] theorem State.fieldBy_i2cs (a b c d e : Nat) (l : List Nat) : (s.fieldBy a b c d e l).i2cs = s.i2cs := by unfold State.fieldBy; simp
@[simp] theorem State.fieldBy_pins (a b c d e : Nat) (l : List Nat) : (s.fieldBy a b c d e l).pins = s.pins := by unfold State.fieldBy; simp
@[simp] theorem State.fieldBy_gnss (a b c d e : Nat) (l : List Nat) : (s.fieldBy a b c d e l).gnss = s.gnss := by unfold State.fieldBy; simp
@[simp] theorem State.fieldBy_lastTick (a b c d e : Nat) (l : List Nat) : (s.fieldBy a b c d e l).lastTick = s.lastTick := by unfold State.fieldBy; simp
@[simp] theorem State.fieldBy_freeIx (a b c d e : Nat) (l : List Nat) : (s.fieldBy a b c d e l).freeIx = s.freeIx := by unfold State.fieldBy; simp
@[simp] theorem State.fieldBy_partAt (a b c d e : Nat) (l : List Nat) (j : Nat) : (s.fieldBy a b c d e l).partAt j = s.partAt j := by simp only [State.partAt, State.fieldBy_parts]
@[simp] theorem State.fieldBy_unitAt (a b c d e : Nat) (l : List Nat) (j : Nat) : (s.fieldBy a b c d e l).unitAt j = s.unitAt j := by simp only [State.unitAt, State.fieldBy_units]
@[simp] theorem State.fieldBy_implAt (a b c d e : Nat) (l : List Nat) (j : Nat) : (s.fieldBy a b c d e l).implAt j = s.implAt j := by simp only [State.implAt, State.fieldBy_impls]
@[simp] theorem State.fieldBy_secAt (a b c d e : Nat) (l : List Nat) (j : Nat) : (s.fieldBy a b c d e l).secAt j = s.secAt j := by simp only [State.secAt, State.fieldBy_secs]
@[simp] theorem State.fieldBy_odoAt (a b c d e : Nat) (l : List Nat) (j : Nat) : (s.fieldBy a b c d e l).odoAt j = s.odoAt j := by simp only [State.odoAt, State.fieldBy_odos]
@[simp] theorem State.fieldBy_sspAt (a b c d e : Nat) (l : List Nat) (j : Nat) : (s.fieldBy a b c d e l).sspAt j = s.sspAt j := by simp only [State.sspAt, State.fieldBy_ssps]
@[simp] theorem State.fieldBy_prodAt (a b c d e : Nat) (l : List Nat) (j : Nat) : (s.fieldBy a b c d e l).prodAt j = s.prodAt j := by simp only [State.prodAt, State.fieldBy_prods]
@[simp] theorem State.fieldBy_now (a b c d e : Nat) (l : List Nat) : (s.fieldBy a b c d e l).now = s.now := by simp only [State.now, State.fieldBy_times]

/-! ### field -/

@[simp] theorem State.field_pending (a b c d : Nat) (l : List Nat) : (s.field a b c d l).pending = s.pending := by unfold State.field; simp
@[simp] theorem State.field_power (a b c d : Nat) (l : List Nat) : (s.field a b c d l).power = s.power := by unfold State.field; simp
@[simp] theorem State.field_times (a b c d : Nat) (l : List Nat) : (s.field a b c d l).times = s.times := by unfold State.field; simp
@[simp] theorem State.field_routed (a b c d : Nat) (l : List Nat) : (s.field a b c d l).routed = s.routed := by unfold State.field; simp
@[simp] theorem State.field_cfg (a b c d : Nat) (l : List Nat) : (s.field a b c d l).cfg = s.cfg := by unfold State.field; simp
@[simp] theorem State.field_parts (a b c d : Nat) (l : List Nat) : (s.field a b c d l).parts = s.parts := by unfold State.field; simp
@[simp] theorem State.field_own (a b c d : Nat) (l : List Nat) : (s.field a b c d l).own = s.own := by unfold State.field; simp
@[simp] theorem State.field_ownlock (a b c d : Nat) (l : List Nat) : (s.field a b c d l).ownlock = s.ownlock := by unfold State.field; simp
@[simp] theorem State.field_pinlock (a b c d : Nat) (l : List Nat) : (s.field a b c d l).pinlock = s.pinlock := by unfold State.field; simp
@[simp] theorem State.field_key0 (a b c d : Nat) (l : List Nat) : (s.field a b c d l).key0 = s.key0 := by unfold State.field; simp
@[simp] theorem State.field_authFails (a b c d : Nat) (l : List Nat) : (s.field a b c d l).authFails = s.authFails := by unfold State.field; simp
@[simp] theorem State.field_lockoutEnd (a b c d : Nat) (l : List Nat) : (s.field a b c d l).lockoutEnd = s.lockoutEnd := by unfold State.field; simp
@[simp] theorem State.field_islands (a b c d : Nat) (l : List Nat) : (s.field a b c d l).islands = s.islands := by unfold State.field; simp
@[simp] theorem State.field_safenLow (a b c d : Nat) (l : List Nat) : (s.field a b c d l).safenLow = s.safenLow := by unfold State.field; simp
@[simp] theorem State.field_faults (a b c d : Nat) (l : List Nat) : (s.field a b c d l).faults = s.faults := by unfold State.field; simp
@[simp] theorem State.field_units (a b c d : Nat) (l : List Nat) : (s.field a b c d l).units = s.units := by unfold State.field; simp
@[simp] theorem State.field_grants (a b c d : Nat) (l : List Nat) : (s.field a b c d l).grants = s.grants := by unfold State.field; simp
@[simp] theorem State.field_impls (a b c d : Nat) (l : List Nat) : (s.field a b c d l).impls = s.impls := by unfold State.field; simp
@[simp] theorem State.field_secs (a b c d : Nat) (l : List Nat) : (s.field a b c d l).secs = s.secs := by unfold State.field; simp
@[simp] theorem State.field_odos (a b c d : Nat) (l : List Nat) : (s.field a b c d l).odos = s.odos := by unfold State.field; simp
@[simp] theorem State.field_ssps (a b c d : Nat) (l : List Nat) : (s.field a b c d l).ssps = s.ssps := by unfold State.field; simp
@[simp] theorem State.field_prods (a b c d : Nat) (l : List Nat) : (s.field a b c d l).prods = s.prods := by unfold State.field; simp
@[simp] theorem State.field_cellar (a b c d : Nat) (l : List Nat) : (s.field a b c d l).cellar = s.cellar := by unfold State.field; simp
@[simp] theorem State.field_pantry (a b c d : Nat) (l : List Nat) : (s.field a b c d l).pantry = s.pantry := by unfold State.field; simp
@[simp] theorem State.field_cans (a b c d : Nat) (l : List Nat) : (s.field a b c d l).cans = s.cans := by unfold State.field; simp
@[simp] theorem State.field_peer (a b c d : Nat) (l : List Nat) : (s.field a b c d l).peer = s.peer := by unfold State.field; simp
@[simp] theorem State.field_uarts (a b c d : Nat) (l : List Nat) : (s.field a b c d l).uarts = s.uarts := by unfold State.field; simp
@[simp] theorem State.field_spi (a b c d : Nat) (l : List Nat) : (s.field a b c d l).spi = s.spi := by unfold State.field; simp
@[simp] theorem State.field_i2cs (a b c d : Nat) (l : List Nat) : (s.field a b c d l).i2cs = s.i2cs := by unfold State.field; simp
@[simp] theorem State.field_pins (a b c d : Nat) (l : List Nat) : (s.field a b c d l).pins = s.pins := by unfold State.field; simp
@[simp] theorem State.field_gnss (a b c d : Nat) (l : List Nat) : (s.field a b c d l).gnss = s.gnss := by unfold State.field; simp
@[simp] theorem State.field_lastTick (a b c d : Nat) (l : List Nat) : (s.field a b c d l).lastTick = s.lastTick := by unfold State.field; simp
@[simp] theorem State.field_freeIx (a b c d : Nat) (l : List Nat) : (s.field a b c d l).freeIx = s.freeIx := by unfold State.field; simp
@[simp] theorem State.field_partAt (a b c d : Nat) (l : List Nat) (j : Nat) : (s.field a b c d l).partAt j = s.partAt j := by simp only [State.partAt, State.field_parts]
@[simp] theorem State.field_unitAt (a b c d : Nat) (l : List Nat) (j : Nat) : (s.field a b c d l).unitAt j = s.unitAt j := by simp only [State.unitAt, State.field_units]
@[simp] theorem State.field_implAt (a b c d : Nat) (l : List Nat) (j : Nat) : (s.field a b c d l).implAt j = s.implAt j := by simp only [State.implAt, State.field_impls]
@[simp] theorem State.field_secAt (a b c d : Nat) (l : List Nat) (j : Nat) : (s.field a b c d l).secAt j = s.secAt j := by simp only [State.secAt, State.field_secs]
@[simp] theorem State.field_odoAt (a b c d : Nat) (l : List Nat) (j : Nat) : (s.field a b c d l).odoAt j = s.odoAt j := by simp only [State.odoAt, State.field_odos]
@[simp] theorem State.field_sspAt (a b c d : Nat) (l : List Nat) (j : Nat) : (s.field a b c d l).sspAt j = s.sspAt j := by simp only [State.sspAt, State.field_ssps]
@[simp] theorem State.field_prodAt (a b c d : Nat) (l : List Nat) (j : Nat) : (s.field a b c d l).prodAt j = s.prodAt j := by simp only [State.prodAt, State.field_prods]
@[simp] theorem State.field_now (a b c d : Nat) (l : List Nat) : (s.field a b c d l).now = s.now := by simp only [State.now, State.field_times]

/-! ### lockedWrite -/

@[simp] theorem State.lockedWrite_pending (i a : Nat) (t : String) : (s.lockedWrite i a t).pending = s.pending := by unfold State.lockedWrite; simp
@[simp] theorem State.lockedWrite_power (i a : Nat) (t : String) : (s.lockedWrite i a t).power = s.power := by unfold State.lockedWrite; simp
@[simp] theorem State.lockedWrite_times (i a : Nat) (t : String) : (s.lockedWrite i a t).times = s.times := by unfold State.lockedWrite; simp
@[simp] theorem State.lockedWrite_routed (i a : Nat) (t : String) : (s.lockedWrite i a t).routed = s.routed := by unfold State.lockedWrite; simp
@[simp] theorem State.lockedWrite_cfg (i a : Nat) (t : String) : (s.lockedWrite i a t).cfg = s.cfg := by unfold State.lockedWrite; simp
@[simp] theorem State.lockedWrite_parts (i a : Nat) (t : String) : (s.lockedWrite i a t).parts = s.parts := by unfold State.lockedWrite; simp
@[simp] theorem State.lockedWrite_own (i a : Nat) (t : String) : (s.lockedWrite i a t).own = s.own := by unfold State.lockedWrite; simp
@[simp] theorem State.lockedWrite_ownlock (i a : Nat) (t : String) : (s.lockedWrite i a t).ownlock = s.ownlock := by unfold State.lockedWrite; simp
@[simp] theorem State.lockedWrite_pinlock (i a : Nat) (t : String) : (s.lockedWrite i a t).pinlock = s.pinlock := by unfold State.lockedWrite; simp
@[simp] theorem State.lockedWrite_key0 (i a : Nat) (t : String) : (s.lockedWrite i a t).key0 = s.key0 := by unfold State.lockedWrite; simp
@[simp] theorem State.lockedWrite_authFails (i a : Nat) (t : String) : (s.lockedWrite i a t).authFails = s.authFails := by unfold State.lockedWrite; simp
@[simp] theorem State.lockedWrite_lockoutEnd (i a : Nat) (t : String) : (s.lockedWrite i a t).lockoutEnd = s.lockoutEnd := by unfold State.lockedWrite; simp
@[simp] theorem State.lockedWrite_islands (i a : Nat) (t : String) : (s.lockedWrite i a t).islands = s.islands := by unfold State.lockedWrite; simp
@[simp] theorem State.lockedWrite_safenLow (i a : Nat) (t : String) : (s.lockedWrite i a t).safenLow = s.safenLow := by unfold State.lockedWrite; simp
@[simp] theorem State.lockedWrite_faults (i a : Nat) (t : String) : (s.lockedWrite i a t).faults = s.faults := by unfold State.lockedWrite; simp
@[simp] theorem State.lockedWrite_units (i a : Nat) (t : String) : (s.lockedWrite i a t).units = s.units := by unfold State.lockedWrite; simp
@[simp] theorem State.lockedWrite_grants (i a : Nat) (t : String) : (s.lockedWrite i a t).grants = s.grants := by unfold State.lockedWrite; simp
@[simp] theorem State.lockedWrite_impls (i a : Nat) (t : String) : (s.lockedWrite i a t).impls = s.impls := by unfold State.lockedWrite; simp
@[simp] theorem State.lockedWrite_secs (i a : Nat) (t : String) : (s.lockedWrite i a t).secs = s.secs := by unfold State.lockedWrite; simp
@[simp] theorem State.lockedWrite_odos (i a : Nat) (t : String) : (s.lockedWrite i a t).odos = s.odos := by unfold State.lockedWrite; simp
@[simp] theorem State.lockedWrite_ssps (i a : Nat) (t : String) : (s.lockedWrite i a t).ssps = s.ssps := by unfold State.lockedWrite; simp
@[simp] theorem State.lockedWrite_prods (i a : Nat) (t : String) : (s.lockedWrite i a t).prods = s.prods := by unfold State.lockedWrite; simp
@[simp] theorem State.lockedWrite_cellar (i a : Nat) (t : String) : (s.lockedWrite i a t).cellar = s.cellar := by unfold State.lockedWrite; simp
@[simp] theorem State.lockedWrite_pantry (i a : Nat) (t : String) : (s.lockedWrite i a t).pantry = s.pantry := by unfold State.lockedWrite; simp
@[simp] theorem State.lockedWrite_cans (i a : Nat) (t : String) : (s.lockedWrite i a t).cans = s.cans := by unfold State.lockedWrite; simp
@[simp] theorem State.lockedWrite_peer (i a : Nat) (t : String) : (s.lockedWrite i a t).peer = s.peer := by unfold State.lockedWrite; simp
@[simp] theorem State.lockedWrite_uarts (i a : Nat) (t : String) : (s.lockedWrite i a t).uarts = s.uarts := by unfold State.lockedWrite; simp
@[simp] theorem State.lockedWrite_spi (i a : Nat) (t : String) : (s.lockedWrite i a t).spi = s.spi := by unfold State.lockedWrite; simp
@[simp] theorem State.lockedWrite_i2cs (i a : Nat) (t : String) : (s.lockedWrite i a t).i2cs = s.i2cs := by unfold State.lockedWrite; simp
@[simp] theorem State.lockedWrite_pins (i a : Nat) (t : String) : (s.lockedWrite i a t).pins = s.pins := by unfold State.lockedWrite; simp
@[simp] theorem State.lockedWrite_gnss (i a : Nat) (t : String) : (s.lockedWrite i a t).gnss = s.gnss := by unfold State.lockedWrite; simp
@[simp] theorem State.lockedWrite_lastTick (i a : Nat) (t : String) : (s.lockedWrite i a t).lastTick = s.lastTick := by unfold State.lockedWrite; simp
@[simp] theorem State.lockedWrite_freeIx (i a : Nat) (t : String) : (s.lockedWrite i a t).freeIx = s.freeIx := by unfold State.lockedWrite; simp
@[simp] theorem State.lockedWrite_partAt (i a : Nat) (t : String) (j : Nat) : (s.lockedWrite i a t).partAt j = s.partAt j := by simp only [State.partAt, State.lockedWrite_parts]
@[simp] theorem State.lockedWrite_unitAt (i a : Nat) (t : String) (j : Nat) : (s.lockedWrite i a t).unitAt j = s.unitAt j := by simp only [State.unitAt, State.lockedWrite_units]
@[simp] theorem State.lockedWrite_implAt (i a : Nat) (t : String) (j : Nat) : (s.lockedWrite i a t).implAt j = s.implAt j := by simp only [State.implAt, State.lockedWrite_impls]
@[simp] theorem State.lockedWrite_secAt (i a : Nat) (t : String) (j : Nat) : (s.lockedWrite i a t).secAt j = s.secAt j := by simp only [State.secAt, State.lockedWrite_secs]
@[simp] theorem State.lockedWrite_odoAt (i a : Nat) (t : String) (j : Nat) : (s.lockedWrite i a t).odoAt j = s.odoAt j := by simp only [State.odoAt, State.lockedWrite_odos]
@[simp] theorem State.lockedWrite_sspAt (i a : Nat) (t : String) (j : Nat) : (s.lockedWrite i a t).sspAt j = s.sspAt j := by simp only [State.sspAt, State.lockedWrite_ssps]
@[simp] theorem State.lockedWrite_prodAt (i a : Nat) (t : String) (j : Nat) : (s.lockedWrite i a t).prodAt j = s.prodAt j := by simp only [State.prodAt, State.lockedWrite_prods]
@[simp] theorem State.lockedWrite_now (i a : Nat) (t : String) : (s.lockedWrite i a t).now = s.now := by simp only [State.now, State.lockedWrite_times]

/-! ### putLines -/

@[simp] theorem State.putLines_pending (i : Nat) (ls : List String) : (s.putLines i ls).pending = s.pending := by rfl
@[simp] theorem State.putLines_power (i : Nat) (ls : List String) : (s.putLines i ls).power = s.power := by rfl
@[simp] theorem State.putLines_times (i : Nat) (ls : List String) : (s.putLines i ls).times = s.times := by rfl
@[simp] theorem State.putLines_routed (i : Nat) (ls : List String) : (s.putLines i ls).routed = s.routed := by rfl
@[simp] theorem State.putLines_cfg (i : Nat) (ls : List String) : (s.putLines i ls).cfg = s.cfg := by rfl
@[simp] theorem State.putLines_cnts (i : Nat) (ls : List String) : (s.putLines i ls).cnts = s.cnts := by rfl
@[simp] theorem State.putLines_parts (i : Nat) (ls : List String) : (s.putLines i ls).parts = s.parts := by rfl
@[simp] theorem State.putLines_own (i : Nat) (ls : List String) : (s.putLines i ls).own = s.own := by rfl
@[simp] theorem State.putLines_ownlock (i : Nat) (ls : List String) : (s.putLines i ls).ownlock = s.ownlock := by rfl
@[simp] theorem State.putLines_pinlock (i : Nat) (ls : List String) : (s.putLines i ls).pinlock = s.pinlock := by rfl
@[simp] theorem State.putLines_key0 (i : Nat) (ls : List String) : (s.putLines i ls).key0 = s.key0 := by rfl
@[simp] theorem State.putLines_authFails (i : Nat) (ls : List String) : (s.putLines i ls).authFails = s.authFails := by rfl
@[simp] theorem State.putLines_lockoutEnd (i : Nat) (ls : List String) : (s.putLines i ls).lockoutEnd = s.lockoutEnd := by rfl
@[simp] theorem State.putLines_islands (i : Nat) (ls : List String) : (s.putLines i ls).islands = s.islands := by rfl
@[simp] theorem State.putLines_safenLow (i : Nat) (ls : List String) : (s.putLines i ls).safenLow = s.safenLow := by rfl
@[simp] theorem State.putLines_attic (i : Nat) (ls : List String) : (s.putLines i ls).attic = s.attic := by rfl
@[simp] theorem State.putLines_trace (i : Nat) (ls : List String) : (s.putLines i ls).trace = s.trace := by rfl
@[simp] theorem State.putLines_faults (i : Nat) (ls : List String) : (s.putLines i ls).faults = s.faults := by rfl
@[simp] theorem State.putLines_units (i : Nat) (ls : List String) : (s.putLines i ls).units = s.units := by rfl
@[simp] theorem State.putLines_grants (i : Nat) (ls : List String) : (s.putLines i ls).grants = s.grants := by rfl
@[simp] theorem State.putLines_impls (i : Nat) (ls : List String) : (s.putLines i ls).impls = s.impls := by rfl
@[simp] theorem State.putLines_secs (i : Nat) (ls : List String) : (s.putLines i ls).secs = s.secs := by rfl
@[simp] theorem State.putLines_odos (i : Nat) (ls : List String) : (s.putLines i ls).odos = s.odos := by rfl
@[simp] theorem State.putLines_ssps (i : Nat) (ls : List String) : (s.putLines i ls).ssps = s.ssps := by rfl
@[simp] theorem State.putLines_prods (i : Nat) (ls : List String) : (s.putLines i ls).prods = s.prods := by rfl
@[simp] theorem State.putLines_cellar (i : Nat) (ls : List String) : (s.putLines i ls).cellar = s.cellar := by rfl
@[simp] theorem State.putLines_larder (i : Nat) (ls : List String) : (s.putLines i ls).larder = s.larder := by rfl
@[simp] theorem State.putLines_pantry (i : Nat) (ls : List String) : (s.putLines i ls).pantry = s.pantry := by rfl
@[simp] theorem State.putLines_cans (i : Nat) (ls : List String) : (s.putLines i ls).cans = s.cans := by rfl
@[simp] theorem State.putLines_peer (i : Nat) (ls : List String) : (s.putLines i ls).peer = s.peer := by rfl
@[simp] theorem State.putLines_uarts (i : Nat) (ls : List String) : (s.putLines i ls).uarts = s.uarts := by rfl
@[simp] theorem State.putLines_spi (i : Nat) (ls : List String) : (s.putLines i ls).spi = s.spi := by rfl
@[simp] theorem State.putLines_i2cs (i : Nat) (ls : List String) : (s.putLines i ls).i2cs = s.i2cs := by rfl
@[simp] theorem State.putLines_pins (i : Nat) (ls : List String) : (s.putLines i ls).pins = s.pins := by rfl
@[simp] theorem State.putLines_gnss (i : Nat) (ls : List String) : (s.putLines i ls).gnss = s.gnss := by rfl
@[simp] theorem State.putLines_lastTick (i : Nat) (ls : List String) : (s.putLines i ls).lastTick = s.lastTick := by rfl
@[simp] theorem State.putLines_freeIx (i : Nat) (ls : List String) : (s.putLines i ls).freeIx = s.freeIx := by rfl
@[simp] theorem State.putLines_partAt (i : Nat) (ls : List String) (j : Nat) : (s.putLines i ls).partAt j = s.partAt j := by simp only [State.partAt, State.putLines_parts]
@[simp] theorem State.putLines_unitAt (i : Nat) (ls : List String) (j : Nat) : (s.putLines i ls).unitAt j = s.unitAt j := by simp only [State.unitAt, State.putLines_units]
@[simp] theorem State.putLines_implAt (i : Nat) (ls : List String) (j : Nat) : (s.putLines i ls).implAt j = s.implAt j := by simp only [State.implAt, State.putLines_impls]
@[simp] theorem State.putLines_secAt (i : Nat) (ls : List String) (j : Nat) : (s.putLines i ls).secAt j = s.secAt j := by simp only [State.secAt, State.putLines_secs]
@[simp] theorem State.putLines_odoAt (i : Nat) (ls : List String) (j : Nat) : (s.putLines i ls).odoAt j = s.odoAt j := by simp only [State.odoAt, State.putLines_odos]
@[simp] theorem State.putLines_sspAt (i : Nat) (ls : List String) (j : Nat) : (s.putLines i ls).sspAt j = s.sspAt j := by simp only [State.sspAt, State.putLines_ssps]
@[simp] theorem State.putLines_prodAt (i : Nat) (ls : List String) (j : Nat) : (s.putLines i ls).prodAt j = s.prodAt j := by simp only [State.prodAt, State.putLines_prods]
@[simp] theorem State.putLines_now (i : Nat) (ls : List String) : (s.putLines i ls).now = s.now := by simp only [State.now, State.putLines_times]

/-! ### sendErr -/

@[simp] theorem State.sendErr_pending (i : Nat) (e : Err) (t : Option String) (c : Bool) : (s.sendErr i e t c).pending = s.pending := by unfold State.sendErr; simp only []; (repeat' split) <;> simp
@[simp] theorem State.sendErr_power (i : Nat) (e : Err) (t : Option String) (c : Bool) : (s.sendErr i e t c).power = s.power := by unfold State.sendErr; simp only []; (repeat' split) <;> simp
@[simp] theorem State.sendErr_times (i : Nat) (e : Err) (t : Option String) (c : Bool) : (s.sendErr i e t c).times = s.times := by unfold State.sendErr; simp only []; (repeat' split) <;> simp
@[simp] theorem State.sendErr_routed (i : Nat) (e : Err) (t : Option String) (c : Bool) : (s.sendErr i e t c).routed = s.routed := by unfold State.sendErr; simp only []; (repeat' split) <;> simp
@[simp] theorem State.sendErr_cfg (i : Nat) (e : Err) (t : Option String) (c : Bool) : (s.sendErr i e t c).cfg = s.cfg := by unfold State.sendErr; simp only []; (repeat' split) <;> simp
@[simp] theorem State.sendErr_parts (i : Nat) (e : Err) (t : Option String) (c : Bool) : (s.sendErr i e t c).parts = s.parts := by unfold State.sendErr; simp only []; (repeat' split) <;> simp
@[simp] theorem State.sendErr_own (i : Nat) (e : Err) (t : Option String) (c : Bool) : (s.sendErr i e t c).own = s.own := by unfold State.sendErr; simp only []; (repeat' split) <;> simp
@[simp] theorem State.sendErr_ownlock (i : Nat) (e : Err) (t : Option String) (c : Bool) : (s.sendErr i e t c).ownlock = s.ownlock := by unfold State.sendErr; simp only []; (repeat' split) <;> simp
@[simp] theorem State.sendErr_pinlock (i : Nat) (e : Err) (t : Option String) (c : Bool) : (s.sendErr i e t c).pinlock = s.pinlock := by unfold State.sendErr; simp only []; (repeat' split) <;> simp
@[simp] theorem State.sendErr_key0 (i : Nat) (e : Err) (t : Option String) (c : Bool) : (s.sendErr i e t c).key0 = s.key0 := by unfold State.sendErr; simp only []; (repeat' split) <;> simp
@[simp] theorem State.sendErr_authFails (i : Nat) (e : Err) (t : Option String) (c : Bool) : (s.sendErr i e t c).authFails = s.authFails := by unfold State.sendErr; simp only []; (repeat' split) <;> simp
@[simp] theorem State.sendErr_lockoutEnd (i : Nat) (e : Err) (t : Option String) (c : Bool) : (s.sendErr i e t c).lockoutEnd = s.lockoutEnd := by unfold State.sendErr; simp only []; (repeat' split) <;> simp
@[simp] theorem State.sendErr_islands (i : Nat) (e : Err) (t : Option String) (c : Bool) : (s.sendErr i e t c).islands = s.islands := by unfold State.sendErr; simp only []; (repeat' split) <;> simp
@[simp] theorem State.sendErr_safenLow (i : Nat) (e : Err) (t : Option String) (c : Bool) : (s.sendErr i e t c).safenLow = s.safenLow := by unfold State.sendErr; simp only []; (repeat' split) <;> simp
@[simp] theorem State.sendErr_attic (i : Nat) (e : Err) (t : Option String) (c : Bool) : (s.sendErr i e t c).attic = s.attic := by unfold State.sendErr; simp only []; (repeat' split) <;> simp
@[simp] theorem State.sendErr_trace (i : Nat) (e : Err) (t : Option String) (c : Bool) : (s.sendErr i e t c).trace = s.trace := by unfold State.sendErr; simp only []; (repeat' split) <;> simp
@[simp] theorem State.sendErr_faults (i : Nat) (e : Err) (t : Option String) (c : Bool) : (s.sendErr i e t c).faults = s.faults := by unfold State.sendErr; simp only []; (repeat' split) <;> simp
@[simp] theorem State.sendErr_units (i : Nat) (e : Err) (t : Option String) (c : Bool) : (s.sendErr i e t c).units = s.units := by unfold State.sendErr; simp only []; (repeat' split) <;> simp
@[simp] theorem State.sendErr_grants (i : Nat) (e : Err) (t : Option String) (c : Bool) : (s.sendErr i e t c).grants = s.grants := by unfold State.sendErr; simp only []; (repeat' split) <;> simp
@[simp] theorem State.sendErr_impls (i : Nat) (e : Err) (t : Option String) (c : Bool) : (s.sendErr i e t c).impls = s.impls := by unfold State.sendErr; simp only []; (repeat' split) <;> simp
@[simp] theorem State.sendErr_secs (i : Nat) (e : Err) (t : Option String) (c : Bool) : (s.sendErr i e t c).secs = s.secs := by unfold State.sendErr; simp only []; (repeat' split) <;> simp
@[simp] theorem State.sendErr_odos (i : Nat) (e : Err) (t : Option String) (c : Bool) : (s.sendErr i e t c).odos = s.odos := by unfold State.sendErr; simp only []; (repeat' split) <;> simp
@[simp] theorem State.sendErr_ssps (i : Nat) (e : Err) (t : Option String) (c : Bool) : (s.sendErr i e t c).ssps = s.ssps := by unfold State.sendErr; simp only []; (repeat' split) <;> simp
@[simp] theorem State.sendErr_prods (i : Nat) (e : Err) (t : Option String) (c : Bool) : (s.sendErr i e t c).prods = s.prods := by unfold State.sendErr; simp only []; (repeat' split) <;> simp
@[simp] theorem State.sendErr_cellar (i : Nat) (e : Err) (t : Option String) (c : Bool) : (s.sendErr i e t c).cellar = s.cellar := by unfold State.sendErr; simp only []; (repeat' split) <;> simp
@[simp] theorem State.sendErr_larder (i : Nat) (e : Err) (t : Option String) (c : Bool) : (s.sendErr i e t c).larder = s.larder := by unfold State.sendErr; simp only []; (repeat' split) <;> simp
@[simp] theorem State.sendErr_pantry (i : Nat) (e : Err) (t : Option String) (c : Bool) : (s.sendErr i e t c).pantry = s.pantry := by unfold State.sendErr; simp only []; (repeat' split) <;> simp
@[simp] theorem State.sendErr_cans (i : Nat) (e : Err) (t : Option String) (c : Bool) : (s.sendErr i e t c).cans = s.cans := by unfold State.sendErr; simp only []; (repeat' split) <;> simp
@[simp] theorem State.sendErr_peer (i : Nat) (e : Err) (t : Option String) (c : Bool) : (s.sendErr i e t c).peer = s.peer := by unfold State.sendErr; simp only []; (repeat' split) <;> simp
@[simp] theorem State.sendErr_uarts (i : Nat) (e : Err) (t : Option String) (c : Bool) : (s.sendErr i e t c).uarts = s.uarts := by unfold State.sendErr; simp only []; (repeat' split) <;> simp
@[simp] theorem State.sendErr_spi (i : Nat) (e : Err) (t : Option String) (c : Bool) : (s.sendErr i e t c).spi = s.spi := by unfold State.sendErr; simp only []; (repeat' split) <;> simp
@[simp] theorem State.sendErr_i2cs (i : Nat) (e : Err) (t : Option String) (c : Bool) : (s.sendErr i e t c).i2cs = s.i2cs := by unfold State.sendErr; simp only []; (repeat' split) <;> simp
@[simp] theorem State.sendErr_pins (i : Nat) (e : Err) (t : Option String) (c : Bool) : (s.sendErr i e t c).pins = s.pins := by unfold State.sendErr; simp only []; (repeat' split) <;> simp
@[simp] theorem State.sendErr_gnss (i : Nat) (e : Err) (t : Option String) (c : Bool) : (s.sendErr i e t c).gnss = s.gnss := by unfold State.sendErr; simp only []; (repeat' split) <;> simp
@[simp] theorem State.sendErr_lastTick (i : Nat) (e : Err) (t : Option String) (c : Bool) : (s.sendErr i e t c).lastTick = s.lastTick := by unfold State.sendErr; simp only []; (repeat' split) <;> simp
@[simp] theorem State.sendErr_freeIx (i : Nat) (e : Err) (t : Option String) (c : Bool) : (s.sendErr i e t c).freeIx = s.freeIx := by unfold State.sendErr; simp only []; (repeat' split) <;> simp
@[simp] theorem State.sendErr_partAt (i : Nat) (e : Err) (t : Option String) (c : Bool) (j : Nat) : (s.sendErr i e t c).partAt j = s.partAt j := by simp only [State.partAt, State.sendErr_parts]
@[simp] theorem State.sendErr_unitAt (i : Nat) (e : Err) (t : Option String) (c : Bool) (j : Nat) : (s.sendErr i e t c).unitAt j = s.unitAt j := by simp only [State.unitAt, State.sendErr_units]
@[simp] theorem State.sendErr_implAt (i : Nat) (e : Err) (t : Option String) (c : Bool) (j : Nat) : (s.sendErr i e t c).implAt j = s.implAt j := by simp only [State.implAt, State.sendErr_impls]
@[simp] theorem State.sendErr_secAt (i : Nat) (e : Err) (t : Option String) (c : Bool) (j : Nat) : (s.sendErr i e t c).secAt j = s.secAt j := by simp only [State.secAt, State.sendErr_secs]
@[simp] theorem State.sendErr_odoAt (i : Nat) (e : Err) (t : Option String) (c : Bool) (j : Nat) : (s.sendErr i e t c).odoAt j = s.odoAt j := by simp only [State.odoAt, State.sendErr_odos]
@[simp] theorem State.sendErr_sspAt (i : Nat) (e : Err) (t : Option String) (c : Bool) (j : Nat) : (s.sendErr i e t c).sspAt j = s.sspAt j := by simp only [State.sspAt, State.sendErr_ssps]
@[simp] theorem State.sendErr_prodAt (i : Nat) (e : Err) (t : Option String) (c : Bool) (j : Nat) : (s.sendErr i e t c).prodAt j = s.prodAt j := by simp only [State.prodAt, State.sendErr_prods]
@[simp] theorem State.sendErr_now (i : Nat) (e : Err) (t : Option String) (c : Bool) : (s.sendErr i e t c).now = s.now := by simp only [State.now, State.sendErr_times]

/-! ### counted -/

@[simp] theorem State.counted_pending (i : Nat) : (s.counted i).pending = s.pending := by rfl
@[simp] theorem State.counted_power (i : Nat) : (s.counted i).power = s.power := by rfl
@[simp] theorem State.counted_times (i : Nat) : (s.counted i).times = s.times := by rfl
@[simp] theorem State.counted_sess (i : Nat) : (s.counted i).sess = s.sess := by rfl
@[simp] theorem State.counted_routed (i : Nat) : (s.counted i).routed = s.routed := by rfl
@[simp] theorem State.counted_cfg (i : Nat) : (s.counted i).cfg = s.cfg := by rfl
@[simp] theorem State.counted_parts (i : Nat) : (s.counted i).parts = s.parts := by rfl
@[simp] theorem State.counted_own (i : Nat) : (s.counted i).own = s.own := by rfl
@[simp] theorem State.counted_ownlock (i : Nat) : (s.counted i).ownlock = s.ownlock := by rfl
@[simp] theorem State.counted_pinlock (i : Nat) : (s.counted i).pinlock = s.pinlock := by rfl
@[simp] theorem State.counted_key0 (i : Nat) : (s.counted i).key0 = s.key0 := by rfl
@[simp] theorem State.counted_authFails (i : Nat) : (s.counted i).authFails = s.authFails := by rfl
@[simp] theorem State.counted_lockoutEnd (i : Nat) : (s.counted i).lockoutEnd = s.lockoutEnd := by rfl
@[simp] theorem State.counted_islands (i : Nat) : (s.counted i).islands = s.islands := by rfl
@[simp] theorem State.counted_safenLow (i : Nat) : (s.counted i).safenLow = s.safenLow := by rfl
@[simp] theorem State.counted_attic (i : Nat) : (s.counted i).attic = s.attic := by rfl
@[simp] theorem State.counted_trace (i : Nat) : (s.counted i).trace = s.trace := by rfl
@[simp] theorem State.counted_faults (i : Nat) : (s.counted i).faults = s.faults := by rfl
@[simp] theorem State.counted_units (i : Nat) : (s.counted i).units = s.units := by rfl
@[simp] theorem State.counted_grants (i : Nat) : (s.counted i).grants = s.grants := by rfl
@[simp] theorem State.counted_impls (i : Nat) : (s.counted i).impls = s.impls := by rfl
@[simp] theorem State.counted_secs (i : Nat) : (s.counted i).secs = s.secs := by rfl
@[simp] theorem State.counted_odos (i : Nat) : (s.counted i).odos = s.odos := by rfl
@[simp] theorem State.counted_ssps (i : Nat) : (s.counted i).ssps = s.ssps := by rfl
@[simp] theorem State.counted_prods (i : Nat) : (s.counted i).prods = s.prods := by rfl
@[simp] theorem State.counted_cellar (i : Nat) : (s.counted i).cellar = s.cellar := by rfl
@[simp] theorem State.counted_larder (i : Nat) : (s.counted i).larder = s.larder := by rfl
@[simp] theorem State.counted_pantry (i : Nat) : (s.counted i).pantry = s.pantry := by rfl
@[simp] theorem State.counted_cans (i : Nat) : (s.counted i).cans = s.cans := by rfl
@[simp] theorem State.counted_peer (i : Nat) : (s.counted i).peer = s.peer := by rfl
@[simp] theorem State.counted_uarts (i : Nat) : (s.counted i).uarts = s.uarts := by rfl
@[simp] theorem State.counted_spi (i : Nat) : (s.counted i).spi = s.spi := by rfl
@[simp] theorem State.counted_i2cs (i : Nat) : (s.counted i).i2cs = s.i2cs := by rfl
@[simp] theorem State.counted_pins (i : Nat) : (s.counted i).pins = s.pins := by rfl
@[simp] theorem State.counted_gnss (i : Nat) : (s.counted i).gnss = s.gnss := by rfl
@[simp] theorem State.counted_lastTick (i : Nat) : (s.counted i).lastTick = s.lastTick := by rfl
@[simp] theorem State.counted_freeIx (i : Nat) : (s.counted i).freeIx = s.freeIx := by rfl
@[simp] theorem State.counted_sessAt (i : Nat) (j : Nat) : (s.counted i).sessAt j = s.sessAt j := by simp only [State.sessAt, State.counted_sess]
@[simp] theorem State.counted_partAt (i : Nat) (j : Nat) : (s.counted i).partAt j = s.partAt j := by simp only [State.partAt, State.counted_parts]
@[simp] theorem State.counted_unitAt (i : Nat) (j : Nat) : (s.counted i).unitAt j = s.unitAt j := by simp only [State.unitAt, State.counted_units]
@[simp] theorem State.counted_implAt (i : Nat) (j : Nat) : (s.counted i).implAt j = s.implAt j := by simp only [State.implAt, State.counted_impls]
@[simp] theorem State.counted_secAt (i : Nat) (j : Nat) : (s.counted i).secAt j = s.secAt j := by simp only [State.secAt, State.counted_secs]
@[simp] theorem State.counted_odoAt (i : Nat) (j : Nat) : (s.counted i).odoAt j = s.odoAt j := by simp only [State.odoAt, State.counted_odos]
@[simp] theorem State.counted_sspAt (i : Nat) (j : Nat) : (s.counted i).sspAt j = s.sspAt j := by simp only [State.sspAt, State.counted_ssps]
@[simp] theorem State.counted_prodAt (i : Nat) (j : Nat) : (s.counted i).prodAt j = s.prodAt j := by simp only [State.prodAt, State.counted_prods]
@[simp] theorem State.counted_now (i : Nat) : (s.counted i).now = s.now := by simp only [State.now, State.counted_times]

/-! ### prompt -/

@[simp] theorem State.prompt_pending (i : Nat) : (s.prompt i).pending = s.pending := by unfold State.prompt; simp only []; split <;> rfl
@[simp] theorem State.prompt_power (i : Nat) : (s.prompt i).power = s.power := by unfold State.prompt; simp only []; split <;> rfl
@[simp] theorem State.prompt_times (i : Nat) : (s.prompt i).times = s.times := by unfold State.prompt; simp only []; split <;> rfl
@[simp] theorem State.prompt_routed (i : Nat) : (s.prompt i).routed = s.routed := by unfold State.prompt; simp only []; split <;> rfl
@[simp] theorem State.prompt_cfg (i : Nat) : (s.prompt i).cfg = s.cfg := by unfold State.prompt; simp only []; split <;> rfl
@[simp] theorem State.prompt_cnts (i : Nat) : (s.prompt i).cnts = s.cnts := by unfold State.prompt; simp only []; split <;> rfl
@[simp] theorem State.prompt_parts (i : Nat) : (s.prompt i).parts = s.parts := by unfold State.prompt; simp only []; split <;> rfl
@[simp] theorem State.prompt_own (i : Nat) : (s.prompt i).own = s.own := by unfold State.prompt; simp only []; split <;> rfl
@[simp] theorem State.prompt_ownlock (i : Nat) : (s.prompt i).ownlock = s.ownlock := by unfold State.prompt; simp only []; split <;> rfl
@[simp] theorem State.prompt_pinlock (i : Nat) : (s.prompt i).pinlock = s.pinlock := by unfold State.prompt; simp only []; split <;> rfl
@[simp] theorem State.prompt_key0 (i : Nat) : (s.prompt i).key0 = s.key0 := by unfold State.prompt; simp only []; split <;> rfl
@[simp] theorem State.prompt_authFails (i : Nat) : (s.prompt i).authFails = s.authFails := by unfold State.prompt; simp only []; split <;> rfl
@[simp] theorem State.prompt_lockoutEnd (i : Nat) : (s.prompt i).lockoutEnd = s.lockoutEnd := by unfold State.prompt; simp only []; split <;> rfl
@[simp] theorem State.prompt_islands (i : Nat) : (s.prompt i).islands = s.islands := by unfold State.prompt; simp only []; split <;> rfl
@[simp] theorem State.prompt_safenLow (i : Nat) : (s.prompt i).safenLow = s.safenLow := by unfold State.prompt; simp only []; split <;> rfl
@[simp] theorem State.prompt_attic (i : Nat) : (s.prompt i).attic = s.attic := by unfold State.prompt; simp only []; split <;> rfl
@[simp] theorem State.prompt_trace (i : Nat) : (s.prompt i).trace = s.trace := by unfold State.prompt; simp only []; split <;> rfl
@[simp] theorem State.prompt_faults (i : Nat) : (s.prompt i).faults = s.faults := by unfold State.prompt; simp only []; split <;> rfl
@[simp] theorem State.prompt_units (i : Nat) : (s.prompt i).units = s.units := by unfold State.prompt; simp only []; split <;> rfl
@[simp] theorem State.prompt_grants (i : Nat) : (s.prompt i).grants = s.grants := by unfold State.prompt; simp only []; split <;> rfl
@[simp] theorem State.prompt_impls (i : Nat) : (s.prompt i).impls = s.impls := by unfold State.prompt; simp only []; split <;> rfl
@[simp] theorem State.prompt_secs (i : Nat) : (s.prompt i).secs = s.secs := by unfold State.prompt; simp only []; split <;> rfl
@[simp] theorem State.prompt_odos (i : Nat) : (s.prompt i).odos = s.odos := by unfold State.prompt; simp only []; split <;> rfl
@[simp] theorem State.prompt_ssps (i : Nat) : (s.prompt i).ssps = s.ssps := by unfold State.prompt; simp only []; split <;> rfl
@[simp] theorem State.prompt_prods (i : Nat) : (s.prompt i).prods = s.prods := by unfold State.prompt; simp only []; split <;> rfl
@[simp] theorem State.prompt_cellar (i : Nat) : (s.prompt i).cellar = s.cellar := by unfold State.prompt; simp only []; split <;> rfl
@[simp] theorem State.prompt_larder (i : Nat) : (s.prompt i).larder = s.larder := by unfold State.prompt; simp only []; split <;> rfl
@[simp] theorem State.prompt_pantry (i : Nat) : (s.prompt i).pantry = s.pantry := by unfold State.prompt; simp only []; split <;> rfl
@[simp] theorem State.prompt_cans (i : Nat) : (s.prompt i).cans = s.cans := by unfold State.prompt; simp only []; split <;> rfl
@[simp] theorem State.prompt_peer (i : Nat) : (s.prompt i).peer = s.peer := by unfold State.prompt; simp only []; split <;> rfl
@[simp] theorem State.prompt_uarts (i : Nat) : (s.prompt i).uarts = s.uarts := by unfold State.prompt; simp only []; split <;> rfl
@[simp] theorem State.prompt_spi (i : Nat) : (s.prompt i).spi = s.spi := by unfold State.prompt; simp only []; split <;> rfl
@[simp] theorem State.prompt_i2cs (i : Nat) : (s.prompt i).i2cs = s.i2cs := by unfold State.prompt; simp only []; split <;> rfl
@[simp] theorem State.prompt_pins (i : Nat) : (s.prompt i).pins = s.pins := by unfold State.prompt; simp only []; split <;> rfl
@[simp] theorem State.prompt_gnss (i : Nat) : (s.prompt i).gnss = s.gnss := by unfold State.prompt; simp only []; split <;> rfl
@[simp] theorem State.prompt_lastTick (i : Nat) : (s.prompt i).lastTick = s.lastTick := by unfold State.prompt; simp only []; split <;> rfl
@[simp] theorem State.prompt_freeIx (i : Nat) : (s.prompt i).freeIx = s.freeIx := by unfold State.prompt; simp only []; split <;> rfl
@[simp] theorem State.prompt_partAt (i : Nat) (j : Nat) : (s.prompt i).partAt j = s.partAt j := by simp only [State.partAt, State.prompt_parts]
@[simp] theorem State.prompt_unitAt (i : Nat) (j : Nat) : (s.prompt i).unitAt j = s.unitAt j := by simp only [State.unitAt, State.prompt_units]
@[simp] theorem State.prompt_implAt (i : Nat) (j : Nat) : (s.prompt i).implAt j = s.implAt j := by simp only [State.implAt, State.prompt_impls]
@[simp] theorem State.prompt_secAt (i : Nat) (j : Nat) : (s.prompt i).secAt j = s.secAt j := by simp only [State.secAt, State.prompt_secs]
@[simp] theorem State.prompt_odoAt (i : Nat) (j : Nat) : (s.prompt i).odoAt j = s.odoAt j := by simp only [State.odoAt, State.prompt_odos]
@[simp] theorem State.prompt_sspAt (i : Nat) (j : Nat) : (s.prompt i).sspAt j = s.sspAt j := by simp only [State.sspAt, State.prompt_ssps]
@[simp] theorem State.prompt_prodAt (i : Nat) (j : Nat) : (s.prompt i).prodAt j = s.prodAt j := by simp only [State.prodAt, State.prompt_prods]
@[simp] theorem State.prompt_now (i : Nat) : (s.prompt i).now = s.now := by simp only [State.now, State.prompt_times]

/-! ### settle -/

/-- What the answer of a faulty line keeps, answering them all keeps. -/
theorem flushRejects_keeps {β : Type} (g : State → β) (h1 : ∀ (a : State) i x, g (a.setSess i x) = g a) (h2 : ∀ (a : State) n i v, g (a.setCnt n i v) = g a)
    (i : Nat) (q : List QEntry) (a : State) : g (flushRejects i q a) = g a := by
  have hb : ∀ (a : State) n i, g (a.bump n i) = g a := fun a n i => h2 a n i _
  have he : ∀ (a : State) e t c, g (a.sendErr i e t c) = g a := by
    intro a e t c
    unfold State.sendErr; simp only []
    split <;> simp only [hb, State.putLines, h1]
  induction q generalizing a with
  | nil => rfl
  | cons e q ih =>
    cases e with
    | reject e t c =>
      simp only [flushRejects]
      split
      · rw [ih, he]; split
        · simp only [State.counted, hb, h1]
        · exact h1 ..
      · rfl
    | phrase p => rfl
    | routed n t c x => rfl

/-- What one session's and one counter's write keep, the end of a phrase keeps. -/
theorem settle_keeps {β : Type} (g : State → β) (h1 : ∀ (a : State) i x, g (a.setSess i x) = g a) (h2 : ∀ (a : State) n i v, g (a.setCnt n i v) = g a)
    (i : Nat) (a : State) : g (a.settle i) = g a := by
  have hp : ∀ a : State, g (a.prompt i) = g a := by
    intro a; unfold State.prompt; simp only []; split
    · exact h1 ..
    · rfl
  have hf := flushRejects_keeps g h1 h2 i (a.sessAt i).queue a
  unfold State.settle
  generalize flushRejects i (a.sessAt i).queue a = c at hf ⊢
  simp only []
  have hc : g (if 3 ≤ i then c.setSess i { c.sessAt i with lastUse := c.now } else c) = g a := by
    split
    · rw [h1, hf]
    · exact hf
  generalize (if 3 ≤ i then c.setSess i { c.sessAt i with lastUse := c.now } else c) = d at hc ⊢
  split
  · rw [hp, hc]
  · exact hc

@[simp] theorem State.settle_pending (i : Nat) : (s.settle i).pending = s.pending := by exact settle_keeps State.pending (fun _ _ _ => rfl) (fun _ _ _ _ => rfl) i s
@[simp] theorem State.settle_power (i : Nat) : (s.settle i).power = s.power := by exact settle_keeps State.power (fun _ _ _ => rfl) (fun _ _ _ _ => rfl) i s
@[simp] theorem State.settle_times (i : Nat) : (s.settle i).times = s.times := by exact settle_keeps State.times (fun _ _ _ => rfl) (fun _ _ _ _ => rfl) i s
@[simp] theorem State.settle_routed (i : Nat) : (s.settle i).routed = s.routed := by exact settle_keeps State.routed (fun _ _ _ => rfl) (fun _ _ _ _ => rfl) i s
@[simp] theorem State.settle_cfg (i : Nat) : (s.settle i).cfg = s.cfg := by exact settle_keeps State.cfg (fun _ _ _ => rfl) (fun _ _ _ _ => rfl) i s
@[simp] theorem State.settle_parts (i : Nat) : (s.settle i).parts = s.parts := by exact settle_keeps State.parts (fun _ _ _ => rfl) (fun _ _ _ _ => rfl) i s
@[simp] theorem State.settle_own (i : Nat) : (s.settle i).own = s.own := by exact settle_keeps State.own (fun _ _ _ => rfl) (fun _ _ _ _ => rfl) i s
@[simp] theorem State.settle_ownlock (i : Nat) : (s.settle i).ownlock = s.ownlock := by exact settle_keeps State.ownlock (fun _ _ _ => rfl) (fun _ _ _ _ => rfl) i s
@[simp] theorem State.settle_pinlock (i : Nat) : (s.settle i).pinlock = s.pinlock := by exact settle_keeps State.pinlock (fun _ _ _ => rfl) (fun _ _ _ _ => rfl) i s
@[simp] theorem State.settle_key0 (i : Nat) : (s.settle i).key0 = s.key0 := by exact settle_keeps State.key0 (fun _ _ _ => rfl) (fun _ _ _ _ => rfl) i s
@[simp] theorem State.settle_authFails (i : Nat) : (s.settle i).authFails = s.authFails := by exact settle_keeps State.authFails (fun _ _ _ => rfl) (fun _ _ _ _ => rfl) i s
@[simp] theorem State.settle_lockoutEnd (i : Nat) : (s.settle i).lockoutEnd = s.lockoutEnd := by exact settle_keeps State.lockoutEnd (fun _ _ _ => rfl) (fun _ _ _ _ => rfl) i s
@[simp] theorem State.settle_islands (i : Nat) : (s.settle i).islands = s.islands := by exact settle_keeps State.islands (fun _ _ _ => rfl) (fun _ _ _ _ => rfl) i s
@[simp] theorem State.settle_safenLow (i : Nat) : (s.settle i).safenLow = s.safenLow := by exact settle_keeps State.safenLow (fun _ _ _ => rfl) (fun _ _ _ _ => rfl) i s
@[simp] theorem State.settle_attic (i : Nat) : (s.settle i).attic = s.attic := by exact settle_keeps State.attic (fun _ _ _ => rfl) (fun _ _ _ _ => rfl) i s
@[simp] theorem State.settle_trace (i : Nat) : (s.settle i).trace = s.trace := by exact settle_keeps State.trace (fun _ _ _ => rfl) (fun _ _ _ _ => rfl) i s
@[simp] theorem State.settle_faults (i : Nat) : (s.settle i).faults = s.faults := by exact settle_keeps State.faults (fun _ _ _ => rfl) (fun _ _ _ _ => rfl) i s
@[simp] theorem State.settle_units (i : Nat) : (s.settle i).units = s.units := by exact settle_keeps State.units (fun _ _ _ => rfl) (fun _ _ _ _ => rfl) i s
@[simp] theorem State.settle_grants (i : Nat) : (s.settle i).grants = s.grants := by exact settle_keeps State.grants (fun _ _ _ => rfl) (fun _ _ _ _ => rfl) i s
@[simp] theorem State.settle_impls (i : Nat) : (s.settle i).impls = s.impls := by exact settle_keeps State.impls (fun _ _ _ => rfl) (fun _ _ _ _ => rfl) i s
@[simp] theorem State.settle_secs (i : Nat) : (s.settle i).secs = s.secs := by exact settle_keeps State.secs (fun _ _ _ => rfl) (fun _ _ _ _ => rfl) i s
@[simp] theorem State.settle_odos (i : Nat) : (s.settle i).odos = s.odos := by exact settle_keeps State.odos (fun _ _ _ => rfl) (fun _ _ _ _ => rfl) i s
@[simp] theorem State.settle_ssps (i : Nat) : (s.settle i).ssps = s.ssps := by exact settle_keeps State.ssps (fun _ _ _ => rfl) (fun _ _ _ _ => rfl) i s
@[simp] theorem State.settle_prods (i : Nat) : (s.settle i).prods = s.prods := by exact settle_keeps State.prods (fun _ _ _ => rfl) (fun _ _ _ _ => rfl) i s
@[simp] theorem State.settle_cellar (i : Nat) : (s.settle i).cellar = s.cellar := by exact settle_keeps State.cellar (fun _ _ _ => rfl) (fun _ _ _ _ => rfl) i s
@[simp] theorem State.settle_larder (i : Nat) : (s.settle i).larder = s.larder := by exact settle_keeps State.larder (fun _ _ _ => rfl) (fun _ _ _ _ => rfl) i s
@[simp] theorem State.settle_pantry (i : Nat) : (s.settle i).pantry = s.pantry := by exact settle_keeps State.pantry (fun _ _ _ => rfl) (fun _ _ _ _ => rfl) i s
@[simp] theorem State.settle_cans (i : Nat) : (s.settle i).cans = s.cans := by exact settle_keeps State.cans (fun _ _ _ => rfl) (fun _ _ _ _ => rfl) i s
@[simp] theorem State.settle_peer (i : Nat) : (s.settle i).peer = s.peer := by exact settle_keeps State.peer (fun _ _ _ => rfl) (fun _ _ _ _ => rfl) i s
@[simp] theorem State.settle_uarts (i : Nat) : (s.settle i).uarts = s.uarts := by exact settle_keeps State.uarts (fun _ _ _ => rfl) (fun _ _ _ _ => rfl) i s
@[simp] theorem State.settle_spi (i : Nat) : (s.settle i).spi = s.spi := by exact settle_keeps State.spi (fun _ _ _ => rfl) (fun _ _ _ _ => rfl) i s
@[simp] theorem State.settle_i2cs (i : Nat) : (s.settle i).i2cs = s.i2cs := by exact settle_keeps State.i2cs (fun _ _ _ => rfl) (fun _ _ _ _ => rfl) i s
@[simp] theorem State.settle_pins (i : Nat) : (s.settle i).pins = s.pins := by exact settle_keeps State.pins (fun _ _ _ => rfl) (fun _ _ _ _ => rfl) i s
@[simp] theorem State.settle_gnss (i : Nat) : (s.settle i).gnss = s.gnss := by exact settle_keeps State.gnss (fun _ _ _ => rfl) (fun _ _ _ _ => rfl) i s
@[simp] theorem State.settle_lastTick (i : Nat) : (s.settle i).lastTick = s.lastTick := by exact settle_keeps State.lastTick (fun _ _ _ => rfl) (fun _ _ _ _ => rfl) i s
@[simp] theorem State.settle_freeIx (i : Nat) : (s.settle i).freeIx = s.freeIx := by exact settle_keeps State.freeIx (fun _ _ _ => rfl) (fun _ _ _ _ => rfl) i s
@[simp] theorem State.settle_partAt (i : Nat) (j : Nat) : (s.settle i).partAt j = s.partAt j := by simp only [State.partAt, State.settle_parts]
@[simp] theorem State.settle_unitAt (i : Nat) (j : Nat) : (s.settle i).unitAt j = s.unitAt j := by simp only [State.unitAt, State.settle_units]
@[simp] theorem State.settle_implAt (i : Nat) (j : Nat) : (s.settle i).implAt j = s.implAt j := by simp only [State.implAt, State.settle_impls]
@[simp] theorem State.settle_secAt (i : Nat) (j : Nat) : (s.settle i).secAt j = s.secAt j := by simp only [State.secAt, State.settle_secs]
@[simp] theorem State.settle_odoAt (i : Nat) (j : Nat) : (s.settle i).odoAt j = s.odoAt j := by simp only [State.odoAt, State.settle_odos]
@[simp] theorem State.settle_sspAt (i : Nat) (j : Nat) : (s.settle i).sspAt j = s.sspAt j := by simp only [State.sspAt, State.settle_ssps]
@[simp] theorem State.settle_prodAt (i : Nat) (j : Nat) : (s.settle i).prodAt j = s.prodAt j := by simp only [State.prodAt, State.settle_prods]
@[simp] theorem State.settle_now (i : Nat) : (s.settle i).now = s.now := by simp only [State.now, State.settle_times]

/-! ### received -/

@[simp] theorem State.received_pending (i : Nat) (c : Bool) : (s.received i c).pending = s.pending := by unfold State.received; simp only []; repeat (first | split | rfl)
@[simp] theorem State.received_power (i : Nat) (c : Bool) : (s.received i c).power = s.power := by unfold State.received; simp only []; repeat (first | split | rfl)
@[simp] theorem State.received_times (i : Nat) (c : Bool) : (s.received i c).times = s.times := by unfold State.received; simp only []; repeat (first | split | rfl)
@[simp] theorem State.received_routed (i : Nat) (c : Bool) : (s.received i c).routed = s.routed := by unfold State.received; simp only []; repeat (first | split | rfl)
@[simp] theorem State.received_cfg (i : Nat) (c : Bool) : (s.received i c).cfg = s.cfg := by unfold State.received; simp only []; repeat (first | split | rfl)
@[simp] theorem State.received_cnts (i : Nat) (c : Bool) : (s.received i c).cnts = s.cnts := by unfold State.received; simp only []; repeat (first | split | rfl)
@[simp] theorem State.received_own (i : Nat) (c : Bool) : (s.received i c).own = s.own := by unfold State.received; simp only []; repeat (first | split | rfl)
@[simp] theorem State.received_ownlock (i : Nat) (c : Bool) : (s.received i c).ownlock = s.ownlock := by unfold State.received; simp only []; repeat (first | split | rfl)
@[simp] theorem State.received_pinlock (i : Nat) (c : Bool) : (s.received i c).pinlock = s.pinlock := by unfold State.received; simp only []; repeat (first | split | rfl)
@[simp] theorem State.received_key0 (i : Nat) (c : Bool) : (s.received i c).key0 = s.key0 := by unfold State.received; simp only []; repeat (first | split | rfl)
@[simp] theorem State.received_authFails (i : Nat) (c : Bool) : (s.received i c).authFails = s.authFails := by unfold State.received; simp only []; repeat (first | split | rfl)
@[simp] theorem State.received_lockoutEnd (i : Nat) (c : Bool) : (s.received i c).lockoutEnd = s.lockoutEnd := by unfold State.received; simp only []; repeat (first | split | rfl)
@[simp] theorem State.received_islands (i : Nat) (c : Bool) : (s.received i c).islands = s.islands := by unfold State.received; simp only []; repeat (first | split | rfl)
@[simp] theorem State.received_safenLow (i : Nat) (c : Bool) : (s.received i c).safenLow = s.safenLow := by unfold State.received; simp only []; repeat (first | split | rfl)
@[simp] theorem State.received_attic (i : Nat) (c : Bool) : (s.received i c).attic = s.attic := by unfold State.received; simp only []; repeat (first | split | rfl)
@[simp] theorem State.received_trace (i : Nat) (c : Bool) : (s.received i c).trace = s.trace := by unfold State.received; simp only []; repeat (first | split | rfl)
@[simp] theorem State.received_faults (i : Nat) (c : Bool) : (s.received i c).faults = s.faults := by unfold State.received; simp only []; repeat (first | split | rfl)
@[simp] theorem State.received_units (i : Nat) (c : Bool) : (s.received i c).units = s.units := by unfold State.received; simp only []; repeat (first | split | rfl)
@[simp] theorem State.received_grants (i : Nat) (c : Bool) : (s.received i c).grants = s.grants := by unfold State.received; simp only []; repeat (first | split | rfl)
@[simp] theorem State.received_impls (i : Nat) (c : Bool) : (s.received i c).impls = s.impls := by unfold State.received; simp only []; repeat (first | split | rfl)
@[simp] theorem State.received_secs (i : Nat) (c : Bool) : (s.received i c).secs = s.secs := by unfold State.received; simp only []; repeat (first | split | rfl)
@[simp] theorem State.received_odos (i : Nat) (c : Bool) : (s.received i c).odos = s.odos := by unfold State.received; simp only []; repeat (first | split | rfl)
@[simp] theorem State.received_ssps (i : Nat) (c : Bool) : (s.received i c).ssps = s.ssps := by unfold State.received; simp only []; repeat (first | split | rfl)
@[simp] theorem State.received_prods (i : Nat) (c : Bool) : (s.received i c).prods = s.prods := by unfold State.received; simp only []; repeat (first | split | rfl)
@[simp] theorem State.received_cellar (i : Nat) (c : Bool) : (s.received i c).cellar = s.cellar := by unfold State.received; simp only []; repeat (first | split | rfl)
@[simp] theorem State.received_larder (i : Nat) (c : Bool) : (s.received i c).larder = s.larder := by unfold State.received; simp only []; repeat (first | split | rfl)
@[simp] theorem State.received_pantry (i : Nat) (c : Bool) : (s.received i c).pantry = s.pantry := by unfold State.received; simp only []; repeat (first | split | rfl)
@[simp] theorem State.received_cans (i : Nat) (c : Bool) : (s.received i c).cans = s.cans := by unfold State.received; simp only []; repeat (first | split | rfl)
@[simp] theorem State.received_peer (i : Nat) (c : Bool) : (s.received i c).peer = s.peer := by unfold State.received; simp only []; repeat (first | split | rfl)
@[simp] theorem State.received_uarts (i : Nat) (c : Bool) : (s.received i c).uarts = s.uarts := by unfold State.received; simp only []; repeat (first | split | rfl)
@[simp] theorem State.received_spi (i : Nat) (c : Bool) : (s.received i c).spi = s.spi := by unfold State.received; simp only []; repeat (first | split | rfl)
@[simp] theorem State.received_i2cs (i : Nat) (c : Bool) : (s.received i c).i2cs = s.i2cs := by unfold State.received; simp only []; repeat (first | split | rfl)
@[simp] theorem State.received_pins (i : Nat) (c : Bool) : (s.received i c).pins = s.pins := by unfold State.received; simp only []; repeat (first | split | rfl)
@[simp] theorem State.received_gnss (i : Nat) (c : Bool) : (s.received i c).gnss = s.gnss := by unfold State.received; simp only []; repeat (first | split | rfl)
@[simp] theorem State.received_lastTick (i : Nat) (c : Bool) : (s.received i c).lastTick = s.lastTick := by unfold State.received; simp only []; repeat (first | split | rfl)
@[simp] theorem State.received_freeIx (i : Nat) (c : Bool) : (s.received i c).freeIx = s.freeIx := by unfold State.received; simp only []; repeat (first | split | rfl)
@[simp] theorem State.received_unitAt (i : Nat) (c : Bool) (j : Nat) : (s.received i c).unitAt j = s.unitAt j := by simp only [State.unitAt, State.received_units]
@[simp] theorem State.received_implAt (i : Nat) (c : Bool) (j : Nat) : (s.received i c).implAt j = s.implAt j := by simp only [State.implAt, State.received_impls]
@[simp] theorem State.received_secAt (i : Nat) (c : Bool) (j : Nat) : (s.received i c).secAt j = s.secAt j := by simp only [State.secAt, State.received_secs]
@[simp] theorem State.received_odoAt (i : Nat) (c : Bool) (j : Nat) : (s.received i c).odoAt j = s.odoAt j := by simp only [State.odoAt, State.received_odos]
@[simp] theorem State.received_sspAt (i : Nat) (c : Bool) (j : Nat) : (s.received i c).sspAt j = s.sspAt j := by simp only [State.sspAt, State.received_ssps]
@[simp] theorem State.received_prodAt (i : Nat) (c : Bool) (j : Nat) : (s.received i c).prodAt j = s.prodAt j := by simp only [State.prodAt, State.received_prods]
@[simp] theorem State.received_now (i : Nat) (c : Bool) : (s.received i c).now = s.now := by simp only [State.now, State.received_times]

end Sys2Proof.Machine
end

