-- ==== Sys2Proof/Laws/Reply.lean ====
section
/-!
SUPPORT. Sys2Proof/Laws/Reply.lean: the one path by which a phrase is answered: what a phrase that may run and draws no error does to the state, and
what the end of a phrase keeps.
-/
set_option Elab.async false

namespace Sys2Proof.Machine

/-- The state at which a phrase that may run is judged: it is received and counted. -/
def State.begun (s : State) (i : Nat) (p : Phrase) : State := (s.received i p.checked).counted i

/-- A phrase that may run is taken at once. -/
theorem takePhrase_of_mayRun {s : State} {i : Nat} {p : Phrase} (h : s.mayRun i p = true) : s.takePhrase i p = some (s.received i p.checked) := by
  simp only [State.mayRun, Bool.and_eq_true, Bool.not_eq_true', Bool.or_eq_true, decide_eq_true_eq, List.isEmpty_iff] at h
  obtain ⟨⟨⟨⟨⟨⟨⟨⟨⟨⟨h1, h2⟩, h3⟩, h4⟩, h5⟩, h6⟩, h7⟩, h8⟩, h9⟩, h10⟩, h11⟩ := h
  have h3' : (s.sessAt i).await.isSome = false := by cases hh : (s.sessAt i).await <;> simp_all
  simp only [State.takePhrase, h1, h2, h3', h4, h6, h7, h8, h9]
  simp

@[simp] theorem State.received_sess_setup (s : State) (i j : Nat) (c : Bool) :
    ((s.received i c).sessAt j) = if i = j then { s.sessAt i with lastPhrase := s.now } else s.sessAt j := by
  simp only [State.received]
  repeat' split
  all_goals simp_all [State.setSess_sessAt]

@[simp] theorem State.begun_sessAt (s : State) (i j : Nat) (p : Phrase) :
    ((s.begun i p).sessAt j) = if i = j then { s.sessAt i with lastPhrase := s.now } else s.sessAt j := by
  simp [State.begun]

/-- A phrase that may run and draws no error has its effect and its reply. -/
theorem runRow_ok {row : String} {i : Nat} {p : Phrase} {f : State → Ans} {s : State} (hr : rowOf p = row) (hm : s.mayRun i p = true)
    (he : pickErr (f (s.begun i p)).errs = none) : runRow row i p f s = (s.begun i p).succeed i p (f (s.begun i p)) := by
  have ht := takePhrase_of_mayRun hm
  simp only [State.mayRun, Bool.and_eq_true, Bool.not_eq_true', Bool.or_eq_true, decide_eq_true_eq, List.isEmpty_iff] at hm
  obtain ⟨⟨⟨⟨⟨⟨⟨⟨⟨⟨h1, h2⟩, h3⟩, h4⟩, h5⟩, h6⟩, h7⟩, h8⟩, h9⟩, h10⟩, h11⟩ := hm
  have hreq : ((s.sessAt i).reqcheck && !p.checked) = false := by cases h5 with
    | inl h => simp [h]
    | inr h => simp [h]
  have hs1 : (if ((s.received i p.checked).sessAt i).reqcheck && !p.checked then s.received i p.checked else (s.received i p.checked).counted i) = s.begun i p := by
    simp [hreq, State.begun]
  have hdev : (s.begun i p).deviceErr p = [] := by
    simp only [State.deviceErr, State.begun, State.counted_power, State.received_power]
    cases h11 with
    | inl h => simp [h]
    | inr h => simp [h]
  unfold runRow
  simp only [hr, ne_eq, not_true_eq_false, if_false, ht, hs1]
  rw [if_neg (by simpa [State.begun] using h10)]
  unfold State.answer
  have : errIf (((s.begun i p).sessAt i).reqcheck && !p.checked) .check = [] := by simp [hreq, errIf]
  rw [this, hdev]
  simp only [List.nil_append, he]

/-- What placing a reply keeps. -/
theorem putReply_keeps {β : Type} (g : State → β) (h1 : ∀ (a : State) i x, g (a.setSess i x) = g a) (h2 : ∀ (a : State) n i v, g (a.setCnt n i v) = g a)
    (n i : Nat) (ls : List String) (s : State) : g (s.putReply n i ls) = g s := by
  unfold State.putReply State.bumpBy
  simp only []
  split
  · rw [h1]
  · rw [h2, h1]

/-- A reply of a phrase that raised no EV line to its session. -/
theorem putReply_quiet (n i : Nat) (ls : List String) (s : State) (h : (s.sessAt i).out.length ≤ n) : s.putReply n i ls = s.putLines i ls := by
  simp [State.putReply, State.putLines, List.drop_eq_nil_of_le h, List.take_of_length_le h, placeEvs]

/-- What the reply keeps of the effect, for an answer with nothing after it. -/
theorem succeed_keeps {β : Type} (g : State → β) (h1 : ∀ (a : State) i x, g (a.setSess i x) = g a) (h2 : ∀ (a : State) n i v, g (a.setCnt n i v) = g a)
    (i : Nat) (p : Phrase) (a : Ans) (hp : ∀ s, g (a.post s) = g s) (s : State) : g (s.succeed i p a) = g (a.act s).1 := by
  unfold State.succeed
  generalize a.act s = r
  simp only []
  have hs : g (if readVerb p.verb || p.checked then r.1 else r.1.setSess i { r.1.sessAt i with unchecked := some r.1.now }) = g r.1 := by
    split
    · rfl
    · exact h1 ..
  generalize (if readVerb p.verb || p.checked then r.1 else r.1.setSess i { r.1.sessAt i with unchecked := some r.1.now }) = c at hs ⊢
  split
  · rw [h1, hs]
  · rw [settle_keeps g h1 h2, hp, putReply_keeps g h1 h2, hs]

/-- What receiving and counting a phrase keep. -/
theorem begun_keeps {β : Type} (g : State → β) (h1 : ∀ (a : State) i x, g (a.setSess i x) = g a) (h2 : ∀ (a : State) n i v, g (a.setCnt n i v) = g a)
    (h3 : ∀ (a : State) i x, g (a.setPart i x) = g a) (i : Nat) (p : Phrase) (s : State) : g (s.begun i p) = g s := by
  unfold State.begun State.counted State.bump State.bumpBy State.received
  rw [h2]
  simp only []
  repeat' split
  all_goals simp only [h1, h3]

end Sys2Proof.Machine
end

