-- ==== Sys2Proof/Laws/Phrase.lean ====
section
/-!
SUPPORT. Sys2Proof/Laws/Phrase.lean: field by field, what receiving a phrase and answering it leave to the phrase's own effect.
-/
set_option Elab.async false

namespace Sys2Proof.Machine

variable (s : State) (i : Nat) (p : Phrase)

/-- A phrase that names one instance is judged on that instance. -/
theorem perInst_single {p : Phrase} (h : p.ranged = false) (f : Nat → State → Ans) : perInst i p f s = f (p.insts.headD 0) s := by
  simp [perInst, h]

@[simp] theorem State.begun_pending : (s.begun i p).pending = s.pending := begun_keeps State.pending (fun _ _ _ => rfl) (fun _ _ _ _ => rfl) (fun _ _ _ => rfl) i p s
theorem State.succeed_pending (a : Ans) (h : ∀ s, (a.post s).pending = s.pending) : (s.succeed i p a).pending = (a.act s).1.pending := succeed_keeps State.pending (fun _ _ _ => rfl) (fun _ _ _ _ => rfl) i p a h s
@[simp] theorem State.succeed_eff_pending (es : List Err) (f : State → State) : (s.succeed i p (Ans.eff es f)).pending = (f s).pending := s.succeed_pending i p _ (fun _ => rfl)
@[simp] theorem State.succeed_read_pending (es : List Err) (f : State → List KVs) : (s.succeed i p (Ans.read es f)).pending = s.pending := s.succeed_pending i p _ (fun _ => rfl)
@[simp] theorem State.begun_power : (s.begun i p).power = s.power := begun_keeps State.power (fun _ _ _ => rfl) (fun _ _ _ _ => rfl) (fun _ _ _ => rfl) i p s
theorem State.succeed_power (a : Ans) (h : ∀ s, (a.post s).power = s.power) : (s.succeed i p a).power = (a.act s).1.power := succeed_keeps State.power (fun _ _ _ => rfl) (fun _ _ _ _ => rfl) i p a h s
@[simp] theorem State.succeed_eff_power (es : List Err) (f : State → State) : (s.succeed i p (Ans.eff es f)).power = (f s).power := s.succeed_power i p _ (fun _ => rfl)
@[simp] theorem State.succeed_read_power (es : List Err) (f : State → List KVs) : (s.succeed i p (Ans.read es f)).power = s.power := s.succeed_power i p _ (fun _ => rfl)
@[simp] theorem State.begun_times : (s.begun i p).times = s.times := begun_keeps State.times (fun _ _ _ => rfl) (fun _ _ _ _ => rfl) (fun _ _ _ => rfl) i p s
theorem State.succeed_times (a : Ans) (h : ∀ s, (a.post s).times = s.times) : (s.succeed i p a).times = (a.act s).1.times := succeed_keeps State.times (fun _ _ _ => rfl) (fun _ _ _ _ => rfl) i p a h s
@[simp] theorem State.succeed_eff_times (es : List Err) (f : State → State) : (s.succeed i p (Ans.eff es f)).times = (f s).times := s.succeed_times i p _ (fun _ => rfl)
@[simp] theorem State.succeed_read_times (es : List Err) (f : State → List KVs) : (s.succeed i p (Ans.read es f)).times = s.times := s.succeed_times i p _ (fun _ => rfl)
@[simp] theorem State.begun_routed : (s.begun i p).routed = s.routed := begun_keeps State.routed (fun _ _ _ => rfl) (fun _ _ _ _ => rfl) (fun _ _ _ => rfl) i p s
theorem State.succeed_routed (a : Ans) (h : ∀ s, (a.post s).routed = s.routed) : (s.succeed i p a).routed = (a.act s).1.routed := succeed_keeps State.routed (fun _ _ _ => rfl) (fun _ _ _ _ => rfl) i p a h s
@[simp] theorem State.succeed_eff_routed (es : List Err) (f : State → State) : (s.succeed i p (Ans.eff es f)).routed = (f s).routed := s.succeed_routed i p _ (fun _ => rfl)
@[simp] theorem State.succeed_read_routed (es : List Err) (f : State → List KVs) : (s.succeed i p (Ans.read es f)).routed = s.routed := s.succeed_routed i p _ (fun _ => rfl)
@[simp] theorem State.begun_cfg : (s.begun i p).cfg = s.cfg := begun_keeps State.cfg (fun _ _ _ => rfl) (fun _ _ _ _ => rfl) (fun _ _ _ => rfl) i p s
theorem State.succeed_cfg (a : Ans) (h : ∀ s, (a.post s).cfg = s.cfg) : (s.succeed i p a).cfg = (a.act s).1.cfg := succeed_keeps State.cfg (fun _ _ _ => rfl) (fun _ _ _ _ => rfl) i p a h s
@[simp] theorem State.succeed_eff_cfg (es : List Err) (f : State → State) : (s.succeed i p (Ans.eff es f)).cfg = (f s).cfg := s.succeed_cfg i p _ (fun _ => rfl)
@[simp] theorem State.succeed_read_cfg (es : List Err) (f : State → List KVs) : (s.succeed i p (Ans.read es f)).cfg = s.cfg := s.succeed_cfg i p _ (fun _ => rfl)
theorem State.succeed_parts (a : Ans) (h : ∀ s, (a.post s).parts = s.parts) : (s.succeed i p a).parts = (a.act s).1.parts := succeed_keeps State.parts (fun _ _ _ => rfl) (fun _ _ _ _ => rfl) i p a h s
@[simp] theorem State.succeed_eff_parts (es : List Err) (f : State → State) : (s.succeed i p (Ans.eff es f)).parts = (f s).parts := s.succeed_parts i p _ (fun _ => rfl)
@[simp] theorem State.succeed_read_parts (es : List Err) (f : State → List KVs) : (s.succeed i p (Ans.read es f)).parts = s.parts := s.succeed_parts i p _ (fun _ => rfl)
@[simp] theorem State.begun_own : (s.begun i p).own = s.own := begun_keeps State.own (fun _ _ _ => rfl) (fun _ _ _ _ => rfl) (fun _ _ _ => rfl) i p s
theorem State.succeed_own (a : Ans) (h : ∀ s, (a.post s).own = s.own) : (s.succeed i p a).own = (a.act s).1.own := succeed_keeps State.own (fun _ _ _ => rfl) (fun _ _ _ _ => rfl) i p a h s
@[simp] theorem State.succeed_eff_own (es : List Err) (f : State → State) : (s.succeed i p (Ans.eff es f)).own = (f s).own := s.succeed_own i p _ (fun _ => rfl)
@[simp] theorem State.succeed_read_own (es : List Err) (f : State → List KVs) : (s.succeed i p (Ans.read es f)).own = s.own := s.succeed_own i p _ (fun _ => rfl)
@[simp] theorem State.begun_ownlock : (s.begun i p).ownlock = s.ownlock := begun_keeps State.ownlock (fun _ _ _ => rfl) (fun _ _ _ _ => rfl) (fun _ _ _ => rfl) i p s
theorem State.succeed_ownlock (a : Ans) (h : ∀ s, (a.post s).ownlock = s.ownlock) : (s.succeed i p a).ownlock = (a.act s).1.ownlock := succeed_keeps State.ownlock (fun _ _ _ => rfl) (fun _ _ _ _ => rfl) i p a h s
@[simp] theorem State.succeed_eff_ownlock (es : List Err) (f : State → State) : (s.succeed i p (Ans.eff es f)).ownlock = (f s).ownlock := s.succeed_ownlock i p _ (fun _ => rfl)
@[simp] theorem State.succeed_read_ownlock (es : List Err) (f : State → List KVs) : (s.succeed i p (Ans.read es f)).ownlock = s.ownlock := s.succeed_ownlock i p _ (fun _ => rfl)
@[simp] theorem State.begun_pinlock : (s.begun i p).pinlock = s.pinlock := begun_keeps State.pinlock (fun _ _ _ => rfl) (fun _ _ _ _ => rfl) (fun _ _ _ => rfl) i p s
theorem State.succeed_pinlock (a : Ans) (h : ∀ s, (a.post s).pinlock = s.pinlock) : (s.succeed i p a).pinlock = (a.act s).1.pinlock := succeed_keeps State.pinlock (fun _ _ _ => rfl) (fun _ _ _ _ => rfl) i p a h s
@[simp] theorem State.succeed_eff_pinlock (es : List Err) (f : State → State) : (s.succeed i p (Ans.eff es f)).pinlock = (f s).pinlock := s.succeed_pinlock i p _ (fun _ => rfl)
@[simp] theorem State.succeed_read_pinlock (es : List Err) (f : State → List KVs) : (s.succeed i p (Ans.read es f)).pinlock = s.pinlock := s.succeed_pinlock i p _ (fun _ => rfl)
@[simp] theorem State.begun_key0 : (s.begun i p).key0 = s.key0 := begun_keeps State.key0 (fun _ _ _ => rfl) (fun _ _ _ _ => rfl) (fun _ _ _ => rfl) i p s
theorem State.succeed_key0 (a : Ans) (h : ∀ s, (a.post s).key0 = s.key0) : (s.succeed i p a).key0 = (a.act s).1.key0 := succeed_keeps State.key0 (fun _ _ _ => rfl) (fun _ _ _ _ => rfl) i p a h s
@[simp] theorem State.succeed_eff_key0 (es : List Err) (f : State → State) : (s.succeed i p (Ans.eff es f)).key0 = (f s).key0 := s.succeed_key0 i p _ (fun _ => rfl)
@[simp] theorem State.succeed_read_key0 (es : List Err) (f : State → List KVs) : (s.succeed i p (Ans.read es f)).key0 = s.key0 := s.succeed_key0 i p _ (fun _ => rfl)
@[simp] theorem State.begun_authFails : (s.begun i p).authFails = s.authFails := begun_keeps State.authFails (fun _ _ _ => rfl) (fun _ _ _ _ => rfl) (fun _ _ _ => rfl) i p s
theorem State.succeed_authFails (a : Ans) (h : ∀ s, (a.post s).authFails = s.authFails) : (s.succeed i p a).authFails = (a.act s).1.authFails := succeed_keeps State.authFails (fun _ _ _ => rfl) (fun _ _ _ _ => rfl) i p a h s
@[simp] theorem State.succeed_eff_authFails (es : List Err) (f : State → State) : (s.succeed i p (Ans.eff es f)).authFails = (f s).authFails := s.succeed_authFails i p _ (fun _ => rfl)
@[simp] theorem State.succeed_read_authFails (es : List Err) (f : State → List KVs) : (s.succeed i p (Ans.read es f)).authFails = s.authFails := s.succeed_authFails i p _ (fun _ => rfl)
@[simp] theorem State.begun_lockoutEnd : (s.begun i p).lockoutEnd = s.lockoutEnd := begun_keeps State.lockoutEnd (fun _ _ _ => rfl) (fun _ _ _ _ => rfl) (fun _ _ _ => rfl) i p s
theorem State.succeed_lockoutEnd (a : Ans) (h : ∀ s, (a.post s).lockoutEnd = s.lockoutEnd) : (s.succeed i p a).lockoutEnd = (a.act s).1.lockoutEnd := succeed_keeps State.lockoutEnd (fun _ _ _ => rfl) (fun _ _ _ _ => rfl) i p a h s
@[simp] theorem State.succeed_eff_lockoutEnd (es : List Err) (f : State → State) : (s.succeed i p (Ans.eff es f)).lockoutEnd = (f s).lockoutEnd := s.succeed_lockoutEnd i p _ (fun _ => rfl)
@[simp] theorem State.succeed_read_lockoutEnd (es : List Err) (f : State → List KVs) : (s.succeed i p (Ans.read es f)).lockoutEnd = s.lockoutEnd := s.succeed_lockoutEnd i p _ (fun _ => rfl)
@[simp] theorem State.begun_islands : (s.begun i p).islands = s.islands := begun_keeps State.islands (fun _ _ _ => rfl) (fun _ _ _ _ => rfl) (fun _ _ _ => rfl) i p s
theorem State.succeed_islands (a : Ans) (h : ∀ s, (a.post s).islands = s.islands) : (s.succeed i p a).islands = (a.act s).1.islands := succeed_keeps State.islands (fun _ _ _ => rfl) (fun _ _ _ _ => rfl) i p a h s
@[simp] theorem State.succeed_eff_islands (es : List Err) (f : State → State) : (s.succeed i p (Ans.eff es f)).islands = (f s).islands := s.succeed_islands i p _ (fun _ => rfl)
@[simp] theorem State.succeed_read_islands (es : List Err) (f : State → List KVs) : (s.succeed i p (Ans.read es f)).islands = s.islands := s.succeed_islands i p _ (fun _ => rfl)
@[simp] theorem State.begun_safenLow : (s.begun i p).safenLow = s.safenLow := begun_keeps State.safenLow (fun _ _ _ => rfl) (fun _ _ _ _ => rfl) (fun _ _ _ => rfl) i p s
theorem State.succeed_safenLow (a : Ans) (h : ∀ s, (a.post s).safenLow = s.safenLow) : (s.succeed i p a).safenLow = (a.act s).1.safenLow := succeed_keeps State.safenLow (fun _ _ _ => rfl) (fun _ _ _ _ => rfl) i p a h s
@[simp] theorem State.succeed_eff_safenLow (es : List Err) (f : State → State) : (s.succeed i p (Ans.eff es f)).safenLow = (f s).safenLow := s.succeed_safenLow i p _ (fun _ => rfl)
@[simp] theorem State.succeed_read_safenLow (es : List Err) (f : State → List KVs) : (s.succeed i p (Ans.read es f)).safenLow = s.safenLow := s.succeed_safenLow i p _ (fun _ => rfl)
@[simp] theorem State.begun_attic : (s.begun i p).attic = s.attic := begun_keeps State.attic (fun _ _ _ => rfl) (fun _ _ _ _ => rfl) (fun _ _ _ => rfl) i p s
theorem State.succeed_attic (a : Ans) (h : ∀ s, (a.post s).attic = s.attic) : (s.succeed i p a).attic = (a.act s).1.attic := succeed_keeps State.attic (fun _ _ _ => rfl) (fun _ _ _ _ => rfl) i p a h s
@[simp] theorem State.succeed_eff_attic (es : List Err) (f : State → State) : (s.succeed i p (Ans.eff es f)).attic = (f s).attic := s.succeed_attic i p _ (fun _ => rfl)
@[simp] theorem State.succeed_read_attic (es : List Err) (f : State → List KVs) : (s.succeed i p (Ans.read es f)).attic = s.attic := s.succeed_attic i p _ (fun _ => rfl)
@[simp] theorem State.begun_trace : (s.begun i p).trace = s.trace := begun_keeps State.trace (fun _ _ _ => rfl) (fun _ _ _ _ => rfl) (fun _ _ _ => rfl) i p s
theorem State.succeed_trace (a : Ans) (h : ∀ s, (a.post s).trace = s.trace) : (s.succeed i p a).trace = (a.act s).1.trace := succeed_keeps State.trace (fun _ _ _ => rfl) (fun _ _ _ _ => rfl) i p a h s
@[simp] theorem State.succeed_eff_trace (es : List Err) (f : State → State) : (s.succeed i p (Ans.eff es f)).trace = (f s).trace := s.succeed_trace i p _ (fun _ => rfl)
@[simp] theorem State.succeed_read_trace (es : List Err) (f : State → List KVs) : (s.succeed i p (Ans.read es f)).trace = s.trace := s.succeed_trace i p _ (fun _ => rfl)
@[simp] theorem State.begun_faults : (s.begun i p).faults = s.faults := begun_keeps State.faults (fun _ _ _ => rfl) (fun _ _ _ _ => rfl) (fun _ _ _ => rfl) i p s
theorem State.succeed_faults (a : Ans) (h : ∀ s, (a.post s).faults = s.faults) : (s.succeed i p a).faults = (a.act s).1.faults := succeed_keeps State.faults (fun _ _ _ => rfl) (fun _ _ _ _ => rfl) i p a h s
@[simp] theorem State.succeed_eff_faults (es : List Err) (f : State → State) : (s.succeed i p (Ans.eff es f)).faults = (f s).faults := s.succeed_faults i p _ (fun _ => rfl)
@[simp] theorem State.succeed_read_faults (es : List Err) (f : State → List KVs) : (s.succeed i p (Ans.read es f)).faults = s.faults := s.succeed_faults i p _ (fun _ => rfl)
@[simp] theorem State.begun_units : (s.begun i p).units = s.units := begun_keeps State.units (fun _ _ _ => rfl) (fun _ _ _ _ => rfl) (fun _ _ _ => rfl) i p s
theorem State.succeed_units (a : Ans) (h : ∀ s, (a.post s).units = s.units) : (s.succeed i p a).units = (a.act s).1.units := succeed_keeps State.units (fun _ _ _ => rfl) (fun _ _ _ _ => rfl) i p a h s
@[simp] theorem State.succeed_eff_units (es : List Err) (f : State → State) : (s.succeed i p (Ans.eff es f)).units = (f s).units := s.succeed_units i p _ (fun _ => rfl)
@[simp] theorem State.succeed_read_units (es : List Err) (f : State → List KVs) : (s.succeed i p (Ans.read es f)).units = s.units := s.succeed_units i p _ (fun _ => rfl)
@[simp] theorem State.begun_grants : (s.begun i p).grants = s.grants := begun_keeps State.grants (fun _ _ _ => rfl) (fun _ _ _ _ => rfl) (fun _ _ _ => rfl) i p s
theorem State.succeed_grants (a : Ans) (h : ∀ s, (a.post s).grants = s.grants) : (s.succeed i p a).grants = (a.act s).1.grants := succeed_keeps State.grants (fun _ _ _ => rfl) (fun _ _ _ _ => rfl) i p a h s
@[simp] theorem State.succeed_eff_grants (es : List Err) (f : State → State) : (s.succeed i p (Ans.eff es f)).grants = (f s).grants := s.succeed_grants i p _ (fun _ => rfl)
@[simp] theorem State.succeed_read_grants (es : List Err) (f : State → List KVs) : (s.succeed i p (Ans.read es f)).grants = s.grants := s.succeed_grants i p _ (fun _ => rfl)
@[simp] theorem State.begun_impls : (s.begun i p).impls = s.impls := begun_keeps State.impls (fun _ _ _ => rfl) (fun _ _ _ _ => rfl) (fun _ _ _ => rfl) i p s
theorem State.succeed_impls (a : Ans) (h : ∀ s, (a.post s).impls = s.impls) : (s.succeed i p a).impls = (a.act s).1.impls := succeed_keeps State.impls (fun _ _ _ => rfl) (fun _ _ _ _ => rfl) i p a h s
@[simp] theorem State.succeed_eff_impls (es : List Err) (f : State → State) : (s.succeed i p (Ans.eff es f)).impls = (f s).impls := s.succeed_impls i p _ (fun _ => rfl)
@[simp] theorem State.succeed_read_impls (es : List Err) (f : State → List KVs) : (s.succeed i p (Ans.read es f)).impls = s.impls := s.succeed_impls i p _ (fun _ => rfl)
@[simp] theorem State.begun_secs : (s.begun i p).secs = s.secs := begun_keeps State.secs (fun _ _ _ => rfl) (fun _ _ _ _ => rfl) (fun _ _ _ => rfl) i p s
theorem State.succeed_secs (a : Ans) (h : ∀ s, (a.post s).secs = s.secs) : (s.succeed i p a).secs = (a.act s).1.secs := succeed_keeps State.secs (fun _ _ _ => rfl) (fun _ _ _ _ => rfl) i p a h s
@[simp] theorem State.succeed_eff_secs (es : List Err) (f : State → State) : (s.succeed i p (Ans.eff es f)).secs = (f s).secs := s.succeed_secs i p _ (fun _ => rfl)
@[simp] theorem State.succeed_read_secs (es : List Err) (f : State → List KVs) : (s.succeed i p (Ans.read es f)).secs = s.secs := s.succeed_secs i p _ (fun _ => rfl)
@[simp] theorem State.begun_odos : (s.begun i p).odos = s.odos := begun_keeps State.odos (fun _ _ _ => rfl) (fun _ _ _ _ => rfl) (fun _ _ _ => rfl) i p s
theorem State.succeed_odos (a : Ans) (h : ∀ s, (a.post s).odos = s.odos) : (s.succeed i p a).odos = (a.act s).1.odos := succeed_keeps State.odos (fun _ _ _ => rfl) (fun _ _ _ _ => rfl) i p a h s
@[simp] theorem State.succeed_eff_odos (es : List Err) (f : State → State) : (s.succeed i p (Ans.eff es f)).odos = (f s).odos := s.succeed_odos i p _ (fun _ => rfl)
@[simp] theorem State.succeed_read_odos (es : List Err) (f : State → List KVs) : (s.succeed i p (Ans.read es f)).odos = s.odos := s.succeed_odos i p _ (fun _ => rfl)
@[simp] theorem State.begun_ssps : (s.begun i p).ssps = s.ssps := begun_keeps State.ssps (fun _ _ _ => rfl) (fun _ _ _ _ => rfl) (fun _ _ _ => rfl) i p s
theorem State.succeed_ssps (a : Ans) (h : ∀ s, (a.post s).ssps = s.ssps) : (s.succeed i p a).ssps = (a.act s).1.ssps := succeed_keeps State.ssps (fun _ _ _ => rfl) (fun _ _ _ _ => rfl) i p a h s
@[simp] theorem State.succeed_eff_ssps (es : List Err) (f : State → State) : (s.succeed i p (Ans.eff es f)).ssps = (f s).ssps := s.succeed_ssps i p _ (fun _ => rfl)
@[simp] theorem State.succeed_read_ssps (es : List Err) (f : State → List KVs) : (s.succeed i p (Ans.read es f)).ssps = s.ssps := s.succeed_ssps i p _ (fun _ => rfl)
@[simp] theorem State.begun_prods : (s.begun i p).prods = s.prods := begun_keeps State.prods (fun _ _ _ => rfl) (fun _ _ _ _ => rfl) (fun _ _ _ => rfl) i p s
theorem State.succeed_prods (a : Ans) (h : ∀ s, (a.post s).prods = s.prods) : (s.succeed i p a).prods = (a.act s).1.prods := succeed_keeps State.prods (fun _ _ _ => rfl) (fun _ _ _ _ => rfl) i p a h s
@[simp] theorem State.succeed_eff_prods (es : List Err) (f : State → State) : (s.succeed i p (Ans.eff es f)).prods = (f s).prods := s.succeed_prods i p _ (fun _ => rfl)
@[simp] theorem State.succeed_read_prods (es : List Err) (f : State → List KVs) : (s.succeed i p (Ans.read es f)).prods = s.prods := s.succeed_prods i p _ (fun _ => rfl)
@[simp] theorem State.begun_cellar : (s.begun i p).cellar = s.cellar := begun_keeps State.cellar (fun _ _ _ => rfl) (fun _ _ _ _ => rfl) (fun _ _ _ => rfl) i p s
theorem State.succeed_cellar (a : Ans) (h : ∀ s, (a.post s).cellar = s.cellar) : (s.succeed i p a).cellar = (a.act s).1.cellar := succeed_keeps State.cellar (fun _ _ _ => rfl) (fun _ _ _ _ => rfl) i p a h s
@[simp] theorem State.succeed_eff_cellar (es : List Err) (f : State → State) : (s.succeed i p (Ans.eff es f)).cellar = (f s).cellar := s.succeed_cellar i p _ (fun _ => rfl)
@[simp] theorem State.succeed_read_cellar (es : List Err) (f : State → List KVs) : (s.succeed i p (Ans.read es f)).cellar = s.cellar := s.succeed_cellar i p _ (fun _ => rfl)
@[simp] theorem State.begun_larder : (s.begun i p).larder = s.larder := begun_keeps State.larder (fun _ _ _ => rfl) (fun _ _ _ _ => rfl) (fun _ _ _ => rfl) i p s
theorem State.succeed_larder (a : Ans) (h : ∀ s, (a.post s).larder = s.larder) : (s.succeed i p a).larder = (a.act s).1.larder := succeed_keeps State.larder (fun _ _ _ => rfl) (fun _ _ _ _ => rfl) i p a h s
@[simp] theorem State.succeed_eff_larder (es : List Err) (f : State → State) : (s.succeed i p (Ans.eff es f)).larder = (f s).larder := s.succeed_larder i p _ (fun _ => rfl)
@[simp] theorem State.succeed_read_larder (es : List Err) (f : State → List KVs) : (s.succeed i p (Ans.read es f)).larder = s.larder := s.succeed_larder i p _ (fun _ => rfl)
@[simp] theorem State.begun_pantry : (s.begun i p).pantry = s.pantry := begun_keeps State.pantry (fun _ _ _ => rfl) (fun _ _ _ _ => rfl) (fun _ _ _ => rfl) i p s
theorem State.succeed_pantry (a : Ans) (h : ∀ s, (a.post s).pantry = s.pantry) : (s.succeed i p a).pantry = (a.act s).1.pantry := succeed_keeps State.pantry (fun _ _ _ => rfl) (fun _ _ _ _ => rfl) i p a h s
@[simp] theorem State.succeed_eff_pantry (es : List Err) (f : State → State) : (s.succeed i p (Ans.eff es f)).pantry = (f s).pantry := s.succeed_pantry i p _ (fun _ => rfl)
@[simp] theorem State.succeed_read_pantry (es : List Err) (f : State → List KVs) : (s.succeed i p (Ans.read es f)).pantry = s.pantry := s.succeed_pantry i p _ (fun _ => rfl)
@[simp] theorem State.begun_cans : (s.begun i p).cans = s.cans := begun_keeps State.cans (fun _ _ _ => rfl) (fun _ _ _ _ => rfl) (fun _ _ _ => rfl) i p s
theorem State.succeed_cans (a : Ans) (h : ∀ s, (a.post s).cans = s.cans) : (s.succeed i p a).cans = (a.act s).1.cans := succeed_keeps State.cans (fun _ _ _ => rfl) (fun _ _ _ _ => rfl) i p a h s
@[simp] theorem State.succeed_eff_cans (es : List Err) (f : State → State) : (s.succeed i p (Ans.eff es f)).cans = (f s).cans := s.succeed_cans i p _ (fun _ => rfl)
@[simp] theorem State.succeed_read_cans (es : List Err) (f : State → List KVs) : (s.succeed i p (Ans.read es f)).cans = s.cans := s.succeed_cans i p _ (fun _ => rfl)
@[simp] theorem State.begun_peer : (s.begun i p).peer = s.peer := begun_keeps State.peer (fun _ _ _ => rfl) (fun _ _ _ _ => rfl) (fun _ _ _ => rfl) i p s
theorem State.succeed_peer (a : Ans) (h : ∀ s, (a.post s).peer = s.peer) : (s.succeed i p a).peer = (a.act s).1.peer := succeed_keeps State.peer (fun _ _ _ => rfl) (fun _ _ _ _ => rfl) i p a h s
@[simp] theorem State.succeed_eff_peer (es : List Err) (f : State → State) : (s.succeed i p (Ans.eff es f)).peer = (f s).peer := s.succeed_peer i p _ (fun _ => rfl)
@[simp] theorem State.succeed_read_peer (es : List Err) (f : State → List KVs) : (s.succeed i p (Ans.read es f)).peer = s.peer := s.succeed_peer i p _ (fun _ => rfl)
@[simp] theorem State.begun_uarts : (s.begun i p).uarts = s.uarts := begun_keeps State.uarts (fun _ _ _ => rfl) (fun _ _ _ _ => rfl) (fun _ _ _ => rfl) i p s
theorem State.succeed_uarts (a : Ans) (h : ∀ s, (a.post s).uarts = s.uarts) : (s.succeed i p a).uarts = (a.act s).1.uarts := succeed_keeps State.uarts (fun _ _ _ => rfl) (fun _ _ _ _ => rfl) i p a h s
@[simp] theorem State.succeed_eff_uarts (es : List Err) (f : State → State) : (s.succeed i p (Ans.eff es f)).uarts = (f s).uarts := s.succeed_uarts i p _ (fun _ => rfl)
@[simp] theorem State.succeed_read_uarts (es : List Err) (f : State → List KVs) : (s.succeed i p (Ans.read es f)).uarts = s.uarts := s.succeed_uarts i p _ (fun _ => rfl)
@[simp] theorem State.begun_spi : (s.begun i p).spi = s.spi := begun_keeps State.spi (fun _ _ _ => rfl) (fun _ _ _ _ => rfl) (fun _ _ _ => rfl) i p s
theorem State.succeed_spi (a : Ans) (h : ∀ s, (a.post s).spi = s.spi) : (s.succeed i p a).spi = (a.act s).1.spi := succeed_keeps State.spi (fun _ _ _ => rfl) (fun _ _ _ _ => rfl) i p a h s
@[simp] theorem State.succeed_eff_spi (es : List Err) (f : State → State) : (s.succeed i p (Ans.eff es f)).spi = (f s).spi := s.succeed_spi i p _ (fun _ => rfl)
@[simp] theorem State.succeed_read_spi (es : List Err) (f : State → List KVs) : (s.succeed i p (Ans.read es f)).spi = s.spi := s.succeed_spi i p _ (fun _ => rfl)
@[simp] theorem State.begun_i2cs : (s.begun i p).i2cs = s.i2cs := begun_keeps State.i2cs (fun _ _ _ => rfl) (fun _ _ _ _ => rfl) (fun _ _ _ => rfl) i p s
theorem State.succeed_i2cs (a : Ans) (h : ∀ s, (a.post s).i2cs = s.i2cs) : (s.succeed i p a).i2cs = (a.act s).1.i2cs := succeed_keeps State.i2cs (fun _ _ _ => rfl) (fun _ _ _ _ => rfl) i p a h s
@[simp] theorem State.succeed_eff_i2cs (es : List Err) (f : State → State) : (s.succeed i p (Ans.eff es f)).i2cs = (f s).i2cs := s.succeed_i2cs i p _ (fun _ => rfl)
@[simp] theorem State.succeed_read_i2cs (es : List Err) (f : State → List KVs) : (s.succeed i p (Ans.read es f)).i2cs = s.i2cs := s.succeed_i2cs i p _ (fun _ => rfl)
@[simp] theorem State.begun_pins : (s.begun i p).pins = s.pins := begun_keeps State.pins (fun _ _ _ => rfl) (fun _ _ _ _ => rfl) (fun _ _ _ => rfl) i p s
theorem State.succeed_pins (a : Ans) (h : ∀ s, (a.post s).pins = s.pins) : (s.succeed i p a).pins = (a.act s).1.pins := succeed_keeps State.pins (fun _ _ _ => rfl) (fun _ _ _ _ => rfl) i p a h s
@[simp] theorem State.succeed_eff_pins (es : List Err) (f : State → State) : (s.succeed i p (Ans.eff es f)).pins = (f s).pins := s.succeed_pins i p _ (fun _ => rfl)
@[simp] theorem State.succeed_read_pins (es : List Err) (f : State → List KVs) : (s.succeed i p (Ans.read es f)).pins = s.pins := s.succeed_pins i p _ (fun _ => rfl)
@[simp] theorem State.begun_gnss : (s.begun i p).gnss = s.gnss := begun_keeps State.gnss (fun _ _ _ => rfl) (fun _ _ _ _ => rfl) (fun _ _ _ => rfl) i p s
theorem State.succeed_gnss (a : Ans) (h : ∀ s, (a.post s).gnss = s.gnss) : (s.succeed i p a).gnss = (a.act s).1.gnss := succeed_keeps State.gnss (fun _ _ _ => rfl) (fun _ _ _ _ => rfl) i p a h s
@[simp] theorem State.succeed_eff_gnss (es : List Err) (f : State → State) : (s.succeed i p (Ans.eff es f)).gnss = (f s).gnss := s.succeed_gnss i p _ (fun _ => rfl)
@[simp] theorem State.succeed_read_gnss (es : List Err) (f : State → List KVs) : (s.succeed i p (Ans.read es f)).gnss = s.gnss := s.succeed_gnss i p _ (fun _ => rfl)
@[simp] theorem State.begun_lastTick : (s.begun i p).lastTick = s.lastTick := begun_keeps State.lastTick (fun _ _ _ => rfl) (fun _ _ _ _ => rfl) (fun _ _ _ => rfl) i p s
theorem State.succeed_lastTick (a : Ans) (h : ∀ s, (a.post s).lastTick = s.lastTick) : (s.succeed i p a).lastTick = (a.act s).1.lastTick := succeed_keeps State.lastTick (fun _ _ _ => rfl) (fun _ _ _ _ => rfl) i p a h s
@[simp] theorem State.succeed_eff_lastTick (es : List Err) (f : State → State) : (s.succeed i p (Ans.eff es f)).lastTick = (f s).lastTick := s.succeed_lastTick i p _ (fun _ => rfl)
@[simp] theorem State.succeed_read_lastTick (es : List Err) (f : State → List KVs) : (s.succeed i p (Ans.read es f)).lastTick = s.lastTick := s.succeed_lastTick i p _ (fun _ => rfl)
@[simp] theorem State.begun_freeIx : (s.begun i p).freeIx = s.freeIx := begun_keeps State.freeIx (fun _ _ _ => rfl) (fun _ _ _ _ => rfl) (fun _ _ _ => rfl) i p s
theorem State.succeed_freeIx (a : Ans) (h : ∀ s, (a.post s).freeIx = s.freeIx) : (s.succeed i p a).freeIx = (a.act s).1.freeIx := succeed_keeps State.freeIx (fun _ _ _ => rfl) (fun _ _ _ _ => rfl) i p a h s
@[simp] theorem State.succeed_eff_freeIx (es : List Err) (f : State → State) : (s.succeed i p (Ans.eff es f)).freeIx = (f s).freeIx := s.succeed_freeIx i p _ (fun _ => rfl)
@[simp] theorem State.succeed_read_freeIx (es : List Err) (f : State → List KVs) : (s.succeed i p (Ans.read es f)).freeIx = s.freeIx := s.succeed_freeIx i p _ (fun _ => rfl)
@[simp] theorem State.succeed_eff_partAt (es : List Err) (f : State → State) (j : Nat) : (s.succeed i p (Ans.eff es f)).partAt j = (f s).partAt j := by simp only [State.partAt, State.succeed_eff_parts]
@[simp] theorem State.begun_unitAt (j : Nat) : (s.begun i p).unitAt j = s.unitAt j := by simp only [State.unitAt, State.begun_units]
@[simp] theorem State.succeed_eff_unitAt (es : List Err) (f : State → State) (j : Nat) : (s.succeed i p (Ans.eff es f)).unitAt j = (f s).unitAt j := by simp only [State.unitAt, State.succeed_eff_units]
@[simp] theorem State.begun_implAt (j : Nat) : (s.begun i p).implAt j = s.implAt j := by simp only [State.implAt, State.begun_impls]
@[simp] theorem State.succeed_eff_implAt (es : List Err) (f : State → State) (j : Nat) : (s.succeed i p (Ans.eff es f)).implAt j = (f s).implAt j := by simp only [State.implAt, State.succeed_eff_impls]
@[simp] theorem State.begun_secAt (j : Nat) : (s.begun i p).secAt j = s.secAt j := by simp only [State.secAt, State.begun_secs]
@[simp] theorem State.succeed_eff_secAt (es : List Err) (f : State → State) (j : Nat) : (s.succeed i p (Ans.eff es f)).secAt j = (f s).secAt j := by simp only [State.secAt, State.succeed_eff_secs]
@[simp] theorem State.begun_odoAt (j : Nat) : (s.begun i p).odoAt j = s.odoAt j := by simp only [State.odoAt, State.begun_odos]
@[simp] theorem State.succeed_eff_odoAt (es : List Err) (f : State → State) (j : Nat) : (s.succeed i p (Ans.eff es f)).odoAt j = (f s).odoAt j := by simp only [State.odoAt, State.succeed_eff_odos]
@[simp] theorem State.begun_sspAt (j : Nat) : (s.begun i p).sspAt j = s.sspAt j := by simp only [State.sspAt, State.begun_ssps]
@[simp] theorem State.succeed_eff_sspAt (es : List Err) (f : State → State) (j : Nat) : (s.succeed i p (Ans.eff es f)).sspAt j = (f s).sspAt j := by simp only [State.sspAt, State.succeed_eff_ssps]
@[simp] theorem State.begun_prodAt (j : Nat) : (s.begun i p).prodAt j = s.prodAt j := by simp only [State.prodAt, State.begun_prods]
@[simp] theorem State.succeed_eff_prodAt (es : List Err) (f : State → State) (j : Nat) : (s.succeed i p (Ans.eff es f)).prodAt j = (f s).prodAt j := by simp only [State.prodAt, State.succeed_eff_prods]
@[simp] theorem State.begun_now : (s.begun i p).now = s.now := by simp only [State.now, State.begun_times]

end Sys2Proof.Machine
end

