-- ==== Sys2Proof/Tests/Slice0.lean ====
section
/-!
SUPPORT. Sys2Proof/Tests/Slice0.lean: the model's own tests: terms that WellFormed refuses, small steps with results worked out by hand from the spec, and
for every statement with hypotheses a state and operands that meet them.
-/
set_option Elab.async false
namespace Sys2Proof.Tests
open Sys2Proof Sys2Proof.Machine

/-- An attribute with a value. -/
def tAt (n v : String) : AttrTok := ⟨n, some v, n ++ "=" ++ v⟩
/-- A phrase without tag and check. -/
def tPh (v : Verb) (r : Option NounRef) (attrs : List AttrTok := []) : Phrase := { verb := v, verbTok := verbWord v, noun := r, nounTok := (r.map fun x => nounWord x.noun).getD "", attrs := attrs }
/-- The same with adverbs. -/
def tPhA (v : Verb) (r : Option NounRef) (attrs : List AttrTok) (advs : List AdvTok) : Phrase := { tPh v r attrs with advs := advs }
/-- READY, rails good, one session with the supervisor role. -/
def tReady : State := { power := { dstate := .ready, railA := .ok, railB := .ok, vlog := 3300 }, sess := [(0, { opened := true, super := true })] }
/-- Its session changed. -/
def tSess (x : Session) : State := { tReady with sess := [(0, x)] }
def tEcho : State := tSess { opened := true, echo := true, line := [71] }
def tAfterCR : State := tSess { opened := true, afterCR := true }
def tLinePhrase : Phrase := { tPh .get (some ⟨.time, .none, ""⟩) with checked := true }
def tLine : State := tSess { opened := true, line := "GET TIME *14".toList.map Char.toNat }
def tFullQueue : State := tSess { opened := true, line := "GET TIME *14".toList.map Char.toNat, queue := List.replicate 16 (.phrase tLinePhrase) }
def tU0 : Tab Uart := [(0, { enabled := true })]
def tOut : State := { tSess { opened := true, out := ["OK\r\n"] } with uarts := tU0 }
def tOwed : State := { tSess { opened := true, owed := ["OK\r\n"] } with uarts := tU0 }
def tLost : State := { tSess { opened := true, lost := 7 } with uarts := tU0 }
def tPeerSess : State := { tReady with sess := [(3, { opened := true, origin := some (5, 0) })] }
def tPeerOut : State := { tReady with sess := [(3, { opened := true, origin := some (5, 0), out := ["OK\r\n"], msgs := [1] })], peer := { state := 1 } }
def tWatch : Watch := { noun := .odo, idx := 3, names := ["COUNT"], every := some 1000000000, untilAt := some 5000000000 }
def tWatchC : Watch := { noun := .odo, idx := 3, names := ["COUNT"], lastVals := [("count", "7")] }
def tOdo3 : Tab Odo := [(3, { state := 1, snap := some (0, 0, 0, false, 0), epoch := 1 })]
def tWatching : State := { tSess { opened := true, super := true, watches := [tWatch] } with odos := tOdo3 }
def tWatchingC : State := { tSess { opened := true, super := true, watches := [tWatchC] } with odos := tOdo3 }
def tOdoSnap : State := { tReady with odos := tOdo3 }
def tSspNew : State := { tReady with ssps := [(1, { running := true, epoch := 4 })] }
def tSspOld : State := { tSess { opened := true, super := true, epochs := [((.ssp, 1, ""), 4)] } with ssps := [(1, { running := true, epoch := 4 })] }
def tKeyed : State := { tSess { opened := true } with key0 := some 1 }
def tChal : State := { tSess { opened := true, chal := some (2, 0) } with key0 := some 1 }
def tChalResp : String := "0x" ++ String.ofList (hexDigits (loginResp 1 2) 16)
def tChalNat : Nat := loginResp 1 2
def tLocked : State := { tReady with lockoutEnd := some 30000000000 }
def tRouted : State := { tSess { opened := true, queue := [.routed 5 none false "GET TIME"] } with peer := { state := 1, nodes := [(5, { present := true })] } }
def tRoutedDown : State := tSess { opened := true, queue := [.routed 5 none false "GET TIME"] }
def tAwaiting : State := { tReady with routed := [⟨0, 5, none, false, 0, 1⟩] }
def tOwnlockOff : AttrTok := ⟨"OWNLOCK", some "OFF", "OWNLOCK=OFF"⟩
def tTwoSupers : State := { tReady with sess := [(0, { opened := true, super := true }), (1, { opened := true, super := true })] }
def tSspRun : State := { tReady with power := { tReady.power with dstate := .run }, parts := [(0, { state := .running })], ssps := [(1, { running := true })] }
def tResetting : State := { tReady with parts := [(0, { state := .resetting })] }
def tPart0 : Tab Part := [(0, { state := .running })]
def tRun : State := { tReady with power := { tReady.power with dstate := .run }, parts := tPart0 }
def tImpl : State := { tRun with impls := [(0, { running := true })] }
def tImplStop : State := { tRun with impls := [(0, { running := true, stopDue := true })] }
def tBindCfg : AMap CKey Val := [(⟨.sec, 0, "", "BIND"⟩, .l [2, 5]), (⟨.impl, 0, "", "ODO"⟩, .n 3), (⟨.sec, 0, "", "STOP"⟩, .w "CLOSE"), (⟨.impl, 0, "", "LOSTPOS"⟩, .w "HOLD")]
def tImplReady : State := { tReady with cfg := tBindCfg, odos := [(3, { state := 1 })], cellar := { psram := .ready }, parts := [(0, { state := .running })], power := tRun.power }
def tImplOpen : State := { tImplReady with impls := [(0, { running := true, stopAt := some 0 })], secs := [(0, { decided := true, cmdOn := true, eff := true })], units := [(5, { on := true, enabled := true, sw := .drive })] }
def tImplLost : State := { tImplReady with impls := [(0, { running := true, cycled := true, lostAt := some 0 })] }
def tImplLane : State := { tRun with impls := [(0, { running := true, laneEnd := some 1000000, laneDiff := 2 })] }
def tBindWait : State := { tRun with sess := [(0, { opened := true, super := true, await := some (tPh .start (some ⟨.impl, .one 0, ""⟩)) })], impls := [(0, { bindWait := some (0, 0) })] }
def tImplExt : State := { tImpl with times := { sys := 1000000000 } }
def tPos (tov : String) : Phrase := tPh .set (some ⟨.impl, .one 0, "POS"⟩) [tAt "LAT" "48000000000", tAt "LON" "9000000000", tAt "FIX" "fixed", tAt "TOV" tov]
def tImplMot : State := { tImplExt with impls := [(0, { running := true, mot := some { spd := some 1500, tov := 990000000 } })] }
def tHeldOff : State := { tImplOpen with secs := [(0, { decided := false, cmdOn := true, eff := true, held := [⟨false, 7, 7⟩] })] }
def tHeldOn : State := { tImplOpen with secs := [(0, { decided := true, held := [⟨true, 7, 7⟩] })], units := [] }
def tEffDue : State := { tImplOpen with secs := [(0, { decided := true, cmdOn := true, effDue := [(9, true)] })] }
def tSent : State := { tRun with peer := { state := 1, sent := [⟨5, 1, 0, true, false, 12000000, false, false, false⟩] } }
def tCelUse : AMap String Val := [("PSRAM", .n 64), ("COVSIZE", .n 2), ("RXSIZE", .n 2), ("STAGESIZE", .n 2), ("LOGSIZE", .n 4)]
def tSaved : SavedSet := { origin := some (48000, 9000), tiles := [((10, 0, 0), [(3, 7)])] }
def tCellar : State := { tReady with cellar := { psram := .ready, nor := .ready, norKiB := 65536, inUse := tCelUse, tiles := [((10, 0, 0), [(3, 7)])], saved := some {} } }
def tInit : State := { tReady with cellar := { init := true, inUse := tCelUse } }
def tLogged : State := { tCellar with cellar := { tCellar.cellar with logRing := [{ seq := 512, prod := 1 }, { seq := 513 }], logSeq := 514 } }
def tProfile : State := { tReady with pantry := { slots := [(5, some { cfg := [(⟨.odo, 1, "", "CHGUP"⟩, .n 600)] })] } }
def tProdCfg : AMap CKey Val := [(⟨.prod, 2, "", "BASIS"⟩, .w "TIME"), (⟨.prod, 2, "", "OUT"⟩, .w "VALVE"), (⟨.prod, 2, "", "OUTUNIT"⟩, .l [2, 7]), (⟨.prod, 2, "", "FB"⟩, .w "NONE"), (⟨.prod, 2, "", "TARGET"⟩, .n 500),
  (⟨.chan, 7, "", "MODE"⟩, .w "PROPORTIONAL"), (⟨.prod, 2, "", "IDLEOUT"⟩, .w "ZERO"), (⟨.prod, 2, "", "UMIN"⟩, .n 0), (⟨.prod, 2, "", "UZERO"⟩, .n 100), (⟨.prod, 2, "", "UFULL"⟩, .n 400), (⟨.prod, 2, "", "UMAX"⟩, .n 400)]
def tProdRun : State := { tRun with cfg := tProdCfg, prods := [(2, { state := 1 })] }
def tProdIdle : State := { tRun with cfg := (⟨.prod, 2, "", "TARGET"⟩, .n 0) :: tProdCfg, prods := [(2, { state := 1 })] }
def tProdReady : State := { tReady with cfg := tProdCfg }
def tProdFb : State := { tRun with cfg := [(⟨.prod, 2, "", "FB"⟩, .w "ODO"), (⟨.prod, 2, "", "FBODO"⟩, .n 1), (⟨.prod, 2, "", "FBLOSS"⟩, .w "HOLD")], prods := [(2, { state := 1, silent := some 5 })] }
def tOdoRun : State := { tRun with odos := [(3, { state := 1 })] }
def tOdoIdx : State := { tOdoRun with cfg := [(⟨.odo, 3, "", "IDXMODE"⟩, .w "ALWAYS"), (⟨.odo, 3, "", "IDXVAL"⟩, .n 7)] }
def tOdoVeto : State := { tRun with cfg := [(⟨.odo, 3, "", "IDXMODE"⟩, .w "ARMED-ONCE"), (⟨.odo, 3, "", "IDXEXP"⟩, .n 100), (⟨.odo, 3, "", "IDXTOL"⟩, .n 5), (⟨.odo, 3, "", "VETO"⟩, .w "ON")], odos := [(3, { state := 1, count := 106, armed := true, idx := some (40, false), idxEpoch := 2 })] }
def tOdoPlaus : State := { tRun with cfg := [(⟨.odo, 3, "", "PLAUS"⟩, .l [2]), (⟨.impl, 0, "", "ODO"⟩, .n 3)], odos := [(3, { state := 1, speeds := [2000], viol := 4 })], gnss := { running := true, fix := true }, impls := [(0, { running := true })] }
def tPinFuncs : AMap CKey Val := [(⟨.pin, 10, "", "FUNC"⟩, .w "CNTA3"), (⟨.pin, 11, "", "FUNC"⟩, .w "CNTB3"), (⟨.pin, 12, "", "FUNC"⟩, .w "SSPCLK1"), (⟨.pin, 13, "", "FUNC"⟩, .w "SSPDAT1")]
def tOdoReady : State := { tReady with cfg := (⟨.odo, 3, "", "DIRIN"⟩, .w "FIXED") :: tPinFuncs }
def tOdoCmp : State := { tRun with odos := [(3, { state := 1, entries := [{ value := 12, host := true, order := 1, hw := true, tag := 7 }, { value := 14, act := 2, order := 2 }] })] }
def tSsp : State := { tRun with ssps := [(1, { running := true, nextDue := 10000 })], cfg := [(⟨.ssp, 1, "", "CHK"⟩, .w "NONE"), (⟨.ssp, 1, "", "WORDBITS"⟩, .n 8), (⟨.ssp, 1, "", "ERRBIT"⟩, .w "NONE"), (⟨.ssp, 1, "", "POSMSB"⟩, .n 7), (⟨.ssp, 1, "", "FREQ"⟩, .n 1000)] }
def tSspBusy : State := { tSsp with ssps := [(1, { running := true, nextDue := 10000, cycle := some 5000, fails := 1, value := 3 })] }
def tSspReady : State := { tReady with cfg := tSsp.cfg ++ tPinFuncs }
def tChs : Tab Chan_ := [(0, { state := 5, prn := 11, cn0 := 400, el := 30000 }), (1, { state := 5, prn := 12, cn0 := 400, el := 30000 }), (2, { state := 5, prn := 13, cn0 := 400, el := 30000 }), (3, { state := 5, prn := 14, cn0 := 400, el := 30000 })]
def tAid : Aid := { eph := [(11, 0, false), (12, 0, false), (13, 0, false), (14, 0, false)], bsub := [(11, 2, 0, []), (12, 2, 0, []), (13, 2, 0, []), (14, 2, 0, [])] }
def tGnss : State := { tRun with gnss := { running := true, ch := tChs, aid := tAid } }
def tGnssIdle : State := { tRun with gnss := { running := true, aid := tAid } }
def tGnssNoHeavy : State := { tGnss with grants := { chkEnd := some 9 } }
def tCopy : State := { tGnss with gnss := { tGnss.gnss with ch := [(0, { state := 5, prn := 11, copy := true, copyCh := some 5 }), (5, { state := 3, prn := 11, isCopy := true })] } }
def tHits : State := { tGnss with gnss := { tGnss.gnss with ch := (0, { state := 5, prn := 11, hits := 2 }) :: tChs.drop 1 } }
def tSol : GnssSol := { gps := 1000000000, sys := 500000000, used := [(0, 11), (1, 12), (2, 13), (3, 14)], lat := 48000000000, lon := 9000000000, hgt := 300000, ve := 1500, vn := -200 }
def tResults : State := { tGnss with gnss := { tGnss.gnss with sol := [("epoch", "2"), ("tov", "7")], solEpoch := 2, rawEpoch := 3, raw := some { keep := [[("epoch", "3"), ("nch", "1")], [("epoch", "3"), ("ch", "0")]], follow := [[("epoch", "3"), ("nch", "0")]] } }, cfg := [(⟨.gnss, 1, "", "OUT"⟩, .w "BOTH")] }
def tDrvOn : State := { tRun with units := [(5, { on := true, sw := .drive })], grants := { list := [{ budget := 0, who := 5, cls := 0, start := 0, dur := 20000000, charge := 1000 }] } }
def tDrvReach : State := { tDrvOn with cfg := [(⟨.prof, 0, "PH0", "END"⟩, .w "REACHED")] }
def tFlat : AMap CKey Val := [(⟨.prof, 0, "PH0", "TARGET"⟩, .n 500)]
def tPwm : State := { tRun with cfg := (⟨.chan, 5, "", "MODE"⟩, .w "PWM") :: tFlat, units := [(5, { enabled := true, duty := 500 })], times := { sys := 1000 } }
def tPwmIdle : State := { tPwm with units := [(5, { duty := 500, dutyNew := some 250 })] }
def tDuty : State := { tRun with cfg := [(⟨.chan, 5, "", "DLIMIT"⟩, .n 3)], units := [(5, { on := true, sw := .drive, enabled := true, sums := [36000000, 9000000] })] }
def tDirect : State := { tRun with units := [(51, { direct := true, on := true, sw := .drive, enabled := true, target := 500, phase := 1 })], cfg := [(⟨.gdr, 3, "", "STATE"⟩, .w "ON")] }
def tDirectFree : State := { tRun with cfg := tFlat, units := [(51, { direct := true })] }
def tWaitOn : State := { tRun with units := [(5, { enabled := true, waiting := some 900 })], grants := { list := [{ budget := 0, who := 5, cls := 0, start := 900, dur := 100, charge := 1000, booked := true }] } }
def tGrantEv : State := { tRun with units := [(5, { gev := [{ outcome := 4, at_ := 500, cnt := 2, cls := 0, wait := 0, ir := 0 }] })] }
def tRetry : State := { tRun with cfg := (⟨.chan, 5, "", "STATE"⟩, .w "ON") :: tFlat, units := [(5, { direct := true, retryAt := some 900 })] }
def tSweep : State := { tRun with cfg := [(⟨.diag, 5, "", "SWEEP"⟩, .w "ON")] }
def tSuspect : State := { tRun with units := [(5, { blocked := true, retestAt := some 10000000, suspectEnd := some 60000000000, dcause := 7 })] }
def tCan0 : Tab Can_ := [(0, { running := true, peer := true })]
def tPeer : State := { tRun with peer := { state := 1, inst := 7, master := some 0, synced := true }, cans := tCan0 }
/-- A peer frame as it stands on the bus. -/
def tFrame (typ dst src : Nat) (data : List Nat) (ts : Nat := 0) : PeerIn := { id := peerId typ dst src 0, data := peerBytesOf typ (peerId typ dst src 0) data, ts := ts }
/-- The state in which an accepted frame acts. -/
def tRx (s : State) (f : PeerIn) : State := (s.peerRx (idTyp f.id) f).1
def tHb : PeerIn := tFrame 2 255 5 ([1, 1, 0, 1] ++ leBytes 3 4 ++ leBytes 99 4)
def tPeerReady : State := { tReady with own := [((.pin, 32), 5), ((.pin, 33), 5)], cfg := [(⟨.pin, 32, "", "FUNC"⟩, .w "CANTX0"), (⟨.pin, 33, "", "FUNC"⟩, .w "CANRX0")] }
def tPeerNode : State := { tPeer with peer := { tPeer.peer with nodes := [(5, { present := true, known := true })] }, times := { sys := 70000000 } }
def tPeerSlave : State := { tPeerNode with peer := { tPeerNode.peer with master := some 5, synced := false, good := 2 }, cfg := [(⟨.peer, 0, "", "ADDR"⟩, .n 9)] }
def tSyncF : PeerIn := tFrame 0 255 5 (leBytes 3 2 ++ [5, 0]) 80000000
def tFollow (e : Int) : PeerIn := tFrame 1 255 5 (leBytes 3 2 ++ [0, 0] ++ leBytes (toTwos 64 (80000000 + e)) 8) 80050000
def tPeerTwin : State := { tPeer with cfg := [(⟨.peer, 0, "", "ADDR"⟩, .n 5)] }
def tBridge : State := { tPeer with cfg := [(⟨.peer, 0, "", "BRIDGE"⟩, .n 1)], cans := [(0, { running := true, peer := true }), (1, { running := true, peer := true })] }
def tBindF : PeerIn := tFrame 4 0 5 ([0, 0, 7, 0, 2, 0] ++ leBytes 9 2)
def tBindBad : PeerIn := tFrame 4 0 5 ([0, 0, 77, 0, 2, 0] ++ leBytes 9 2)
def tUnbindF : PeerIn := tFrame 5 0 5 ([0, 0, 7, 0, 0, 0] ++ leBytes 11 2)
def tBindackF : PeerIn := tFrame 6 0 5 (leBytes 9 2 ++ [0])
def tBound : State := { tPeerNode with peer := { tPeerNode.peer with nodeBinds := [{ lead := 5, impl := 0, utype := 0, unit := 7, sec := 2 }] }, cfg := tFlat }
def tLead : State := { tPeerNode with peer := { tPeerNode.peer with leadBinds := [{ impl := 0, node := 5, utype := 0, unit := 7, sec := 2, ref := 9 }], waits := [{ typ := 4, dst := 5, key := 9, data := [], sentAt := 0 }] } }
def tFireF : PeerIn := tFrame 8 0 5 (leBytes 3 2 ++ [0, 0, 7, 1] ++ leBytes 65535 2 ++ leBytes 90000000 8) 30000000
def tOffNow : PeerIn := tFrame 8 0 5 (leBytes 3 2 ++ [0, 0, 7, 2] ++ leBytes 65535 2 ++ leBytes 90000000 8) 30000000
def tCmdOn : NodeCmd := { lead := 5, cseq := 3, impl := 0, utype := 0, unit := 7, action := 1, duty := 65535, ftime := 50000000 }
def tHeldOnCmd : State := { tBound with peer := { tBound.peer with cmds := [tCmdOn] }, times := { sys := 0 } }
def tHeldCmds : State := { tBound with peer := { tBound.peer with cmds := [tCmdOn, { tCmdOn with cseq := 4, action := 0, ftime := 40000000 }] }, units := [(7, { on := true, enabled := true, sw := .drive })], times := { sys := 0 } }
def tCancelF : PeerIn := tFrame 9 0 5 (leBytes 3 2 ++ [0, 0, 7])
def tDutyF : PeerIn := tFrame 11 0 5 ([0, 0, 7, 0] ++ leBytes 250 2)
def tReportF : PeerIn := tFrame 10 0 5 (leBytes 3 2 ++ [0, 1, 0, 7, 0, 0, 0])
def tLeadFired : State := { tLead with cfg := [(⟨.sec, 2, "", "BIND"⟩, .l [5, 5, 7])], secs := [(2, { decided := true })], peer := { tLead.peer with sent := [{ node := 5, cseq := 3, sec := 2, on := true }], waits := [{ typ := 8, dst := 5, key := 3, data := [], sentAt := 0 }] }, impls := [(0, { running := true })] }
def tPosF : PeerIn := tFrame 12 255 5 ([0, 3, 1, 0] ++ leBytes 48000000000 8 ++ leBytes 9000000000 8 ++ leBytes 300000 4 ++ leBytes 0 4 ++ leBytes 0 4 ++ leBytes 0 4 ++ leBytes 999000000 8) 1000000000
def tPosLead : State := { tPeerNode with impls := [(0, { running := true })], cfg := [(⟨.peer, 0, "", "POSFROM0"⟩, .n 5), (⟨.impl, 0, "", "POSSRC"⟩, .w "EXT")] }
def tPhrF : PeerIn := tFrame 16 0 5 ([4, 0, 3, 16] ++ [71, 69, 84])
def tRplF : PeerIn := tFrame 17 0 5 ([4, 0, 3, 0] ++ [68, 65, 32])
def tAckF : PeerIn := tFrame 18 0 5 [4, 128, 16]
def tAsked : State := { tPeerNode with peer := { tPeerNode.peer with waits := [{ typ := 16, dst := 5, key := 1152, data := [4, 128, 1, 0, 65], sentAt := 1000 }] } }
def tRplWait : State := { tPeerNode with routed := [⟨0, 5, none, false, 0, 4⟩] }
def tCan : State := { tRun with cans := [(2, { running := true, order := 3, inst := 3, rx := [{ inst := 1, ts := 5, f := { id := 9, dlc := 1, data := [7] } }, { inst := 2, ts := 6, f := { id := 10 } }], tx := [{ f := { id := 5 }, order := 1, oneshot := true }, { f := { id := 6 }, order := 2, tag := 4 }] })] }
def tCanReady : State := { tReady with cfg := [(⟨.pin, 36, "", "FUNC"⟩, .w "CANTX2"), (⟨.pin, 37, "", "FUNC"⟩, .w "CANRX2")] }

def tUart : State := { tRun with uarts := [(0, { enabled := true, rate := 9600 })] }
def tUartFull : State := { tRun with uarts := [(0, { enabled := true, rx := List.replicate 256 { data := 65 } })] }
def tUartHunt : State := { tRun with uarts := [(0, { enabled := true, hunt := true, armed := true })] }
def tUartX : State := { tRun with uarts := [(0, { enabled := true, flow := true, xoffDue := true })] }
def tUartSet : State := { tUart with uarts := [(0, { enabled := true, rate := 9600, apply_ := some 0, rehunt := true })], cfg := [(⟨.uart, 0, "", "BAUD"⟩, .n 19200), (⟨.uart, 0, "", "AUTOBAUD"⟩, .w "OFF")] }
def tUartPins : State := { tReady with own := [((.pin, 2), 5), ((.pin, 3), 5), ((.pin, 40), 5), ((.pin, 41), 5)], cfg := [(⟨.pin, 2, "", "FUNC"⟩, .w "U0TX"), (⟨.pin, 3, "", "FUNC"⟩, .w "U0RX"), (⟨.pin, 40, "", "FUNC"⟩, .w "I2CSCL1"), (⟨.pin, 41, "", "FUNC"⟩, .w "I2CSDA1")], sess := [(1, { opened := true, super := true })] }
def tSpiPins : State := { tReady with own := [((.pin, 4), 5), ((.pin, 5), 5), ((.pin, 6), 5), ((.pin, 7), 5), ((.pin, 8), 5)], cfg := [(⟨.pin, 4, "", "FUNC"⟩, .w "SPICSN"), (⟨.pin, 5, "", "FUNC"⟩, .w "SPICK"), (⟨.pin, 6, "", "FUNC"⟩, .w "SPIDI"), (⟨.pin, 7, "", "FUNC"⟩, .w "SPIDO"), (⟨.pin, 8, "", "FUNC"⟩, .w "ATTN")] }
def tRaw : State := { tReady with cfg := [(⟨.uart, 2, "", "MODE"⟩, .w "RAW")], uarts := [(2, { enabled := true, rx := [{ data := 65, inst := 9 }, { data := 66, tag := 1, ovr := true, inst := 10 }] })] }
def tSpi : State := { tReady with spi := { enabled := true }, sess := [(2, { opened := true, out := ["OK\r\n"] })] }
def tSpiIn : State := { tSpi with spi := { enabled := true, header := some (129, 4, 252, 0) } }
def tI2c : State := { tReady with i2cs := [(1, { enabled := true })], sess := [(0, { opened := true, super := true })] }
def tI2cPh : Phrase := tPh .set (some ⟨.i2c, .one 1, "XFER"⟩) [tAt "ADDR" "80", tAt "W" "0x0102"]
def tI2cRead : Phrase := tPh .get (some ⟨.i2c, .one 1, "XFER"⟩) [tAt "ADDR" "80", tAt "R" "2"]
def tI2cBusy : State := { tI2c with i2cs := [(1, { enabled := true, busy := some (0, tI2cPh, { outcome := 4 }), scl := false })], sess := [(0, { opened := true, super := true, await := some tI2cPh })] }

def tPin : State := { tReady with cfg := [(⟨.pin, 9, "", "IRQ"⟩, .w "BOTH"), (⟨.pin, 9, "", "EVMIN"⟩, .n 50000), (⟨.pin, 10, "", "IRQ"⟩, .w "HIGH")] }
def tPinWait : State := { tPin with pins := { pins := [(9, { evt := true, ecnt := 1, val := true, lineAt := some 0 })] }, times := { sys := 5000000 } }
def tPinDue : State := { tPin with pins := { pins := [(9, { evt := true, ecnt := 3, val := true, lineAt := some 0, since := 2, lastTs := 7 })] }, times := { sys := 5000000 } }
def tPinSet : State := { tReady with own := [((.pin, 9), 0)], pins := { pins := [(9, { evt := true, ecnt := 3 })] } }
def tGroup : State := { tReady with own := [((.pin, 9), 0), ((.pin, 40), 0)], cfg := [(⟨.pin, 9, "", "LEVEL"⟩, .w "LOW"), (⟨.pin, 40, "", "LEVEL"⟩, .w "HIGH")] }
def tRegSet (a v : String) : Phrase := tPh .set (some ⟨.reg, .one (a.toList.foldl (fun n c => n * 16 + (if c.toNat < 58 then c.toNat - 48 else c.toNat - 55)) 0), ""⟩) [tAt "VALUE" v]
def tAtticRegs : State := { tReady with attic := { ring0 := [(0, { log := 0, code := 5, seq := 1 })], next0 := 2, selLo := 1, scanned := true } }

def tTime : State := { tReady with times := { sys := 5000000000, cal := 90000000000, calSrc := .host } }
def tGps : State := { tTime with times := { tTime.times with gpsOff := some 85000000700, calSrc := .gps, lastCmp := 60 } }
def tGpsFirst : State := { tTime with times := { tTime.times with gpsOff := some 80000000700, gpsFirst := true } }
def tLeap : State := { tTime with times := { tTime.times with leapSched := some (100, 19) } }
def tPendRec : ARec := { log := 0, code := 0x01F0, src := 39, data := [1, 2], systime := 7 }
def tAttic : State := { tReady with attic := { scanned := true, pend := [tPendRec, { log := 1, code := 0x020A }], next0 := 4 } }
def tTrace : State := { tReady with trace := { running := true, queue := [{ t := 7000, text := "ODO.3 START" }, { t := 8000, text := "X" }], tseq := 65535 }, cfg := [(⟨.trace, 0, "", "DEST"⟩, .w "UART2"), (⟨.uart, 2, "", "MODE"⟩, .w "TRACE")], uarts := [(2, { enabled := true })] }
def tRing : State := { tReady with trace := { ring := [(4, "T 1 7 ODO.3 START why=HOST\r\n"), (5, "T 2 9 ODO.3 STOP\r\n")] } }

def tOnUnits : Tab Unit_ := [(5, { on := true, sw := .drive, enabled := true, phase := 1 }), (30, { on := true, sw := .drive, enabled := true })]
def tDriving : State := { tRun with units := tOnUnits, power := { tRun.power with vdrvA := 12000, vdrvB := 12000 } }
def tShut : State := { tReady with power := { tReady.power with dstate := .shutdown, trigger := some 1, step := 1 }, attic := { scanned := true }, times := { hoursNs := 7000000000 } }
def tIgn : State := { tReady with cfg := [(⟨.power, 0, "", "IGNMODE"⟩, .w "ON"), (⟨.power, 0, "", "IGNDELAY"⟩, .n 2000000)], power := { tReady.power with ign := true } }
def tBoot : State := { power := { dstate := .boot, vlog := 3300 } }
def tStandby : State := { power := { dstate := .standby }, cfg := [(⟨.power, 0, "", "WAKESRC"⟩, .w "WAKEN,RTC")], times := { sys := 7000, alarm := some 30000 } }

def tFaulty : State := { tRun with faults := { latch := [3, 15], lastCls := 3, coverBase := some (true, []) } }
def tMism : State := { tRun with units := tOnUnits, faults := { mism := [(5, 1)] } }
def tHbeat : State := { tRun with cfg := [(⟨.fault, 0, "", "HBTIME"⟩, .n 500000)] }

/-! ### Terms that WellFormed refuses, one for each check -/

/-- A phrase that names instance 50 of CHAN, of which there are 48 (Table PHR-9). -/
def badIndex : Phrase := tPh .get (some ⟨.chan, .one 50, ""⟩)
/-- A sub that TIME has not. -/
def badSub : Phrase := tPh .get (some ⟨.time, .none, "FILTER"⟩)
/-- An attribute twice in a phrase (R69). -/
def twice : Phrase := tPh .set (some ⟨.odo, .one 3, ""⟩) [tAt "CHGUP" "1", tAt "CHGUP" "2"]
theorem test_wf_refuses_index : Phrase.wf badIndex = false := by decide +kernel
theorem test_wf_refuses_sub : Phrase.wf badSub = false := by decide +kernel
theorem test_wf_refuses_repeated_attribute : Phrase.wf twice = false := by decide +kernel
theorem test_wf_refuses_bad_phrase : (Instr.setAttributes 0 twice).wf = false := by decide +kernel
theorem test_wf_refuses_session : (Instr.sessionInputCharacter 11 65 false).wf = false ∧ (Instr.phraseLineComplete 0 256).wf = false := by decide
theorem test_wf_refuses_session_of_phrase : (Instr.show 11 (tPh .showV (some ⟨.time, .none, ""⟩))).wf = false := by decide +kernel
theorem test_wf_refuses_noun : (Instr.watchEveryTick 0 ⟨.odo, .one 8, ""⟩).wf = false := by decide +kernel
theorem test_wf_refuses_part : (Instr.partResetComplete 4 []).wf = false ∧ (Instr.lostholdExpiry 4).wf = false ∧ (Instr.hosthbExpiry 4).wf = false := by decide
theorem test_wf_refuses_section : (Instr.secStoptimeExpiry 256).wf = false ∧ (Instr.effectiveStateChange 256).wf = false := by decide
theorem test_wf_refuses_unit : (Instr.phaseTlim 56).wf = false ∧ (Instr.grantRelease 156).wf = false ∧ (Instr.fbTimeout 8).wf = false ∧ (Instr.odoZerotime 8).wf = false := by decide
theorem test_wf_refuses_port : (Instr.uartHuntIdle 3).wf = false ∧ (Instr.portSettingsApply 6).wf = false ∧ (Instr.i2cStretchTimeout 2).wf = false ∧ (Instr.sspTimeout 2).wf = false ∧ (Instr.canIntegrated 4).wf = false := by decide
theorem test_wf_refuses_pin : (Instr.pinLevel 64 0 true).wf = false ∧ (Instr.pinBankDown 4).wf = false := by decide
theorem test_wf_refuses_receiver : (Instr.channelLockLost 24).wf = false ∧ (Instr.antStateChange 4 0).wf = false ∧ (Instr.notchStateChange 4 0 0 false).wf = false ∧ (Instr.jamEval 256).wf = false := by decide
theorem test_wf_refuses_node_and_island : (Instr.peerResend 128 0 0).wf = false ∧ (Instr.seqWatchdog 64).wf = false := by decide
theorem test_wf_takes_phrase : (Instr.setAttributes 0 (tPh .set (some ⟨.odo, .one 3, ""⟩) [tAt "CHGUP" "1"])).wf = true := by decide +kernel

/-! ### Worked examples of the spec and values worked out by hand from its rules -/

/-- Worked case PHR-1 (R63): the check of GET TIME, of LOGOUT and of its reply. -/
theorem test_check_of_phr1 : crc8 "GET TIME".toList = 0x14 ∧ crc8 "LOGOUT".toList = 0xBB ∧ crc8 "OK".toList = 0x6E := by decide +kernel
/-- Worked case MAC-1 (R25): a point 3.5 m behind and 12 m to the left, heading 30 degrees. -/
theorem test_point_of_mac1 : machineToField 120000000 80000000 30000000 (-3500000) 12000000 = (107858000, 82969000) := by decide +kernel
/-- Worked case SWT-1 (R174): 6.93 and 1.91 counts ahead. -/
theorem test_counts_of_swt1 : countsAhead 420000 16500000 = 7 ∧ countsAhead 430000 4440000 = 2 := by decide +kernel
/-- Worked case ODO-2 (R300): the data byte 0xA5 under CRC6 with CRCINIT 0, inverted. -/
theorem test_crc_of_odo2 : sspCrc "CRC6" 0 true [true, false, true, false, false, true, false, true] = 0x19 := by decide +kernel
/-- Worked case PEER's identifier (R449): a FIRE frame from address 5 to address 17. -/
theorem test_identifier_of_fire : peerId 0x08 17 5 0 = 0x050220A0 := by decide +kernel
/-- Worked case CAN-1 (R446): the bit timing of the peer link as registers. -/
theorem test_registers_of_can1 : nbtOf 1 63 16 16 = 0x0F1E7C00 ∧ dbtOf 1 14 5 5 true = 0x000511A0 := by decide +kernel
/-- Worked case HST-1 (R514): 8,466 clocks from edge to edge. -/
theorem test_rate_of_hst1 : huntRate 8466 = 58001 := by decide +kernel
/-- Worked case HST-2 (R525): a LOGOUT of 11 bytes and its CR is taken from a transfer of 16 bytes. -/
theorem test_transfer_of_hst2 : spiJudge [0x0B, 0xF4, 0, 0, 0x4C, 0x4F, 0x47, 0x4F, 0x55, 0x54, 0x20, 0x2A, 0x42, 0x42, 0x0D, 0] 512 = (1, [0x4C, 0x4F, 0x47, 0x4F, 0x55, 0x54, 0x20, 0x2A, 0x42, 0x42, 0x0D]) := by decide +kernel
/-- Worked case ATT-2 (R574): 19,661,203 periods of the crystal. -/
theorem test_periods_of_att2 : rtcNs 19661203 = 600012298584 := by decide +kernel
/-- Worked case ATT-1 (R583): the oldest record once 20,000 were written. -/
theorem test_oldest_of_att1 : ({ tReady with attic := { next0 := 20001 } } : State).atticOldest 0 = 7713 := by decide +kernel
/-- Worked case PIN-1 (R556): PART1 toggles its pins 4 to 7; 8 to 11 are not its own. -/
def tPin1 : State := { tReady with own := (List.range 8).map fun k => ((.pin, k), 1), cfg := [(⟨.pin, 0, "", "LEVEL"⟩, .w "HIGH"), (⟨.pin, 2, "", "LEVEL"⟩, .w "HIGH")] }
theorem test_levels_of_pin1 : ((tPin1.regWrite (tPin1.reg 0xF0450).wr 0xFF0 0xFFFFFFFF).reg 0xF0440).val = 0xF5 := by decide +kernel
/-- Worked case REG-2 (R737): I49 of an SDX-9624 retired after SW-HS. -/
def tReg2 : State := { tReady with power := { tReady.power with variant := .sdx9624 } }
theorem test_island_state_of_reg2 : (((tReg2.retireIsland 49 1 0x02).reg 0x10C).val, ((tReg2.retireIsland 49 1 0x02).reg 0x2C4).val) = (0xFFFF0008, 0x201) := by decide +kernel
theorem test_island_count_of_reg2 : ((tReg2.retireIsland 49 1 0x02).reg 0x110).val = 0x00080001 := by decide +kernel
/-- The class text that R729 gives of DEV_LOCK and of an unallocated word. -/
theorem test_class_text : (tReady.reg 0x10004).classText = "[31:2]RESERVED,[1:0]WO1" := by decide +kernel
/-- Worked case GRT-1 (R432): the switch-ons of die A in order, all for the instant 0. -/
def tGrt1 : State := { tReady with cfg := [(⟨.grant, 0, "", "BUDGET"⟩, .n 9000), (⟨.prof, 0, "", "NPH"⟩, .n 2), (⟨.prof, 0, "PH0", "TARGET"⟩, .n 2500), (⟨.prof, 0, "PH0", "T"⟩, .n 500), (⟨.prof, 0, "PH1", "TARGET"⟩, .n 500), (⟨.prof, 0, "", "REDUCE"⟩, .w "ON"), (⟨.prof, 0, "", "REDMIN"⟩, .n 1000)] }
/-- The start in microseconds of each of the first `n` units' grants, with the reduced current. -/
def grantsOf (n : Nat) : List (Option (Nat × Option Nat)) :=
  ((List.range n).foldl (fun (a : State × List (Option (Nat × Option Nat))) u => let r := a.1.askSwitchOn u 0 0 false; (r.1, a.2 ++ [r.2.map fun d => (d.start / 1000, d.ir)])) (tGrt1, [])).2
theorem test_starts_of_grt1 : (grantsOf 24).drop 19 = [some (2000, none), some (0, some 1500), some (840, some 1500), some (1680, some 1500), none] := by decide +kernel
/-- R302's example: 100 m of GPS distance in 10,152 counts. -/
theorem test_example_of_calibration : divRound 100000000000 10152 = 9850276 := by decide +kernel
/-- Worked case REG-1 (R733): a counter is written whole; with a partial mask E-RANGE. -/
theorem test_partial_mask_of_reg1 : (tReady.setRegErrs 0 (tPh .set (some ⟨.reg, .one 0x30830, ""⟩) [tAt "VALUE" "0", tAt "MASK" "0xFFFF"]) 0x30830).map Err.code = [.range] := by decide +kernel

/-! ### The block as a queue of commands -/

/-- The front command is taken and the rest stays. -/
theorem test_step_takes_front : (match step { tReady with pending := [.rstnRelease, .leapApply] } with
    | .next t => t.pending
    | _ => []) = [.leapApply] := by decide +kernel
/-- GET TIME typed with its check is answered (PHR-1): the line waits in the queue as a phrase. -/
theorem test_checked_line_is_queued : (match exec (.phraseLineComplete 0 13) tLine with
    | .next t => ((t.sessAt 0).queue.length, (t.sessAt 0).line)
    | _ => (0, [1])) = (1, []) := by decide +kernel
/-- Windows are written and read back, and writing 0 leaves no entry (R210). -/
theorem test_stage_write : stageRead (stageWrite [] 5 0x41) 5 = 0x41 ∧ stageWrite (stageWrite [] 5 0x41) 5 0 = [] := by decide +kernel
/-- The premises of EveryStepKeepsWindowsAndAttic hold at a state with bytes and records, and at the windows they speak of. -/
theorem wit_EveryStepKeepsWindowsAndAttic_1 : ∃ s t : State, s.windowsWf = true ∧ s.attic.pend.length ≤ 64 ∧ step s = .next t :=
  ⟨{ tAttic with cellar := { stage1 := stageWrite [] 5 0x41 }, pending := [.atticRecordWrite] }, _, by decide +kernel, by decide +kernel, rfl⟩
theorem wit_EveryStepKeepsWindowsAndAttic_2 : ∃ c d : List Host.Cell, Memory.wf c = true ∧ Memory.wf d = true ∧ ∀ a, stageRead c a = stageRead d a :=
  ⟨[(5, 0x41)], [(5, 0x41)], by decide +kernel, by decide +kernel, fun _ => rfl⟩
/-- The premises of CommandsTakenInOrder hold of a run of two commands. -/
theorem wit_CommandsTakenInOrder_1 : ∃ (c : Instr) (s t : State), exec c s = .next t := ⟨.rstnRelease, tReady, _, rfl⟩
theorem wit_CommandsTakenInOrder_2 : ∃ (n : Nat) (s t : State), n ≤ s.pending.length ∧ core.run n s = .next t :=
  ⟨2, { tReady with pending := [.rstnRelease, .vbakLow true] }, _, by decide +kernel, rfl⟩
theorem wit_FirstErrorInOrderIsAnswered_1 : ∃ (es : List Err) (e : Err), es ≠ [] ∧ pickErr es = some e := ⟨[⟨.attr, none⟩, ⟨.owner, none⟩], ⟨.owner, none⟩, by decide +kernel⟩
theorem wit_PhraseErrorChangesNothing_1 : ∃ (s : State) (i : Nat) (p : Phrase) (f : State → Ans) (e : Err), s.mayRun i p = true ∧ rowOf p = "STOP_PART" ∧ (∀ a, (f a).onErr = none) ∧
    (∀ a, pickErr (f a).errs = some e) ∧ e.code ∉ [.locked, .check, .queue, .char] :=
  ⟨tReady, 0, tPh .stop (some ⟨.part, .one 1, ""⟩), fun _ => { errs := [⟨.state, none⟩], act := fun a => (a, []) }, ⟨.state, none⟩, by decide +kernel, by decide +kernel, fun _ => rfl, fun _ => rfl, by decide +kernel⟩

/-! ### For each statement with hypotheses, a state and operands that meet them all -/

theorem wit_InputCharacterJoinsLine_1 : ∃ (s : State) (i : Nat) (ch : Nat), i < 3 ∧ (s.sessAt i).opened = true ∧ (if i = 2 then s.spi.rxbuf = [] else (Tab.get {} s.uarts i).rx = []) ∧ ch < 256 ∧ ch ≠ 13 ∧ ch ≠ 10 ∧ (s.sessAt i).echo = false ∧ (s.sessAt i).line.length < 200 :=
  ⟨tReady, 0, 65, by decide +kernel⟩
theorem wit_InputCharacterJoinsLine_2 : ∃ (s : State) (i : Nat) (ch : Nat), i < 3 ∧ (s.sessAt i).opened = true ∧ (if i = 2 then s.spi.rxbuf = [] else (Tab.get {} s.uarts i).rx = []) ∧ ch < 256 ∧ 0x20 ≤ ch ∧ ch ≤ 0x7E ∧ (s.sessAt i).echo = true ∧ (s.sessAt i).line.length < 200 ∧ outRoom (s.sessAt i) 1 = true :=
  ⟨tEcho, 0, 0x7E, by decide +kernel⟩
theorem wit_InputCharacterJoinsLine_3 : ∃ (s : State) (i : Nat) (ch : Nat), i < 3 ∧ (s.sessAt i).opened = true ∧ (if i = 2 then s.spi.rxbuf = [] else (Tab.get {} s.uarts i).rx = []) ∧ ch < 256 ∧ (ch = 8 ∨ ch = 0x7F) ∧ (s.sessAt i).echo = true ∧ (s.sessAt i).line ≠ [] ∧ outRoom (s.sessAt i) 3 = true :=
  ⟨tEcho, 0, 0x7F, by decide +kernel⟩
theorem wit_InputCharacterJoinsLine_4 : ∃ (s : State) (i : Nat) (ch : Nat), i < 3 ∧ (s.sessAt i).opened = true ∧ (if i = 2 then s.spi.rxbuf = [] else (Tab.get {} s.uarts i).rx = []) ∧ ch < 256 ∧ ch < 0x20 ∧ ch ∉ [3, 8, 10, 13] ∧ (s.sessAt i).echo = true :=
  ⟨tEcho, 0, 9, by decide +kernel⟩
theorem wit_InputCharacterJoinsLine_5 : ∃ (s : State) (i : Nat) (ch : Nat), i < 3 ∧ (s.sessAt i).opened = true ∧ (if i = 2 then s.spi.rxbuf = [] else (Tab.get {} s.uarts i).rx = []) ∧ ch < 256 ∧ ch = 10 ∧ (s.sessAt i).afterCR = true :=
  ⟨tAfterCR, 0, 10, by decide +kernel⟩
theorem wit_CompleteLineIsQueued_1 : ∃ (s : State) (i : Nat) (p : Phrase), i < 3 ∧ (s.sessAt i).opened = true ∧ (if i = 2 then s.spi.rxbuf = [] else (Tab.get {} s.uarts i).rx = []) ∧ s.power.noPhrases = false ∧ (s.sessAt i).tooLong = false ∧ ((s.sessAt i).line.all fun c => 0x20 ≤ c && c ≤ 0x7E) = true ∧ readLine ((s.sessAt i).line.map fun c => Char.ofNat (c % 256)) false false (some s.ownAddr) = .phrase p ∧ s.heldBy i < 16 :=
  ⟨tLine, 0, tLinePhrase, by decide +kernel⟩
theorem wit_CompleteLineIsQueued_2 : ∃ (s : State) (i : Nat) (p : Phrase), i < 3 ∧ (s.sessAt i).opened = true ∧ (if i = 2 then s.spi.rxbuf = [] else (Tab.get {} s.uarts i).rx = []) ∧ s.power.noPhrases = false ∧ (s.sessAt i).tooLong = false ∧ ((s.sessAt i).line.all fun c => 0x20 ≤ c && c ≤ 0x7E) = true ∧ readLine ((s.sessAt i).line.map fun c => Char.ofNat (c % 256)) false false (some s.ownAddr) = .phrase p ∧ 16 ≤ s.heldBy i :=
  ⟨tFullQueue, 0, tLinePhrase, by decide +kernel⟩
theorem wit_OutputRoomReturns_1 : ∃ (s : State) (i : Nat), (s.sessAt i).opened = true ∧ i < 2 ∧ s.uartRuns i = true ∧ (s.uartAt i).paused = false ∧ (s.sessAt i).owed = [] ∧ (s.sessAt i).lost = 0 :=
  ⟨tOut, 0, by decide +kernel⟩
theorem wit_OutputRoomReturns_2 : ∃ (s : State) (i : Nat) (l : String), (s.sessAt i).opened = true ∧ i < 2 ∧ s.uartRuns i = true ∧ (s.uartAt i).paused = false ∧ (s.sessAt i).out = [] ∧ (s.sessAt i).owed = [l] ∧ l.length ≤ 4096 :=
  ⟨tOwed, 0, "OK\r\n", by decide +kernel⟩
theorem wit_OutputRoomReturns_3 : ∃ (s : State) (i : Nat), (s.sessAt i).opened = true ∧ i < 2 ∧ s.uartRuns i = true ∧ (s.uartAt i).paused = false ∧ (s.sessAt i).out = [] ∧ (s.sessAt i).owed = [] ∧ 0 < (s.sessAt i).lost ∧ (s.sessAt i).lost < 1000000 ∧ (s.sessAt i).evseq < 65536 :=
  ⟨tLost, 0, by decide +kernel⟩
theorem wit_OutputRoomReturns_4 : ∃ (s : State) (i : Nat) (l : String) (ls : List String) (a : Nat) (o : Nat), (s.sessAt i).opened = true ∧ 3 ≤ i ∧ (s.sessAt i).out = l :: ls ∧ (s.sessAt i).origin = some (a, o) ∧ s.peer.state = 1 ∧ s.peer.waits = [] ∧ pieces (l.toList.filter fun c => 32 ≤ c.toNat) ≠ [] ∧ (s.sessAt i).owed = [] ∧ (s.sessAt i).lost = 0 :=
  ⟨tPeerOut, 3, "OK\r\n", [], 5, 0, by decide +kernel⟩
theorem wit_SessionPhrasesComplete_1 : ∃ (s : State) (i : Nat) (p : Phrase), s.mayRun i p = true ∧ p.names .get .session none ∧ getErrs sessionAttrs p = [] :=
  ⟨tReady, 0, tPh .get (some ⟨.session, .none, ""⟩), by decide +kernel⟩
theorem wit_SessionPhrasesComplete_2 : ∃ (s : State) (i : Nat) (p : Phrase), s.mayRun i p = true ∧ p.names .set .session none ∧ setAttrErrs sessionAttrs true p = [] ∧ (p.attrs.map AttrTok.name).Nodup ∧ (∀ a ∈ p.attrs, a.name ≠ "PART" ∧ (a.name = "ECHO" ∨ a.name = "PROMPT" → i < 2)) :=
  ⟨tReady, 0, tPh .set (some ⟨.session, .none, ""⟩) [tAt "REQCHECK" "ON", tAt "EVENTS" "fault"], by decide +kernel⟩
theorem wit_SessionPhrasesComplete_3 : ∃ (s : State) (i : Nat) (p : Phrase) (v : String) (n : Nat), s.mayRun i p = true ∧ p.names .set .session none ∧ p.attrs = [⟨"PART", some v, "PART=" ++ v⟩] ∧ parseInt v = some (n : Int) ∧ n < 4 ∧ n ≠ (s.sessAt i).part :=
  ⟨tReady, 0, tPh .set (some ⟨.session, .none, ""⟩) [tAt "PART" "2"], "2", 2, by decide +kernel⟩
theorem wit_SessionPhrasesComplete_4 : ∃ (s : State) (i : Nat) (p : Phrase), s.mayRun i p = true ∧ p.names .reset .session none ∧ p.attrs = [] :=
  ⟨tWatching, 0, tPh .reset (some ⟨.session, .none, ""⟩), by decide +kernel⟩
theorem wit_SessionPhrasesComplete_5 : ∃ (s : State) (i : Nat) (p : Phrase), s.mayRun i p = true ∧ p.verb = .logout ∧ p.attrs = [] :=
  ⟨tReady, 0, tPh .logout none, by decide +kernel⟩
theorem wit_LoginGivesSupervisorRole_1 : ∃ (s : State) (i : Nat) (p : Phrase), s.mayRun i p = true ∧ p.verb = .login ∧ p.noun = none ∧ p.attrs = [⟨"SUPER", none, "SUPER"⟩] ∧ s.key0 = none :=
  ⟨tReady, 0, tPh .login none [⟨"SUPER", none, "SUPER"⟩], by decide +kernel⟩
theorem wit_LoginGivesSupervisorRole_2 : ∃ (s : State) (i : Nat) (p : Phrase), s.mayRun i p = true ∧ p.verb = .login ∧ p.noun = none ∧ p.attrs = [⟨"SUPER", none, "SUPER"⟩] ∧ s.key0 ≠ none ∧ s.lockedOut = false :=
  ⟨tKeyed, 0, tPh .login none [⟨"SUPER", none, "SUPER"⟩], by decide +kernel⟩
theorem wit_LoginGivesSupervisorRole_3 : ∃ (s : State) (i : Nat) (p : Phrase) (v : String) (k : BitVec 256) (c : BitVec 64) (r : Nat), s.mayRun i p = true ∧ p.verb = .login ∧ p.noun = none ∧ p.attrs = [⟨"SUPER", none, "SUPER"⟩, ⟨"RESP", some v, "RESP=" ++ v⟩] ∧ parseNat v = some r ∧ s.key0 = some k ∧ s.challenge i = some c ∧ s.lockedOut = false ∧ r = loginResp k c :=
  ⟨tChal, 0, tPh .login none [⟨"SUPER", none, "SUPER"⟩, tAt "RESP" tChalResp], tChalResp, 1, 2, tChalNat, by decide +kernel⟩
theorem wit_LoginGivesSupervisorRole_4 : ∃ (s : State) (i : Nat) (p : Phrase) (v : String) (k : BitVec 256) (c : BitVec 64) (r : Nat), s.mayRun i p = true ∧ p.verb = .login ∧ p.noun = none ∧ p.attrs = [⟨"SUPER", none, "SUPER"⟩, ⟨"RESP", some v, "RESP=" ++ v⟩] ∧ parseNat v = some r ∧ s.key0 = some k ∧ s.challenge i = some c ∧ s.lockedOut = false ∧ r ≠ loginResp k c :=
  ⟨tChal, 0, tPh .login none [⟨"SUPER", none, "SUPER"⟩, tAt "RESP" "0x1"], "0x1", 1, 2, 1, by decide +kernel⟩
theorem wit_SessionTimesExpire_1 : ∃ (s : State) (i : Nat) (c : BitVec 64) (t0 : Nat), (s.sessAt i).chal = some (c, t0) :=
  ⟨tChal, 0, 2, 0, by decide +kernel⟩
theorem wit_SessionTimesExpire_2 : ∃ (s : State) (t0 : Nat), s.lockoutEnd = some t0 :=
  ⟨tLocked, 30000000000, by decide +kernel⟩
theorem wit_SessionTimesExpire_3 : ∃ (s : State) (i : Nat), (s.sessAt i).super = true :=
  ⟨tReady, 0, by decide +kernel⟩
theorem wit_SessionTimesExpire_4 : ∃ (s : State) (i : Nat), 3 ≤ i ∧ (s.sessAt i).opened = true ∧ s.heldBy i = 0 ∧ (s.sessAt i).watches = [] :=
  ⟨tPeerSess, 3, by decide +kernel⟩
theorem wit_RoutedPhrasesWaitOrFail_1 : ∃ (s : State) (i : Nat) (n : Nat) (tag : Option String) (c : Bool) (x : String) (rest : List QEntry), s.routedFront i = some (n, tag, c, x, rest) ∧ ((s.sessAt i).reqcheck = true → c = true) ∧ s.peer.state = 1 ∧ (s.node n).present = true ∧ s.power.dstate = .ready :=
  ⟨tRouted, 0, 5, none, false, "GET TIME", [], by decide +kernel⟩
theorem wit_RoutedPhrasesWaitOrFail_2 : ∃ (s : State) (i : Nat) (n : Nat) (tag : Option String) (c : Bool) (x : String) (rest : List QEntry), s.routedFront i = some (n, tag, c, x, rest) ∧ ((s.sessAt i).reqcheck = true → c = true) ∧ (s.peer.state ≠ 1 ∨ (s.node n).present = false) ∧ rest = [] ∧ s.power.dstate = .ready :=
  ⟨tRoutedDown, 0, 5, none, false, "GET TIME", [], by decide +kernel⟩
theorem wit_RoutedSilenceIsNodeError_1 : ∃ (s : State) (i : Nat) (r : Routed), s.routed = [r] ∧ r.sess = i ∧ (s.sessAt i).opened = true ∧ (s.sessAt i).queue = [] :=
  ⟨tAwaiting, 0, ⟨0, 5, none, false, 0, 1⟩, by decide +kernel⟩
theorem wit_WatchesBeginAndEnd_1 : ∃ (s : State) (i : Nat) (p : Phrase) (r : NounRef) (k : Nat), p.noun = some r ∧ s.mayRun i p = true ∧ p.verb = .watch ∧ s.watchErrs i p = [] ∧ ((s.sessAt i).watches.length < 16 ∨ (s.watchOn i r).isSome = true) ∧ p.adv .once = false ∧ adverbTime p .until 0 86400000000 ≠ some 0 ∧ r.idx = .one k :=
  ⟨tWatching, 0, tPh .watch (some ⟨.odo, .one 2, ""⟩) [⟨"STATE", none, "STATE"⟩], ⟨.odo, .one 2, ""⟩, 2, by decide +kernel⟩
theorem wit_WatchesBeginAndEnd_2 : ∃ (s : State) (i : Nat) (p : Phrase) (r : NounRef), p.noun = some r ∧ s.mayRun i p = true ∧ p.verb = .watch ∧ s.watchErrs i p = [] ∧ adverbTime p .until 0 86400000000 = some 0 :=
  ⟨tWatching, 0, tPhA .watch (some ⟨.odo, .one 3, ""⟩) [] [⟨.until, some "0ms", "UNTIL=0ms"⟩], ⟨.odo, .one 3, ""⟩, by decide +kernel⟩
theorem wit_WatchesBeginAndEnd_3 : ∃ (s : State) (i : Nat) (p : Phrase) (r : NounRef) (w : Watch) (e : Nat), p.noun = some r ∧ s.watchOn i r = some w ∧ w.untilAt = some e :=
  ⟨tWatching, 0, tPh .watch (some ⟨.odo, .one 3, ""⟩) [], ⟨.odo, .one 3, ""⟩, tWatch, 5000000000, by decide +kernel⟩
theorem wit_WatchesDeliver_1 : ∃ (s : State) (i : Nat) (r : NounRef) (w : Watch) (l : KVs) (e : Nat), s.watchOn i r = some w ∧ (s.sessAt i).opened = true ∧ (s.sessAt i).owed = [] ∧ (s.sessAt i).lost = 0 ∧ i < 11 ∧ w.noun = .odo ∧ w.sub = "" ∧ w.every = some e ∧ ((s.advanceTo (w.lastAt + e)).watchLines i w).toOption = some [l] ∧ outRoom (s.sessAt i) (evLine (s.sessAt i) (w.nounText ++ " WATCH " ++ joinWith " " (kvText l))).length = true :=
  ⟨tWatching, 0, ⟨.odo, .one 3, ""⟩, tWatch, [("count", "0")], 1000000000, by decide +kernel⟩
theorem wit_WatchesDeliver_2 : ∃ (s : State) (i : Nat) (r : NounRef) (w : Watch) (l : KVs), s.watchOn i r = some w ∧ (s.sessAt i).opened = true ∧ (s.sessAt i).owed = [] ∧ (s.sessAt i).lost = 0 ∧ i < 11 ∧ w.noun = .odo ∧ w.sub = "" ∧ w.every = none ∧ w.lastErr = false ∧ s.watchDue i w = true ∧ ((s.advanceTo (w.lastAt + 10 * nsMs)).watchLines i w).toOption = some [l] ∧ (s.advanceTo (w.lastAt + 10 * nsMs)).watchDue i w = true ∧ outRoom (s.sessAt i) (evLine (s.sessAt i) (w.nounText ++ " WATCH " ++ joinWith " " (kvText l))).length = true :=
  ⟨tWatchingC, 0, ⟨.odo, .one 3, ""⟩, tWatchC, [("count", "0")], by decide +kernel⟩
theorem wit_ReadingPhrasesOnlyRead_1 : ∃ (s : State) (i : Nat) (k : Nat) (p : Phrase) (n : Noun), s.mayRun i p = true ∧ p.names .get n (some k) ∧ rowOf p = "GET_ATTRIBUTES" ∧ s.getAttrErrs i p n k = [] :=
  ⟨tReady, 0, 3, tPh .get (some ⟨.chan, .one 3, ""⟩), .chan, by decide +kernel⟩
theorem wit_ReadingPhrasesOnlyRead_2 : ∃ (s : State) (i : Nat) (k : Nat) (p : Phrase), s.mayRun i p = true ∧ p.names .get .odo (some k) ∧ p.attrs = [] ∧ p.adv .new = false ∧ s.unitErrs i p .odo (some k) = [] ∧ (s.odoAt k).snap.isSome = true :=
  ⟨tOdoSnap, 0, 3, tPh .get (some ⟨.odo, .one 3, ""⟩), by decide +kernel⟩
theorem wit_ReadingPhrasesOnlyRead_3 : ∃ (s : State) (i : Nat) (k : Nat) (p : Phrase), s.mayRun i p = true ∧ p.names .get .ssp (some k) ∧ p.attrs = [] ∧ p.adv .new = true ∧ s.unitErrs i p .ssp (some k) = [] ∧ (s.sspAt k).epoch ≠ 0 ∧ (s.sessAt i).epochs.find (.ssp, k, "") ≠ some (s.sspAt k).epoch :=
  ⟨tSspNew, 0, 1, tPhA .get (some ⟨.ssp, .one 1, ""⟩) [] [⟨.new, none, "NEW"⟩], by decide +kernel⟩
theorem wit_ReadingPhrasesOnlyRead_4 : ∃ (s : State) (i : Nat) (k : Nat) (p : Phrase), s.mayRun i p = true ∧ p.names .get .ssp (some k) ∧ p.attrs = [] ∧ p.adv .new = true ∧ s.unitErrs i p .ssp (some k) = [] ∧ (s.sessAt i).epochs.find (.ssp, k, "") = some (s.sspAt k).epoch :=
  ⟨tSspOld, 0, 1, tPhA .get (some ⟨.ssp, .one 1, ""⟩) [] [⟨.new, none, "NEW"⟩], by decide +kernel⟩
theorem wit_ReadingPhrasesOnlyRead_5 : ∃ (s : State) (i : Nat) (k : Nat) (p : Phrase) (n : Noun), s.mayRun i p = true ∧ p.names .showV n (some k) ∧ n ∉ [.aid, .gnss, .impl, .reg, .filter] ∧ s.unitErrs i p n (some k) = [] ∧ getErrs (specs n (some k) "") p = [] :=
  ⟨tReady, 0, 3, tPh .showV (some ⟨.chan, .one 3, ""⟩), .chan, by decide +kernel⟩
theorem wit_ReadingPhrasesOnlyRead_6 : ∃ (s : State) (i : Nat) (p : Phrase), s.mayRun i p = true ∧ p.verb = .help ∧ p.noun = none ∧ p.attrs = [] :=
  ⟨tReady, 0, tPh .help none, by decide +kernel⟩
theorem wit_SetStoresNamedAttributes_1 : ∃ (s : State) (i : Nat) (k : Nat) (p : Phrase), s.mayRun i p = true ∧ rowOf p = "SET_ATTRIBUTES" ∧ p.names .set .odo (some k) ∧ s.unitErrs i p .odo (some k) = [] ∧ (p.attrs.map AttrTok.name).Nodup ∧ setAttrErrs odoAttrs (s.sessAt i).super p = [] ∧ (s.newVal p odoAttrs .odo k "CHGDN").int < (s.newVal p odoAttrs .odo k "CHGUP").int ∧ (s.odoAt k).state = 0 :=
  ⟨tReady, 0, 3, tPh .set (some ⟨.odo, .one 3, ""⟩) [tAt "ZEROTIME" "100ms", tAt "CHGUP" "9000"], by decide +kernel⟩
theorem wit_SetStoresNamedAttributes_2 : ∃ (s : State) (i : Nat) (k : Nat) (p : Phrase), s.mayRun i p = true ∧ rowOf p = "SET_ATTRIBUTES" ∧ p.names .arm .chan (some k) ∧ s.unitErrs i p .chan (some k) = [] :=
  ⟨tReady, 0, 3, tPh .arm (some ⟨.chan, .one 3, ""⟩), by decide +kernel⟩
theorem wit_OwnershipAndLocks_1 : ∃ (s : State) (i : Nat) (p : Phrase) (n : Nat), s.mayRun i p = true ∧ (s.sessAt i).super = true ∧ n < 4 ∧ p.names .set .part (some n) ∧ setAttrErrs (partAttrs n) true p = [] ∧ s.ownErrs n p = [] :=
  ⟨tReady, 0, tPh .set (some ⟨.part, .one 2, ""⟩) [tAt "CHAN" "3-5", tAt "PIN" "7"], 2, by decide +kernel⟩
theorem wit_OwnershipAndLocks_2 : ∃ (s : State) (i : Nat) (p : Phrase) (v : String), s.mayRun i p = true ∧ (s.sessAt i).super = true ∧ p.names .set .device none ∧ (upper v = "ON" ∨ upper v = "OFF") ∧ s.ownlock = false ∧ p.attrs = [⟨"OWNLOCK", some v, "OWNLOCK=" ++ v⟩] :=
  ⟨tReady, 0, tPh .set (some ⟨.device, .none, ""⟩) [tAt "OWNLOCK" "ON"], "ON", by decide +kernel⟩
theorem wit_OwnershipAndLocks_3 : ∃ (s : State) (i : Nat) (p : Phrase) (v : String), s.mayRun i p = true ∧ (s.sessAt i).super = true ∧ p.names .set .device none ∧ (upper v = "ON" ∨ upper v = "OFF") ∧ s.pinlock = false ∧ p.attrs = [⟨"PINLOCK", some v, "PINLOCK=" ++ v⟩] :=
  ⟨tReady, 0, tPh .set (some ⟨.device, .none, ""⟩) [tAt "PINLOCK" "on"], "on", by decide +kernel⟩
theorem wit_OwnershipAndLocks_4 : ∃ (s : State) (i : Nat) (p : Phrase), s.mayRun i p = true ∧ (s.sessAt i).super = true ∧ p.names .set .device none ∧ setAttrErrs deviceAttrs true p = [] ∧ p.attrs.map AttrTok.name = ["SECPIN"] ∧ s.pinlock = false ∧ s.ownlock = false ∧ (∀ k ∈ secPins p, s.mayMove .pin k secureOwner = true) :=
  ⟨tReady, 0, tPh .set (some ⟨.device, .none, ""⟩) [tAt "SECPIN" "3,60-63"], by decide +kernel⟩
theorem wit_OwnershipAndLocks_5 : ∃ (s : State) (i : Nat) (p : Phrase), s.mayRun i p = true ∧ (s.sessAt i).super = true ∧ (p.names .set .device none ∧ s.ownlock = true ∧ p.attrs = [⟨"OWNLOCK", some "OFF", "OWNLOCK=OFF"⟩]) :=
  ⟨{ tReady with ownlock := true }, 0, tPh .set (some ⟨.device, .none, ""⟩) [tOwnlockOff], by decide +kernel⟩
theorem wit_KeyWrittenOnceAndNeverRead_1 : ∃ (s : State) (i : Nat) (p : Phrase) (w0 : Nat) (w1 : Nat) (w2 : Nat) (w3 : Nat), s.mayRun i p = true ∧ (w0 < 2 ^ 64 ∧ w1 < 2 ^ 64 ∧ w2 < 2 ^ 64 ∧ w3 < 2 ^ 64) ∧ p.names .set .key (some 0) ∧ (s.sessAt i).super = true ∧ s.key0 = none ∧ p.attrs.map AttrTok.name = ["W0", "W1", "W2", "W3"] ∧ p.attrs.map (fun a => (a.value.bind (parseVal (.hex 16))).map Val.int) = [some (w0 : Int), some (w1 : Int), some (w2 : Int), some (w3 : Int)] :=
  ⟨tTwoSupers, 0, tPh .set (some ⟨.key, .one 0, ""⟩) [tAt "W0" "0x1", tAt "W1" "0x2", tAt "W2" "0x3", tAt "W3" "0x4"], 1, 2, 3, 4, by decide +kernel⟩
theorem wit_KeyWrittenOnceAndNeverRead_2 : ∃ (s : State) (i : Nat) (p : Phrase), s.mayRun i p = true ∧ p.names .get .key (some 0) ∧ p.attrs = [] :=
  ⟨tKeyed, 0, tPh .get (some ⟨.key, .one 0, ""⟩), by decide +kernel⟩
theorem wit_StoppingAndResetting_1 : ∃ (s : State) (i : Nat) (n : Nat) (p : Phrase), n < 4 ∧ s.mayRun i p = true ∧ p.names .stop .part (some n) ∧ p.attrs = [] ∧ s.unitErrs i p .part (some n) = [] ∧ (s.partAt n).state = .running ∧ s.peer.nodeBinds = [] ∧ (∀ u, u < 56 → (s.unitAt u).direct = true → s.unitPresent u = true) :=
  ⟨tSspRun, 0, 0, tPh .stop (some ⟨.part, .one 0, ""⟩), by decide +kernel⟩
theorem wit_StoppingAndResetting_2 : ∃ (s : State) (i : Nat) (n : Nat) (p : Phrase), n < 4 ∧ s.mayRun i p = true ∧ p.names .reset .part (some n) ∧ p.attrs = [] ∧ s.unitErrs i p .part (some n) = [] ∧ (s.partAt n).state ≠ .resetting :=
  ⟨tSspRun, 0, 0, tPh .reset (some ⟨.part, .one 0, ""⟩), by decide +kernel⟩
theorem wit_StoppingAndResetting_3 : ∃ (s : State) (n : Nat), n < 4 ∧ (s.partAt n).state = .resetting ∧ (s.partAt n).pendFault = none ∧ (s.partAt n).wasLast = [] ∧ (∀ u, u < 56 → (s.unitAt u).held = false) :=
  ⟨tResetting, 0, by decide +kernel⟩
theorem wit_StoppingAndResetting_4 : ∃ (s : State) (i : Nat) (n : Nat) (p : Phrase), n < 4 ∧ s.mayRun i p = true ∧ p.names .reset .device none ∧ p.attrs = [] ∧ (s.sessAt i).super = true ∧ i < 3 :=
  ⟨tSspRun, 0, 0, tPh .reset (some ⟨.device, .none, ""⟩), by decide +kernel⟩
theorem wit_MotionFollowsSpeed_1 : ∃ (s : State) (n : Nat), n < 4 ∧ (s.implAt n).running = true ∧ (s.implAt n).stopDue = false :=
  ⟨tImpl, 0, by decide +kernel⟩
theorem wit_MotionFollowsSpeed_2 : ∃ (s : State) (n : Nat), n < 4 ∧ (s.implAt n).running = true ∧ (s.implAt n).stopDue = true :=
  ⟨tImplStop, 0, by decide +kernel⟩
theorem wit_PlannerTimersAct_1 : ∃ (s : State) (n : Nat) (k : Nat) (t0 : Nat), s.owner .sec k = n ∧ (s.implAt n).running = true ∧ (s.implAt n).stopAt = some t0 ∧ s.list .sec k "BIND" ≠ [0] ∧ s.word .sec k "STOP" = "CLOSE" ∧ (s.secAt k).stopDone = false ∧ (s.secAt k).unserved = none :=
  ⟨tImplOpen, 0, 0, 0, by decide +kernel⟩
theorem wit_PlannerTimersAct_2 : ∃ (s : State) (n : Nat) (t0 : Nat), n < 4 ∧ (s.implAt n).running = true ∧ (s.implAt n).lostAt = some t0 ∧ s.word .impl n "LOSTPOS" = "HOLD" ∧ (s.implAt n).lostDone = false :=
  ⟨tImplLost, 0, 0, by decide +kernel⟩
theorem wit_PlannerTimersAct_3 : ∃ (s : State) (n : Nat) (k : Nat), n < 4 ∧ (s.implAt n).laneEnd = some k ∧ (∀ m, m < 4 → m ≠ n → (s.implAt m).laneEnd = none ∧ (s.implAt m).running = false) ∧ (s.retired 10 = false ∧ s.retired 11 = false) ∧ s.power.dstate = .run :=
  ⟨tImplLane, 0, 1000000, by decide +kernel⟩
theorem wit_ImplementsStartAndStop_1 : ∃ (s : State) (i : Nat) (n : Nat) (p : Phrase), n < 4 ∧ s.mayRun i p = true ∧ p.names .start .impl (some n) ∧ p.attrs = [] ∧ s.unitErrs i p .impl (some n) = [] ∧ s.implStartErrs n p.nounTok = [] ∧ s.reserveRefused n = false ∧ s.remotes n = [] :=
  ⟨tImplReady, 0, 0, tPh .start (some ⟨.impl, .one 0, ""⟩), by decide +kernel⟩
theorem wit_ImplementsStartAndStop_2 : ∃ (s : State) (i : Nat) (n : Nat) (p : Phrase), n < 4 ∧ s.mayRun i p = true ∧ p.names .stop .impl (some n) ∧ p.attrs = [] ∧ s.unitErrs i p .impl (some n) = [] ∧ (s.implAt n).running = true ∧ (s.implAt n).bindWait = none ∧ p.adv .now = false :=
  ⟨tImpl, 0, 0, tPh .stop (some ⟨.impl, .one 0, ""⟩), by decide +kernel⟩
theorem wit_ImplementsStartAndStop_3 : ∃ (s : State) (i : Nat) (n : Nat) (p : Phrase), n < 4 ∧ s.mayRun i p = true ∧ p.names .stop .impl (some n) ∧ p.attrs = [] ∧ s.unitErrs i p .impl (some n) = [] ∧ (s.implAt n).running = true ∧ (s.implAt n).bindWait = none ∧ p.adv .now = true :=
  ⟨tImplOpen, 0, 0, tPhA .stop (some ⟨.impl, .one 0, ""⟩) [] [⟨.now, none, "NOW"⟩], by decide +kernel⟩
theorem wit_ImplementsStartAndStop_4 : ∃ (s : State) (n : Nat) (j : Nat) (t0 : Nat) (q : Phrase), n < 4 ∧ (s.implAt n).bindWait = some (j, t0) ∧ j < 3 ∧ (s.sessAt j).await = some q ∧ (s.sessAt j).opened = true ∧ (s.sessAt j).queue = [] ∧ (s.sessAt j).owed = [] :=
  ⟨tBindWait, 0, 0, 0, tPh .start (some ⟨.impl, .one 0, ""⟩), by decide +kernel⟩
theorem wit_InjectedSamplesAreTaken_1 : ∃ (s : State) (i : Nat) (n : Nat) (p : Phrase), s.mayRun i p = true ∧ p.names .set .impl (some n) "POS" ∧ s.unitErrs i p .impl (some n) = [] ∧ setAttrErrs (sampleAttrs true) (s.sessAt i).super p = [] ∧ (p.has "TOV" = true ↔ p.has "AGE" = false) ∧ (p.has "LAT" = true ∧ p.has "LON" = true ∧ p.has "FIX" = true) ∧ s.staleSample n true (s.phraseSample p true).tov = false ∧ (s.implAt n).running = true :=
  ⟨tImplExt, 0, 0, tPos "1000000", by decide +kernel⟩
theorem wit_InjectedSamplesAreTaken_2 : ∃ (s : State) (i : Nat) (n : Nat) (p : Phrase), s.mayRun i p = true ∧ p.names .set .impl (some n) "POS" ∧ s.unitErrs i p .impl (some n) = [] ∧ setAttrErrs (sampleAttrs true) (s.sessAt i).super p = [] ∧ (p.has "TOV" = true ∧ p.has "AGE" = false) ∧ (p.has "LAT" = true ∧ p.has "LON" = true ∧ p.has "FIX" = true) ∧ s.staleSample n true (s.phraseSample p true).tov = true :=
  ⟨tImplExt, 0, 0, tPos "2000", by decide +kernel⟩
theorem wit_InjectedSamplesAreTaken_3 : ∃ (s : State) (i : Nat) (n : Nat) (p : Phrase), s.mayRun i p = true ∧ p.names .set .impl (some n) "MOT" ∧ s.unitErrs i p .impl (some n) = [] ∧ setAttrErrs (sampleAttrs false) (s.sessAt i).super p = [] ∧ (p.has "TOV" = true ↔ p.has "AGE" = false) ∧ (p.has "HDG" = true ∨ p.has "YAW" = true ∨ p.has "SPD" = true) ∧ s.staleSample n false (s.phraseSample p false).tov = false ∧ (s.implAt n).running = true :=
  ⟨tImplExt, 0, 0, tPh .set (some ⟨.impl, .one 0, "MOT"⟩) [tAt "SPD" "1500", tAt "AGE" "10ms"], by decide +kernel⟩
theorem wit_InjectedSamplesAreTaken_4 : ∃ (s : State) (i : Nat) (n : Nat) (p : Phrase) (x : Sample), s.mayRun i p = true ∧ p.names .get .impl (some n) "MOT" ∧ p.attrs = [] ∧ s.accessErr i .get .impl (some n) = [] ∧ (s.implAt n).mot = some x :=
  ⟨tImplMot, 0, 0, tPh .get (some ⟨.impl, .one 0, "MOT"⟩), { spd := some 1500, tov := 990000000 }, by decide +kernel⟩
theorem wit_SectionSettingsAct_1 : ∃ (s : State) (i : Nat) (k : Nat) (p : Phrase), s.mayRun i p = true ∧ s.unitErrs i p .sec (some k) = [] ∧ setAttrErrs secAttrs (s.sessAt i).super p = [] ∧ p.names .set .sec (some k) ∧ p.attrs = [⟨"MANUAL", some "OFF", "MANUAL=OFF"⟩] ∧ (s.newVal p secAttrs .sec k "ONPCT").int ≤ (s.newVal p secAttrs .sec k "OFFPCT").int ∧ (s.implAt (s.owner .sec k)).running = true ∧ s.list .sec k "BIND" ≠ [0] ∧ (s.secAt k).unserved = none ∧ ((s.forced k).isNone = true ∨ (s.forced k).map Prod.fst = some 8) :=
  ⟨tImplOpen, 0, 0, tPh .set (some ⟨.sec, .one 0, ""⟩) [tAt "MANUAL" "OFF"], by decide +kernel⟩
theorem wit_SectionSettingsAct_2 : ∃ (s : State) (i : Nat) (k : Nat) (p : Phrase), s.mayRun i p = true ∧ s.unitErrs i p .sec (some k) = [] ∧ setAttrErrs secAttrs (s.sessAt i).super p = [] ∧ p.names .set .sec (some k) ∧ p.attrs.map AttrTok.name = ["ONPCT", "OFFPCT"] ∧ (s.newVal p secAttrs .sec k "ONPCT").int ≤ (s.newVal p secAttrs .sec k "OFFPCT").int :=
  ⟨tReady, 0, 0, tPh .set (some ⟨.sec, .one 0, ""⟩) [tAt "ONPCT" "300", tAt "OFFPCT" "300"], by decide +kernel⟩
theorem wit_SectionSettingsAct_3 : ∃ (s : State) (i : Nat) (k : Nat) (p : Phrase), s.mayRun i p = true ∧ s.unitErrs i p .sec (some k) = [] ∧ setAttrErrs secAttrs (s.sessAt i).super p = [] ∧ p.names .set .sec (some k) ∧ p.attrs.map AttrTok.name = ["ONPCT", "OFFPCT"] ∧ (s.newVal p secAttrs .sec k "OFFPCT").int < (s.newVal p secAttrs .sec k "ONPCT").int ∧ (s.implAt (s.owner .sec k)).running = false :=
  ⟨tReady, 0, 0, tPh .set (some ⟨.sec, .one 0, ""⟩) [tAt "ONPCT" "301", tAt "OFFPCT" "300"], by decide +kernel⟩
theorem wit_CommandsReachSections_1 : ∃ (s : State) (k : Nat) (h : Held) (u : Nat), (s.secAt k).unserved = none ∧ (s.secAt k).held = [h] ∧ h.on = false ∧ s.secUnit k = some u :=
  ⟨tHeldOff, 0, ⟨false, 7, 7⟩, 5, by decide +kernel⟩
theorem wit_CommandsReachSections_2 : ∃ (s : State) (k : Nat) (h : Held) (u : Nat), (s.secAt k).unserved = none ∧ (s.secAt k).held = [h] ∧ h.on = true ∧ s.secUnit k = some u :=
  ⟨tHeldOn, 0, ⟨true, 7, 7⟩, 5, by decide +kernel⟩
theorem wit_CommandsReachSections_3 : ∃ (s : State) (k : Nat) (e : Nat × Bool) (rest : List (Nat × Bool)), (s.secAt k).unserved = none ∧ (s.secAt k).effDue = e :: rest :=
  ⟨tEffDue, 0, (9, true), [], by decide +kernel⟩
theorem wit_CommandsReachSections_4 : ∃ (s : State) (k : Nat) (c : LeadCmd), (s.secAt k).unserved = none ∧ s.peer.sent = [c] ∧ c.sec = k ∧ c.applied = false ∧ c.now = false :=
  ⟨tSent, 0, ⟨5, 1, 0, true, false, 12000000, false, false, false⟩, by decide +kernel⟩
theorem wit_CellarMemoriesReportTheirState_1 : ∃ (s : State), s.cellar.init = true :=
  ⟨tInit, by decide +kernel⟩
theorem wit_CellarMemoriesReportTheirState_2 : ∃ (s : State) (q : ScrubRead), s.psReady = true ∧ q.passEnd = none :=
  ⟨tCellar, { layer := 1, te := 0, tn := 0, line := 5, addr := 320, errs := 2 }, by decide +kernel⟩
theorem wit_CellarMemoriesReportTheirState_3 : ∃ (s : State) (i : Nat) (p : Phrase), s.mayRun i p = true ∧ p.names .set .cellar none ∧ (s.sessAt i).super = true ∧ setAttrErrs cellarAttrs true p = [] ∧ p.attrs.map AttrTok.name = ["PSRAM", "COVSIZE"] ∧ (s.newVal p cellarAttrs .cellar 0 "PSRAM" = .n 64 ∧ s.norReady = false) ∧ s.regionErrs (.n 64) (s.newVal p cellarAttrs .cellar 0 "COVSIZE").int.toNat (s.nat .cellar 0 "RXSIZE") (s.nat .cellar 0 "STAGESIZE") (s.nat .trace 0 "TRACESIZE") (s.word .trace 0 "DEST") = [] :=
  ⟨tReady, 0, tPh .set (some ⟨.cellar, .none, ""⟩) [tAt "PSRAM" "64", tAt "COVSIZE" "20"], by decide +kernel⟩
theorem wit_CellarMemoriesReportTheirState_4 : ∃ (s : State) (i : Nat) (p : Phrase), s.mayRun i p = true ∧ p.names .reset .cellar none ∧ p.attrs = [] ∧ (s.sessAt i).super = true ∧ s.nounRetired .cellar 0 = false ∧ (∀ n, n < 4 → (s.implAt n).running = false) ∧ (∀ n, n < 8 → (s.prodAt n).state ≠ 1) ∧ s.mapBusy = false :=
  ⟨tCellar, 0, tPh .reset (some ⟨.cellar, .none, ""⟩), by decide +kernel⟩
theorem wit_StagingWritesStayInTheirWindow_1 : ∃ (s : State) (i : Nat) (l : Nat) (off : Nat) (d : List Nat) (p : Phrase), s.mayRun i p = true ∧ s.unitErrs i p .map (some l) = [] ∧ (s.sessAt i).part < 4 ∧ p.names .set .map (some l) ∧ p.attrs.map AttrTok.name = ["STAGE", "D"] ∧ (attrInt p "STAGE" 0 4294967295 = some (off : Int) ∧ attrVal p "D" (.bytes 1 64) = some (.l d)) ∧ s.winBytes < off + d.length :=
  ⟨tCellar, 0, 1, 524288, [1, 2], tPh .set (some ⟨.map, .one 1, ""⟩) [tAt "STAGE" "524288", tAt "D" "0x0102"], by decide +kernel⟩
theorem wit_StagingWritesStayInTheirWindow_2 : ∃ (s : State) (i : Nat) (l : Nat) (off : Nat) (d : List Nat) (p : Phrase), s.mayRun i p = true ∧ s.unitErrs i p .map (some l) = [] ∧ (s.sessAt i).part < 4 ∧ p.names .set .map (some l) ∧ p.attrs.map AttrTok.name = ["STAGE", "D"] ∧ (attrInt p "STAGE" 0 4294967295 = some (off : Int) ∧ attrVal p "D" (.bytes 1 64) = some (.l d)) ∧ off + d.length ≤ s.winBytes ∧ s.psReady = true ∧ (∀ b ∈ d, b < 256) :=
  ⟨tCellar, 0, 1, 524287, [5], tPh .set (some ⟨.map, .one 1, ""⟩) [tAt "STAGE" "524287", tAt "D" "0x05"], by decide +kernel⟩
theorem wit_StagingWritesStayInTheirWindow_3 : ∃ (s : State) (i : Nat) (l : Nat) (off : Nat) (p : Phrase) (te : Int) (tn : Int), s.mayRun i p = true ∧ s.unitErrs i p .map (some l) = [] ∧ (s.sessAt i).part < 4 ∧ p.names .load .map (some l) ∧ p.attrs.map AttrTok.name = ["TE", "TN", "STAGE"] ∧ (attrVal p "TE" (s.tileRange l) = some (.n te) ∧ attrVal p "TN" (s.tileRange l) = some (.n tn) ∧ attrInt p "STAGE" 0 4294967295 = some (off : Int)) ∧ (off + tileBytes l ≤ s.winBytes ∧ s.psReady = true ∧ s.mapBusy = false ∧ s.slotFree (coverLayer l) = true) ∧ (coverLayer l = true → (s.implAt l).running = false) ∧ (s.askHeavy 2).2 = some s.now :=
  ⟨tCellar, 0, 1, 0, tPh .load (some ⟨.map, .one 1, ""⟩) [tAt "TE" "-1", tAt "TN" "2", tAt "STAGE" "0"], -1, 2, by decide +kernel⟩
theorem wit_MapsAreReadAndCleared_1 : ∃ (s : State) (i : Nat) (l : Nat) (p : Phrase) (te : Int) (tn : Int) (off : Nat) (len : Nat), s.mayRun i p = true ∧ p.names .get .map (some l) ∧ s.unitErrs i p .map (some l) = [] ∧ p.attrs.map AttrTok.name = ["TE", "TN", "OFF", "LEN"] ∧ (attrVal p "TE" (s.tileRange l) = some (.n te) ∧ attrVal p "TN" (s.tileRange l) = some (.n tn)) ∧ (attrInt p "OFF" 0 ((tileBytes l - 1 : Nat) : Int) = some (off : Int) ∧ attrInt p "LEN" 1 64 = some (len : Int)) ∧ (off + len ≤ tileBytes l ∧ s.psReady = true ∧ s.poisonIn l te tn off len = false) :=
  ⟨tCellar, 0, 10, tPh .get (some ⟨.map, .one 10, ""⟩) [tAt "TE" "0", tAt "TN" "0", tAt "OFF" "6", tAt "LEN" "4"], 0, 0, 6, 4, by decide +kernel⟩
theorem wit_MapsAreReadAndCleared_2 : ∃ (s : State) (i : Nat) (l : Nat) (p : Phrase) (e : Int) (n : Int), s.mayRun i p = true ∧ p.names .get .map (some l) ∧ s.unitErrs i p .map (some l) = [] ∧ p.attrs.map AttrTok.name = ["E", "N"] ∧ (attrInt p "E" (-20000000) 20000000 = some e ∧ attrInt p "N" (-20000000) 20000000 = some n) ∧ (s.psReady = true ∧ s.cellar.poison = []) :=
  ⟨tCellar, 0, 10, tPh .get (some ⟨.map, .one 10, ""⟩) [tAt "E" "1500", tAt "N" "200"], 1500, 200, by decide +kernel⟩
theorem wit_MapsAreReadAndCleared_3 : ∃ (s : State) (i : Nat) (l : Nat) (p : Phrase), s.mayRun i p = true ∧ p.names .reset .map (some l) ∧ p.attrs = [] ∧ s.unitErrs i p .map (some l) = [] ∧ (l < 4 ∨ 10 ≤ l) ∧ (if coverLayer l then (s.implAt l).running = false else (s.prodAt (l - 10)).state ≠ 1) ∧ s.mapBusy = false :=
  ⟨tCellar, 0, 10, tPh .reset (some ⟨.map, .one 10, ""⟩), by decide +kernel⟩
theorem wit_MapsAreReadAndCleared_4 : ∃ (s : State) (i : Nat) (p : Phrase), s.mayRun i p = true ∧ p.names .reset .map none ∧ p.attrs = [] ∧ (s.sessAt i).super = true ∧ (s.nounRetired .map 0 = false ∧ s.anyImpl = false ∧ s.mapBusy = false) :=
  ⟨tCellar, 0, tPh .reset (some ⟨.map, .none, ""⟩), by decide +kernel⟩
theorem wit_SavedSetCopies_1 : ∃ (s : State) (i : Nat) (p : Phrase), s.mayRun i p = true ∧ p.names .save .map none ∧ p.attrs = [] ∧ (s.sessAt i).super = true ∧ (s.nounRetired .map 0 = false ∧ s.norReady = true ∧ s.psReady = true ∧ s.anyImpl = false ∧ s.mapBusy = false) ∧ s.norNeed ≤ s.norRest ∧ (s.askHeavy 2).2.isSome = true :=
  ⟨tCellar, 0, tPh .save (some ⟨.map, .none, ""⟩), by decide +kernel⟩
theorem wit_SavedSetCopies_2 : ∃ (s : State) (i : Nat) (p : Phrase) (m : SavedSet), s.mayRun i p = true ∧ p.names .load .map none ∧ p.attrs = [⟨"SRC", some "NOR", "SRC=NOR"⟩] ∧ (s.sessAt i).super = true ∧ (s.nounRetired .map 0 = false ∧ s.norReady = true ∧ s.psReady = true ∧ s.anyImpl = false ∧ s.mapBusy = false) ∧ (s.cellar.saved = some m ∧ s.savedFits m = true) ∧ (s.askHeavy 2).2.isSome = true :=
  ⟨tCellar, 0, tPh .load (some ⟨.map, .none, ""⟩) [tAt "SRC" "NOR"], {}, by decide +kernel⟩
theorem wit_SavedSetCopies_3 : ∃ (s : State) (m : SavedSet) (j : Nat), s.cellar.copy = some (true, m, j) :=
  ⟨{ tCellar with cellar := { tCellar.cellar with copy := some (true, {}, 0) } }, {}, 0, by decide +kernel⟩
theorem wit_SavedSetCopies_4 : ∃ (s : State) (m : SavedSet) (j : Nat), s.cellar.copy = some (false, m, j) ∧ m.tiles.length ≤ s.slots false ∧ (m.tiles.all fun x => !coverLayer x.1.1) = true :=
  ⟨{ tCellar with cellar := { tCellar.cellar with copy := some (false, tSaved, 0) } }, tSaved, 0, by decide +kernel⟩
theorem wit_AsAppliedLogIsKept_1 : ∃ (s : State), (∀ n, n < 4 → (s.implAt n).running = false) :=
  ⟨tCellar, by decide +kernel⟩
theorem wit_AsAppliedLogIsKept_2 : ∃ (s : State) (e : Nat), s.cellar.logMerge = some e :=
  ⟨{ tCellar with cellar := { tCellar.cellar with logMerge := some 7 }, secs := [(3, { logDue := true })] }, 7, by decide +kernel⟩
theorem wit_AsAppliedLogIsKept_3 : ∃ (s : State) (r : LogRec) (rest : List LogRec), s.cellar.logPend = r :: rest ∧ (s.norReady = true ∧ s.cellar.logLost = 0) ∧ s.cellar.logRing.length < s.logSlots :=
  ⟨{ tCellar with cellar := { tCellar.cellar with logPend := [{ prod := 3 }] } }, { prod := 3 }, [], by decide +kernel⟩
theorem wit_AsAppliedLogIsKept_4 : ∃ (s : State) (i : Nat) (p : Phrase) (f : Nat) (c : Nat), s.mayRun i p = true ∧ p.names .get .log none ∧ p.attrs.map AttrTok.name = ["FIRST", "COUNT"] ∧ (attrInt p "FIRST" 0 4294967295 = some (f : Int) ∧ attrInt p "COUNT" 1 32 = some (c : Int) ∧ s.norReady = true ∧ s.accessErr i .get .log none = []) :=
  ⟨tLogged, 0, tPh .get (some ⟨.log, .none, ""⟩) [tAt "FIRST" "510", tAt "COUNT" "4"], 510, 4, by decide +kernel⟩
theorem wit_AsAppliedLogIsKept_5 : ∃ (s : State) (i : Nat) (p : Phrase), s.mayRun i p = true ∧ p.names .reset .log none ∧ p.attrs = [] ∧ ((s.sessAt i).super = true ∧ s.nounRetired .log 0 = false ∧ s.norReady = true) :=
  ⟨tLogged, 0, tPh .reset (some ⟨.log, .none, ""⟩), by decide +kernel⟩
theorem wit_LarderBlocksAndProfiles_1 : ∃ (r : LarderRead), r.lost = none :=
  ⟨{ corrected := 3 }, by decide +kernel⟩
theorem wit_LarderBlocksAndProfiles_2 : ∃ (s : State) (b : Nat), b < 2048 ∧ b ∉ s.larder.bad :=
  ⟨tReady, 2047, by decide +kernel⟩
theorem wit_LarderBlocksAndProfiles_3 : ∃ (s : State) (i : Nat) (n : Nat) (p : Phrase), s.mayRun i p = true ∧ p.names .save .profile (some n) ∧ ((s.sessAt i).super = true ∧ p.attrs = [⟨"NAME", some "Corn8", "NAME=Corn8"⟩]) :=
  ⟨{ tReady with cfg := [(⟨.odo, 1, "", "MINT"⟩, .n 5), (⟨.map, 0, "", "ORGLAT"⟩, .n 5)], own := [((.chan, 3), 2)] }, 0, 5, tPh .save (some ⟨.profile, .one 5, ""⟩) [tAt "NAME" "Corn8"], by decide +kernel⟩
theorem wit_LarderBlocksAndProfiles_4 : ∃ (s : State) (i : Nat) (p : Phrase), s.mayRun i p = true ∧ p.names .set .profile none ∧ ((s.sessAt i).super = true ∧ p.attrs = [⟨"BOOT", some "5", "BOOT=5"⟩]) :=
  ⟨tReady, 0, tPh .set (some ⟨.profile, .none, ""⟩) [tAt "BOOT" "5"], by decide +kernel⟩
theorem wit_LarderBlocksAndProfiles_5 : ∃ (s : State) (i : Nat) (n : Nat) (p : Phrase), s.mayRun i p = true ∧ p.names .reset .profile (some n) ∧ ((s.sessAt i).super = true ∧ p.attrs = []) :=
  ⟨tProfile, 0, 5, tPh .reset (some ⟨.profile, .one 5, ""⟩), by decide +kernel⟩
theorem wit_LarderBlocksAndProfiles_6 : ∃ (s : State) (i : Nat) (n : Nat) (p : Phrase) (q : Profile), s.mayRun i p = true ∧ p.names .load .profile (some n) ∧ ((s.sessAt i).super = true ∧ p.attrs = []) ∧ (s.slot n = some q ∧ q.corrupt = false ∧ s.wholeErrs q true = []) ∧ (movedUnits s.own q.own = []) ∧ (∀ u ∈ enablePorts, ((s.applyWhole q).isOn u.1 u.2 "ENABLE" = s.isOn u.1 u.2 "ENABLE")) :=
  ⟨tProfile, 0, 5, tPh .load (some ⟨.profile, .one 5, ""⟩), { cfg := [(⟨.odo, 1, "", "CHGUP"⟩, .n 600)] }, by decide +kernel⟩
theorem wit_MeteringCycleDrivesOutputs_1 : ∃ (s : State) (p : Nat), p < 8 ∧ (s.prodAt p).state = 1 ∧ (∀ q, q < 8 → q ≠ p → (s.prodAt q).state ≠ 1) ∧ (s.prodAt p).stopDue = false ∧ s.word .prod p "BASIS" = "TIME" ∧ s.nat .prod p "TARGET" = 0 ∧ s.word .prod p "IDLEOUT" = "ZERO" :=
  ⟨tProdIdle, 2, by decide +kernel⟩
theorem wit_MeteringCycleDrivesOutputs_2 : ∃ (s : State) (p : Nat), p < 8 ∧ (s.prodAt p).state = 1 ∧ (∀ q, q < 8 → q ≠ p → (s.prodAt q).state ≠ 1) ∧ (s.prodAt p).stopDue = false ∧ s.word .prod p "OUT" ≠ "NOZZLE" ∧ s.int .prod p "UMIN" ≤ s.int .prod p "UMAX" ∧ (s.prodAt p).lost = false :=
  ⟨tProdRun, 2, by decide +kernel⟩
theorem wit_MeteringCycleDrivesOutputs_3 : ∃ (s : State) (p : Nat), p < 8 ∧ (s.prodAt p).state = 1 ∧ (∀ q, q < 8 → q ≠ p → (s.prodAt q).state ≠ 1) ∧ (s.prodAt p).stopDue = true :=
  ⟨{ tProdRun with prods := [(2, { state := 1, stopDue := true })] }, 2, by decide +kernel⟩
theorem wit_ProductsStartStopAndLoseFeedback_1 : ∃ (s : State) (i : Nat) (k : Nat) (p : Phrase), k < 8 ∧ s.mayRun i p = true ∧ p.names .start .prod (some k) ∧ p.attrs = [] ∧ s.unitErrs i p .prod (some k) = [] ∧ s.outputErrs k p.nounTok = [] ∧ s.fbErrs k p.nounTok = [] ∧ (s.word .prod k "BASIS" = "AREA" → s.carriers k ≠ []) ∧ s.nat .prod k "DUTYMIN" ≤ s.nat .prod k "DUTYMAX" ∧ (s.prodAt k).state = 0 ∧ (s.partAt (s.owner .prod k)).state ≠ .faulted :=
  ⟨tProdReady, 0, 2, tPh .start (some ⟨.prod, .one 2, ""⟩), by decide +kernel⟩
theorem wit_ProductsStartStopAndLoseFeedback_2 : ∃ (s : State) (i : Nat) (k : Nat) (p : Phrase), k < 8 ∧ s.mayRun i p = true ∧ p.names .stop .prod (some k) ∧ p.attrs = [] ∧ s.unitErrs i p .prod (some k) = [] ∧ (s.prodAt k).state = 1 ∧ p.adv .now = false :=
  ⟨tProdRun, 0, 2, tPh .stop (some ⟨.prod, .one 2, ""⟩), by decide +kernel⟩
theorem wit_ProductsStartStopAndLoseFeedback_3 : ∃ (s : State) (i : Nat) (k : Nat) (p : Phrase), k < 8 ∧ s.mayRun i p = true ∧ p.names .stop .prod (some k) ∧ p.attrs = [] ∧ s.unitErrs i p .prod (some k) = [] ∧ p.adv .now = true ∧ (s.prodAt k).state ≠ 2 :=
  ⟨tProdRun, 0, 2, tPhA .stop (some ⟨.prod, .one 2, ""⟩) [] [⟨.now, none, "NOW"⟩], by decide +kernel⟩
theorem wit_ProductsStartStopAndLoseFeedback_4 : ∃ (s : State) (i : Nat) (k : Nat) (p : Phrase), k < 8 ∧ s.mayRun i p = true ∧ p.names .set .prod (some k) ∧ p.attrs.map AttrTok.name = ["TARGET"] ∧ s.unitErrs i p .prod (some k) = [] ∧ setAttrErrs prodAttrs (s.sessAt i).super p = [] ∧ p.adv .now = false :=
  ⟨tProdRun, 0, 2, tPh .set (some ⟨.prod, .one 2, ""⟩) [tAt "TARGET" "777"], by decide +kernel⟩
theorem wit_ProductsStartStopAndLoseFeedback_5 : ∃ (s : State) (k : Nat) (t0 : Nat) (m : Nat), k < 8 ∧ (s.prodAt k).silent = some t0 ∧ s.natOpt .prod k "FBODO" = some m ∧ (s.prodAt k).state = 1 ∧ (s.prodAt k).lost = false ∧ s.word .prod k "FB" = "ODO" ∧ s.word .prod k "FBLOSS" ≠ "CLOSE" :=
  ⟨tProdFb, 2, 5, 1, by decide +kernel⟩
theorem wit_CountingEdgesCount_1 : ∃ (s : State) (u : Nat) (ts : Nat), u < 8 ∧ (s.odoAt u).state ≠ 0 ∧ s.nounRetired .odo u = false ∧ s.word .odo u "SRC" = "PINS" ∧ (s.word .odo u "MODE" = "STEPDIR" ∧ s.word .odo u "DIRIN" = "PIN" ∧ s.word .odo u "DIRPOL" = "HIGHUP") ∧ tooClose (s.odoAt u).lastA ts = false :=
  ⟨tOdoRun, 3, 5000, by decide +kernel⟩
theorem wit_CountingEdgesCount_2 : ∃ (s : State) (u : Nat) (ts : Nat), u < 8 ∧ (s.odoAt u).state ≠ 0 ∧ s.nounRetired .odo u = false ∧ s.word .odo u "SRC" = "PINS" ∧ s.word .odo u "MODE" = "UPDOWN" ∧ tooClose (s.odoAt u).lastB ts = false :=
  ⟨{ tOdoRun with cfg := [(⟨.odo, 3, "", "MODE"⟩, .w "UPDOWN")], odos := [(3, { state := 1, count := -2147483648 })] }, 3, 5000, by decide +kernel⟩
theorem wit_CountingEdgesCount_3 : ∃ (s : State) (u : Nat) (ts : Nat), u < 8 ∧ (s.odoAt u).state ≠ 0 ∧ s.nounRetired .odo u = false ∧ s.word .odo u "SRC" = "PINS" ∧ s.word .odo u "MODE" = "UPDOWN" ∧ (tooClose (s.odoAt u).lastA ts = false ∧ tooClose (s.odoAt u).lastB ts = false) :=
  ⟨{ tOdoRun with cfg := [(⟨.odo, 3, "", "MODE"⟩, .w "UPDOWN")] }, 3, 5000, by decide +kernel⟩
theorem wit_CountingEdgesCount_4 : ∃ (s : State) (u : Nat) (ts : Nat) (e0 : Nat), u < 8 ∧ (s.odoAt u).state ≠ 0 ∧ s.nounRetired .odo u = false ∧ s.word .odo u "SRC" = "PINS" ∧ (s.word .odo u "MODE" = "STEPDIR" ∧ s.word .odo u "DIRIN" = "PIN" ∧ s.word .odo u "DIRPOL" = "HIGHUP") ∧ tooClose (s.odoAt u).lastA ts = false ∧ ((s.odoAt u).lastEdge = some e0 ∧ (s.odoAt u).down = false) :=
  ⟨{ tOdoRun with odos := [(3, { state := 1, lastEdge := some 1000, rate := 7000 })] }, 3, 5000, 1000, by decide +kernel⟩
theorem wit_CountingEdgesCount_5 : ∃ (s : State) (u : Nat) (ts : Nat) (e : Entry), u < 8 ∧ (s.odoAt u).state ≠ 0 ∧ s.nounRetired .odo u = false ∧ s.word .odo u "SRC" = "PINS" ∧ (s.word .odo u "MODE" = "STEPDIR" ∧ s.word .odo u "DIRIN" = "PIN" ∧ s.word .odo u "DIRPOL" = "HIGHUP") ∧ tooClose (s.odoAt u).lastA ts = false ∧ (s.odoAt u).entries = [e] ∧ (e.hw = true ∧ e.value = (s.odoAt u).count + 1 ∧ e.value < 2147483648 ∧ e.dir ≠ 2 ∧ e.act = 1 ∧ e.pulse = true) ∧ -2147483648 ≤ (s.odoAt u).count :=
  ⟨{ tOdoRun with odos := [(3, { state := 1, count := 9, entries := [{ value := 10, hw := true, pulse := true, tag := 4 }] })] }, 3, 5000, { value := 10, hw := true, pulse := true, tag := 4 }, by decide +kernel⟩
theorem wit_CountingEdgesCount_6 : ∃ (s : State) (u : Nat) (ts : Nat) (h : Bool), u < 8 ∧ (s.odoAt u).state ≠ 0 ∧ s.nounRetired .odo u = false ∧ s.word .odo u "SRC" = "PINS" ∧ s.countAct u (.a h) ≠ .nothing ∧ tooClose (s.odoAt u).lastA ts = true :=
  ⟨{ tOdoRun with odos := [(3, { state := 1, lastA := some 4801 })] }, 3, 5000, true, by decide +kernel⟩
theorem wit_IndexEdgesPresetOrVeto_1 : ∃ (s : State) (u : Nat), u < 8 ∧ (s.odoAt u).state = 1 ∧ s.nounRetired .odo u = false ∧ (s.word .odo u "IDXMODE" = "ALWAYS" ∨ s.word .odo u "IDXMODE" = "ARMED-ONCE" ∧ (s.odoAt u).armed = true) ∧ idxSlips (s.odoAt u) (s.word .odo u "IDXMODE") (s.int .odo u "IDXEXP") (s.int .odo u "IDXVAL") (s.natOpt .odo u "IDXTOL") = false :=
  ⟨tOdoIdx, 3, by decide +kernel⟩
theorem wit_IndexEdgesPresetOrVeto_2 : ∃ (s : State) (u : Nat), u < 8 ∧ (s.odoAt u).state = 1 ∧ s.nounRetired .odo u = false ∧ s.word .odo u "IDXMODE" = "ARMED-ONCE" ∧ (s.odoAt u).armed = true ∧ idxSlips (s.odoAt u) "ARMED-ONCE" (s.int .odo u "IDXEXP") (s.int .odo u "IDXVAL") (s.natOpt .odo u "IDXTOL") = true ∧ s.isOn .odo u "VETO" = true :=
  ⟨tOdoVeto, 3, by decide +kernel⟩
theorem wit_IndexEdgesPresetOrVeto_3 : ∃ (s : State) (i : Nat) (u : Nat) (p : Phrase), u < 8 ∧ (s.odoAt u).state = 1 ∧ s.mayRun i p = true ∧ p.names .arm .odo (some u) "IDX" ∧ p.attrs = [] ∧ s.unitErrs i p .odo (some u) = [] ∧ s.word .odo u "IDXMODE" = "ARMED-ONCE" :=
  ⟨tOdoVeto, 0, 3, tPh .arm (some ⟨.odo, .one 3, "IDX"⟩), by decide +kernel⟩
theorem wit_IndexEdgesPresetOrVeto_4 : ∃ (s : State) (i : Nat) (u : Nat) (p : Phrase), u < 8 ∧ (s.odoAt u).state = 1 ∧ s.mayRun i p = true ∧ p.names .disarm .odo (some u) "IDX" ∧ p.attrs = [] ∧ s.unitErrs i p .odo (some u) = [] :=
  ⟨tOdoVeto, 0, 3, tPh .disarm (some ⟨.odo, .one 3, "IDX"⟩), by decide +kernel⟩
theorem wit_IndexEdgesPresetOrVeto_5 : ∃ (s : State) (i : Nat) (u : Nat) (p : Phrase) (c : Int) (z : Bool), u < 8 ∧ (s.odoAt u).state = 1 ∧ s.mayRun i p = true ∧ p.names .get .odo (some u) "IDX" ∧ (p.attrs = [] ∧ p.adv .new = false) ∧ s.accessErr i .get .odo (some u) = [] ∧ (s.odoAt u).idx = some (c, z) :=
  ⟨tOdoVeto, 0, 3, tPh .get (some ⟨.odo, .one 3, "IDX"⟩), 40, false, by decide +kernel⟩
theorem wit_OdometryTimesAct_1 : ∃ (u : Nat), u < 8 :=
  ⟨3, by decide +kernel⟩
theorem wit_OdometryTimesAct_2 : ∃ (s : State) (u : Nat), u < 8 ∧ (s.odoAt u).state ≠ 0 ∧ (s.odoAt u).window = true ∧ (2 ≤ (s.odoAt u).gateN ∧ (s.odoAt u).gateT1 < (s.odoAt u).gateTn) :=
  ⟨{ tOdoRun with odos := [(3, { state := 1, window := true, gateN := 3, gateT1 := 1000, gateTn := 5000 })] }, 3, by decide +kernel⟩
theorem wit_OdometryTimesAct_3 : ∃ (s : State) (u : Nat) (e0 : Nat), u < 8 ∧ (s.odoAt u).state ≠ 0 ∧ (s.odoAt u).lastEdge = some e0 :=
  ⟨{ tOdoRun with odos := [(3, { state := 1, lastEdge := some 1000, rate := 7000 })] }, 3, 1000, by decide +kernel⟩
theorem wit_OdometryTimesAct_4 : ∃ (s : State) (u : Nat) (e : Entry), u < 8 ∧ (s.odoAt u).entries = [e] ∧ (e.hw = false ∧ e.passed = false) :=
  ⟨{ tOdoRun with odos := [(3, { state := 1, entries := [{ value := 10 }] })] }, 3, { value := 10 }, by decide +kernel⟩
theorem wit_OdometryTimesAct_5 : ∃ (s : State) (u : Nat), u < 8 ∧ (s.odoAt u).cmpOn = true :=
  ⟨{ tOdoRun with odos := [(3, { state := 1, cmpOn := true, cmpEnd := 77 })] }, 3, by decide +kernel⟩
theorem wit_OdometryTimesAct_6 : ∃ (s : State) (u : Nat) (ref : Int), u < 8 ∧ (s.odoAt u).state = 1 ∧ (∀ m, m < 8 → m ≠ u → (s.odoAt m).state = 0) ∧ s.list .odo u "PLAUS" = [2] ∧ (s.tick "PLAUS" 0 (10 * nsMs)).plausRef u = some ref ∧ plausViolates (meanSpeed (s.odoAt u).speeds) ref (s.nat .odo u "PLAUSTOL") (s.nat .odo u "PLAUSMIN") false = true :=
  ⟨tOdoPlaus, 3, 0, by decide +kernel⟩
theorem wit_OdometryStartsAndStops_1 : ∃ (s : State) (i : Nat) (u : Nat) (p : Phrase), u < 8 ∧ s.mayRun i p = true ∧ s.unitErrs i p .odo (some u) = [] ∧ p.names .start .odo (some u) ∧ p.attrs = [] ∧ s.odoStartErrs u = [] ∧ (s.odoAt u).state = 0 ∧ (s.partAt (s.owner .odo u)).state ≠ .faulted :=
  ⟨tOdoReady, 0, 3, tPh .start (some ⟨.odo, .one 3, ""⟩), by decide +kernel⟩
theorem wit_OdometryStartsAndStops_2 : ∃ (s : State) (i : Nat) (u : Nat) (p : Phrase), u < 8 ∧ s.mayRun i p = true ∧ s.unitErrs i p .odo (some u) = [] ∧ p.names .stop .odo (some u) ∧ p.attrs = [] ∧ (s.odoDrives u = false ∧ s.odoFeeds u = false) ∧ (s.odoAt u).state = 1 :=
  ⟨tOdoRun, 0, 3, tPh .stop (some ⟨.odo, .one 3, ""⟩), by decide +kernel⟩
theorem wit_OdometryStartsAndStops_3 : ∃ (s : State) (i : Nat) (u : Nat) (p : Phrase) (v : Nat), u < 8 ∧ s.mayRun i p = true ∧ s.unitErrs i p .odo (some u) = [] ∧ p.names .set .odo (some u) ∧ p.attrs = [⟨"MPC", some "PROPOSED", "MPC=PROPOSED"⟩] ∧ (s.odoAt u).state = 0 ∧ (s.odoAt u).prop = some v ∧ s.int .odo u "CHGDN" < s.int .odo u "CHGUP" :=
  ⟨{ tReady with odos := [(3, { prop := some 9990000 })] }, 0, 3, tPh .set (some ⟨.odo, .one 3, ""⟩) [tAt "MPC" "PROPOSED"], 9990000, by decide +kernel⟩
theorem wit_CompareListIsEdited_1 : ∃ (s : State) (i : Nat) (u : Nat) (p : Phrase) (v : Int), u < 8 ∧ s.mayRun i p = true ∧ s.accessErr i .get .cmp (some u) = [] ∧ p.names .arm .cmp (some u) ∧ p.attrs.map AttrTok.name = ["VALUE"] ∧ s.unitErrs i p .cmp (some u) = [] ∧ attrVal p "VALUE" (.int (-2147483648) 2147483647) = some (.n v) ∧ (s.odoAt u).state = 1 ∧ s.cmpFull u = false :=
  ⟨tOdoRun, 0, 3, tPh .arm (some ⟨.cmp, .one 3, ""⟩) [tAt "VALUE" "-5"], -5, by decide +kernel⟩
theorem wit_CompareListIsEdited_2 : ∃ (s : State) (i : Nat) (u : Nat) (p : Phrase), u < 8 ∧ s.mayRun i p = true ∧ s.accessErr i .get .cmp (some u) = [] ∧ p.names .disarm .cmp (some u) ∧ p.attrs = [] ∧ s.unitErrs i p .cmp (some u) = [] :=
  ⟨tOdoCmp, 0, 3, tPh .disarm (some ⟨.cmp, .one 3, ""⟩), by decide +kernel⟩
theorem wit_CompareListIsEdited_3 : ∃ (s : State) (i : Nat) (u : Nat) (p : Phrase), u < 8 ∧ s.mayRun i p = true ∧ s.accessErr i .get .cmp (some u) = [] ∧ p.names .get .cmp (some u) ∧ p.attrs = [] :=
  ⟨tOdoCmp, 0, 3, tPh .get (some ⟨.cmp, .one 3, ""⟩), by decide +kernel⟩
theorem wit_CompareListIsEdited_4 : ∃ (s : State) (i : Nat) (u : Nat) (p : Phrase) (e : Entry), u < 8 ∧ s.mayRun i p = true ∧ s.accessErr i .get .cmp (some u) = [] ∧ p.names .get .cmp (some u) ∧ p.attrs = [⟨"LIST", none, "LIST"⟩] ∧ (s.odoAt u).entries.filter Entry.host = [e] :=
  ⟨tOdoCmp, 0, 3, tPh .get (some ⟨.cmp, .one 3, ""⟩) [⟨"LIST", none, "LIST"⟩], { value := 12, host := true, order := 1, hw := true, tag := 7 }, by decide +kernel⟩
theorem wit_SerialSensorsLatchWords_1 : ∃ (s : State) (q : Nat), q < 2 ∧ (s.sspAt q).running = true ∧ (s.sspAt q).cycle = none :=
  ⟨tSsp, 1, by decide +kernel⟩
theorem wit_SerialSensorsLatchWords_2 : ∃ (s : State) (q : Nat) (c0 : Nat), q < 2 ∧ (s.sspAt q).running = true ∧ (s.sspAt q).cycle = some c0 :=
  ⟨tSspBusy, 1, 5000, by decide +kernel⟩
theorem wit_SerialSensorsLatchWords_3 : ∃ (s : State) (q : Nat) (c0 : Nat), q < 2 ∧ (s.sspAt q).cycle = some c0 :=
  ⟨tSspBusy, 1, 5000, by decide +kernel⟩
theorem wit_SerialSensorsLatchWords_4 : ∃ (s : State) (q : Nat) (c0 : Nat) (bs : List Bool), q < 2 ∧ (s.sspAt q).cycle = some c0 ∧ s.word .ssp q "CHK" = "NONE" ∧ (bs.length = s.nat .ssp q "WORDBITS" ∧ s.nat .ssp q "FREQ" ≠ 0) ∧ s.natOpt .ssp q "ERRBIT" = none :=
  ⟨tSspBusy, 1, 5000, [true, false, true, true, false, true, true, true], by decide +kernel⟩
theorem wit_SerialSensorsLatchWords_5 : ∃ (s : State) (i : Nat) (q : Nat) (p : Phrase), q < 2 ∧ s.mayRun i p = true ∧ p.names .start .ssp (some q) ∧ p.attrs = [] ∧ s.unitErrs i p .ssp (some q) = [] ∧ s.funcErrs ["SSPCLK" ++ toString q, "SSPDAT" ++ toString q] [] = [] ∧ (s.word .ssp q "CHK" = "NONE" ∧ s.natOpt .ssp q "ERRBIT" = none ∧ s.nat .ssp q "POSLSB" ≤ s.nat .ssp q "POSMSB" ∧ s.nat .ssp q "POSMSB" < s.nat .ssp q "WORDBITS") ∧ ((s.sspAt q).running = false ∧ (s.partAt (s.owner .ssp q)).state ≠ .faulted) :=
  ⟨tSspReady, 0, 1, tPh .start (some ⟨.ssp, .one 1, ""⟩), by decide +kernel⟩
theorem wit_SerialSensorsLatchWords_6 : ∃ (s : State) (i : Nat) (q : Nat) (p : Phrase), q < 2 ∧ s.mayRun i p = true ∧ p.names .stop .ssp (some q) ∧ p.attrs = [] ∧ s.unitErrs i p .ssp (some q) = [] :=
  ⟨tSspBusy, 0, 1, tPh .stop (some ⟨.ssp, .one 1, ""⟩), by decide +kernel⟩
theorem wit_ReceiverAndAntenna_1 : ∃ (s : State) (i : Nat) (p : Phrase), s.mayRun i p = true ∧ p.names .start .gnss none ∧ p.attrs = [] ∧ s.unitErrs i p .gnss none = [] ∧ s.nat .gnss 0 "POSRATE" % s.nat .gnss 0 "NMEARATE" = 0 ∧ s.gnss.running = false :=
  ⟨tReady, 0, tPh .start (some ⟨.gnss, .none, ""⟩), by decide +kernel⟩
theorem wit_ReceiverAndAntenna_2 : ∃ (s : State) (i : Nat) (p : Phrase), s.mayRun i p = true ∧ p.names .stop .gnss none ∧ p.attrs = [] ∧ s.unitErrs i p .gnss none = [] ∧ s.gnss.running = true :=
  ⟨tGnss, 0, tPh .stop (some ⟨.gnss, .none, ""⟩), by decide +kernel⟩
theorem wit_ReceiverAndAntenna_3 : ∃ (s : State) (i : Nat) (n : Nat) (p : Phrase), n < 4 ∧ s.mayRun i p = true ∧ p.names .set .gnss (some n) ∧ s.unitErrs i p .gnss (some n) = [] ∧ (p.attrs.map AttrTok.name).Nodup ∧ setAttrErrs (gnssAttrs true) (s.sessAt i).super p = [] :=
  ⟨tGnss, 0, 2, tPh .set (some ⟨.gnss, .one 2, ""⟩) [tAt "OUT" "RAW", tAt "COPY" "FOLLOW"], by decide +kernel⟩
theorem wit_ReceiverAndAntenna_4 : ∃ (s : State) (st : Nat), s.antOn = true ∧ (1 ≤ st ∧ st ≤ 3) ∧ s.gnss.ant ≠ 3 :=
  ⟨{ tGnss with gnss := { tGnss.gnss with ant := 1 } }, 3, by decide +kernel⟩
theorem wit_ReceiverAndAntenna_5 : ∃ (s : State) (k : Nat), s.antOn = true ∧ s.gnss.shortAt = some k :=
  ⟨{ tGnss with gnss := { tGnss.gnss with ant := 3, shortAt := some 1000000000 } }, 1000000000, by decide +kernel⟩
theorem wit_ReceiverAndAntenna_6 : ∃ (s : State) (n : Nat) (st : Nat), s.gnss.running = true ∧ s.word .gnss 0 "NOTCH" ≠ "OFF" ∧ (n < 4 ∧ 1 ≤ st ∧ st ≤ 2) :=
  ⟨{ tGnss with gnss := { tGnss.gnss with notch := [(0, (1, 5)), (1, (2, 7)), (3, (1, -9))] } }, 2, 1, by decide +kernel⟩
theorem wit_ReceiverAndAntenna_7 : ∃ (s : State) (j : Nat), s.gnss.running = true ∧ s.gnss.jam = 0 ∧ j < 256 ∧ s.nat .gnss 0 "JAMWARN" < s.nat .gnss 0 "JAMALARM" :=
  ⟨tGnss, 80, by decide +kernel⟩
theorem wit_ReceiverAndAntenna_8 : ∃ (s : State) (j : Nat) (k : Nat), s.gnss.running = true ∧ s.gnss.jam = 2 ∧ (j < 256 ∧ j + 8 < s.nat .gnss 0 "JAMALARM") ∧ Tab.get none s.gnss.jamLow 2 = some k :=
  ⟨{ tGnss with gnss := { tGnss.gnss with jam := 2, jamLow := [(2, some 0)] }, times := { sys := 1000000000 } }, 10, 0, by decide +kernel⟩
theorem wit_ChannelsTrack_1 : ∃ (s : State) (c : Nat) (q : Nat) (k : Nat) (e : Int) (l : List Nat), c < 24 ∧ s.gnss.running = true ∧ (s.gnss.acqWait = none ∧ s.gnss.acqEnd = none) ∧ (s.askHeavy 0).2 = some k ∧ (1 ≤ q ∧ q ≤ 32 ∧ s.int .gnss 0 "ELMASK" ≤ e) ∧ (s.tracked q = false ∧ s.gnss.aid.healthy q = true) ∧ s.idleChans = c :: l :=
  ⟨tGnssIdle, 0, 7, 0, 20000, (List.range 24).drop 1, by decide +kernel⟩
theorem wit_ChannelsTrack_2 : ∃ (s : State) (c : Nat), c < 24 ∧ s.gnss.running = true ∧ s.gnss.acqWait = none ∧ s.gnss.acqEnd = none ∧ (s.askHeavy 0).2 = none :=
  ⟨tGnssNoHeavy, 0, by decide +kernel⟩
theorem wit_ChannelsTrack_3 : ∃ (s : State) (c : Nat) (k : Nat), c < 24 ∧ s.gnss.running = true ∧ s.gnss.acqWait = some k :=
  ⟨{ tGnss with gnss := { tGnss.gnss with acqWait := some 1000000000 } }, 0, 1000000000, by decide +kernel⟩
theorem wit_ChannelsTrack_4 : ∃ (s : State) (c : Nat) (m : Nat), c < 24 ∧ s.gnss.running = true ∧ (1 ≤ (s.gch c).state ∧ (s.gch c).state < 5) ∧ m < 1024 :=
  ⟨{ tGnss with gnss := { tGnss.gnss with ch := [(6, { state := 2, prn := 9 })] } }, 6, 410, by decide +kernel⟩
theorem wit_ChannelsTrack_5 : ∃ (s : State) (c : Nat), c < 24 ∧ s.gnss.running = true ∧ (s.gch c).state ≠ 0 ∧ ((s.gch c).copy = false ∧ (s.gch c).isCopy = false) :=
  ⟨tGnss, 0, by decide +kernel⟩
theorem wit_ChannelsTrack_6 : ∃ (s : State) (c : Nat) (k : Nat), c < 24 ∧ s.gnss.running = true ∧ ((s.gch c).copy = true ∧ (s.gch c).isCopy = false ∧ (s.gch c).copyCh = some k ∧ (s.gch c).state ≠ 0) ∧ (k < 24 ∧ k ≠ c ∧ 3 ≤ (s.gch k).state) :=
  ⟨tCopy, 0, 5, by decide +kernel⟩
theorem wit_ChannelsTrack_7 : ∃ (s : State) (c : Nat), c < 24 ∧ s.gnss.running = true ∧ 4 ≤ (s.gch c).state :=
  ⟨tGnss, 0, by decide +kernel⟩
theorem wit_ChannelsTrack_8 : ∃ (s : State) (c : Nat) (k : Nat) (l : List Nat) (off : Int) (db : Int), c < 24 ∧ s.gnss.running = true ∧ (3 ≤ (s.gch c).state ∧ (s.gch c).isCopy = false ∧ (s.gch c).copy = false ∧ (s.gch c).hits = 2) ∧ (30 < db ∧ -1536 ≤ off ∧ off ≤ 1536) ∧ s.idleChans = k :: l :=
  ⟨tHits, 0, 4, (List.range 24).drop 5, -400, 55, by decide +kernel⟩
theorem wit_ChannelsTrack_9 : ∃ (s : State) (c : Nat) (db : Int), c < 24 ∧ s.gnss.running = true ∧ (3 ≤ (s.gch c).state ∧ (s.gch c).isCopy = false ∧ (s.gch c).copy = false) ∧ (db ≤ 30 ∨ (s.gch c).hits < 2) :=
  ⟨tHits, 0, 30, by decide +kernel⟩
theorem wit_ChannelsTrack_10 : ∃ (s : State) (c : Nat) (q : Nat) (d : List Nat), c < 24 ∧ s.gnss.running = true ∧ (s.gch c).state = 5 ∧ (d.length = 30 ∧ ∀ b ∈ d, b < 256) ∧ (d.getD 6 0 % 64 = q ∧ 1 ≤ q ∧ q ≤ 32) :=
  ⟨tGnss, 0, 7, [1, 2, 3, 4, 5, 6, 71, 8, 9, 10, 11, 12, 13, 14, 15, 16, 17, 18, 19, 20, 21, 22, 23, 24, 25, 26, 27, 28, 29, 30], by decide +kernel⟩
theorem wit_ChannelsTrack_11 : ∃ (s : State) (c : Nat) (d : List Nat), c < 24 ∧ s.gnss.running = true ∧ (s.gch c).state = 5 ∧ (d.length = 30 ∧ ∀ b ∈ d, b < 256) ∧ d.getD 6 0 % 64 = 56 :=
  ⟨tGnss, 0, [1, 2, 3, 4, 5, 6, 120, 8, 9, 10, 11, 12, 13, 14, 15, 16, 17, 18, 19, 20, 21, 22, 23, 24, 25, 26, 27, 28, 29, 30], by decide +kernel⟩
theorem wit_ReceiverResults_1 : ∃ (s : State), s.gnss.running = true :=
  ⟨tGnss, by decide +kernel⟩
theorem wit_ReceiverResults_2 : ∃ (s : State) (n : Nat) (r : GnssSol), s.gnss.running = true ∧ (r.used.filter ((s.advanceTo r.sys).serves r.gps)).length = n ∧ (4 ≤ n ∧ r.testOk = true) ∧ (5 ≤ n ∨ s.isOn .gnss 0 "NEEDCHK" = false) :=
  ⟨tGnss, 4, tSol, by decide +kernel⟩
theorem wit_ReceiverResults_3 : ∃ (s : State) (r : GnssSol), s.gnss.running = true ∧ (r.used.filter ((s.advanceTo r.sys).serves r.gps)).length < 3 :=
  ⟨tGnss, { tSol with used := [(0, 11), (1, 12)] }, by decide +kernel⟩
theorem wit_ReceiverResults_4 : ∃ (s : State), s.gnss.running = true ∧ s.gnss.gpsV = true ∧ s.gnss.fix = false :=
  ⟨{ tGnss with gnss := { tGnss.gnss with gpsV := true, utcV := true, lastFix := 3 }, times := { gpsOff := some 77 } }, by decide +kernel⟩
theorem wit_ReceiverResults_5 : ∃ (s : State) (i : Nat) (n : Nat) (p : Phrase), s.gnss.running = true ∧ s.mayRun i p = true ∧ p.names .get .gnss (some n) "POS" ∧ (p.attrs = [] ∧ p.adv .new = false) ∧ s.unitErrs i p .gnss (some n) = [] ∧ (s.word .gnss n "OUT" = "POS" ∨ s.word .gnss n "OUT" = "BOTH") ∧ s.gnss.sol ≠ [] :=
  ⟨tResults, 0, 1, tPh .get (some ⟨.gnss, .one 1, "POS"⟩), by decide +kernel⟩
theorem wit_ReceiverResults_6 : ∃ (s : State) (i : Nat) (n : Nat) (p : Phrase) (r : RawLatch), s.gnss.running = true ∧ s.mayRun i p = true ∧ p.names .get .gnss (some n) "RAW" ∧ (p.attrs = [] ∧ p.adv .new = false) ∧ s.unitErrs i p .gnss (some n) = [] ∧ (s.word .gnss n "OUT" = "RAW" ∨ s.word .gnss n "OUT" = "BOTH") ∧ (s.gnss.raw = some r ∧ r.keep ≠ [] ∧ r.follow ≠ []) :=
  ⟨tResults, 0, 1, tPh .get (some ⟨.gnss, .one 1, "RAW"⟩), { keep := [[("epoch", "3"), ("nch", "1")], [("epoch", "3"), ("ch", "0")]], follow := [[("epoch", "3"), ("nch", "0")]] }, by decide +kernel⟩
theorem wit_AidingDataIsHeld_1 : ∃ (s : State) (i : Nat) (p : Phrase), s.mayRun i p = true ∧ p.names .set .aid none "TIME" ∧ s.unitErrs i p .aid none = [] ∧ setAttrErrs (aidAttrs "TIME") (s.sessAt i).super p = [] ∧ (p.has "WEEK" = true ∧ p.has "TOW" = true ∧ p.has "TUNC" = true) :=
  ⟨tGnss, 0, tPh .set (some ⟨.aid, .none, "TIME"⟩) [tAt "WEEK" "2400", tAt "TOW" "1000", tAt "TUNC" "900us"], by decide +kernel⟩
theorem wit_AidingDataIsHeld_2 : ∃ (s : State) (i : Nat) (p : Phrase), s.mayRun i p = true ∧ p.names .set .aid none "POS" ∧ s.unitErrs i p .aid none = [] ∧ setAttrErrs (aidAttrs "POS") (s.sessAt i).super p = [] ∧ (p.has "LAT" = true ∧ p.has "LON" = true ∧ p.has "HGT" = true ∧ p.has "PUNC" = true) :=
  ⟨tGnss, 0, tPh .set (some ⟨.aid, .none, "POS"⟩) [tAt "LAT" "48000000000", tAt "LON" "-9", tAt "HGT" "300000", tAt "PUNC" "5"], by decide +kernel⟩
theorem wit_AidingDataIsHeld_3 : ∃ (s : State) (i : Nat) (p : Phrase) (l : List Nat), s.mayRun i p = true ∧ p.names .set .aid none "EPH" ∧ s.unitErrs i p .aid none = [] ∧ setAttrErrs (aidAttrs "EPH") (s.sessAt i).super p = [] ∧ (p.has "PRN" = true ∧ p.has "SF" = true) ∧ attrVal p "D" (.bytes 0 30) = some (.l l) :=
  ⟨tGnss, 0, tPh .set (some ⟨.aid, .none, "EPH"⟩) [tAt "PRN" "7", tAt "SF" "2", tAt "D" "0x0102030405060708090A0B0C0D0E0F101112131415161718191A1B1C1D1E"], [1, 2, 3, 4, 5, 6, 7, 8, 9, 10, 11, 12, 13, 14, 15, 16, 17, 18, 19, 20, 21, 22, 23, 24, 25, 26, 27, 28, 29, 30], by decide +kernel⟩
theorem wit_AidingDataIsHeld_4 : ∃ (s : State) (i : Nat) (p : Phrase) (l : List Nat), s.mayRun i p = true ∧ p.names .set .aid none "ALM" ∧ s.unitErrs i p .aid none = [] ∧ setAttrErrs (aidAttrs "ALM") (s.sessAt i).super p = [] ∧ p.has "PRN" = true ∧ attrVal p "D" (.bytes 0 30) = some (.l l) :=
  ⟨tGnss, 0, tPh .set (some ⟨.aid, .none, "ALM"⟩) [tAt "PRN" "7", tAt "D" "0x0102030405060708090A0B0C0D0E0F101112131415161718"], [1, 2, 3, 4, 5, 6, 7, 8, 9, 10, 11, 12, 13, 14, 15, 16, 17, 18, 19, 20, 21, 22, 23, 24], by decide +kernel⟩
theorem wit_AidingDataIsHeld_5 : ∃ (s : State) (i : Nat) (p : Phrase) (l : List Nat), s.mayRun i p = true ∧ p.names .set .aid none "IONO" ∧ s.unitErrs i p .aid none = [] ∧ setAttrErrs (aidAttrs "IONO") (s.sessAt i).super p = [] ∧ attrVal p "D" (.bytes 0 30) = some (.l l) :=
  ⟨tGnss, 0, tPh .set (some ⟨.aid, .none, "IONO"⟩) [tAt "D" "0x0102030405060708090A0B0C0D0E0F101112131415161718"], [1, 2, 3, 4, 5, 6, 7, 8, 9, 10, 11, 12, 13, 14, 15, 16, 17, 18, 19, 20, 21, 22, 23, 24], by decide +kernel⟩
theorem wit_AidingDataIsHeld_6 : ∃ (s : State) (i : Nat) (p : Phrase), s.mayRun i p = true ∧ p.names .get .aid none ∧ p.attrs = [] ∧ s.unitErrs i p .aid none = [] ∧ (s.gnss.aid.eph = [] ∧ s.gnss.aid.alm = []) :=
  ⟨tReady, 0, tPh .get (some ⟨.aid, .none, ""⟩), by decide +kernel⟩
theorem wit_AidingDataIsHeld_7 : ∃ (s : State) (i : Nat) (p : Phrase), s.mayRun i p = true ∧ p.names .save .aid none ∧ p.attrs = [] ∧ s.unitErrs i p .aid none = [] :=
  ⟨tGnss, 0, tPh .save (some ⟨.aid, .none, ""⟩), by decide +kernel⟩
theorem wit_AidingDataIsHeld_8 : ∃ (s : State) (i : Nat) (p : Phrase), s.mayRun i p = true ∧ p.names .load .aid none ∧ p.attrs = [] ∧ s.unitErrs i p .aid none = [] :=
  ⟨tGnss, 0, tPh .load (some ⟨.aid, .none, ""⟩), by decide +kernel⟩
theorem wit_AidingDataIsHeld_9 : ∃ (s : State) (i : Nat) (p : Phrase), s.mayRun i p = true ∧ p.names .reset .aid none ∧ p.attrs = [] ∧ s.unitErrs i p .aid none = [] :=
  ⟨tGnss, 0, tPh .reset (some ⟨.aid, .none, ""⟩), by decide +kernel⟩
theorem wit_AidingDataIsHeld_10 : ∃ (s : State) (k : Nat), s.gnss.fixSince = some k :=
  ⟨{ tGnss with gnss := { tGnss.gnss with fixSince := some 9 } }, 9, by decide +kernel⟩
theorem wit_DriveSequencerSteps_1 : ∃ (s : State) (u : Nat) (q : Phase), (s.unitAt u).on = true ∧ (s.phases u)[(s.unitAt u).phase]? = some q ∧ (q.fin = 0 ∧ (s.unitAt u).ir = none) :=
  ⟨tDrvOn, 5, { target := 1500, fin := 0, t := 20000000, tlim := 50000000, fast := false, off := 1, tfast := 1000000 }, by decide +kernel⟩
theorem wit_DriveSequencerSteps_2 : ∃ (s : State) (u : Nat) (q : Phase) (r : Nat), (s.unitAt u).on = true ∧ ((s.phases u)[(s.unitAt u).phase]? = some q ∧ (s.unitAt u).phase = 0) ∧ (q.fin = 0 ∧ (s.unitAt u).ir = some r ∧ r ≠ 0) :=
  ⟨{ tDrvOn with units := [(5, { on := true, sw := .drive, ir := some 700 })] }, 5, { target := 1500, fin := 0, t := 20000000, tlim := 50000000, fast := false, off := 1, tfast := 1000000 }, 700, by decide +kernel⟩
theorem wit_DriveSequencerSteps_3 : ∃ (s : State) (u : Nat) (q : Phase), (s.unitAt u).on = true ∧ (s.phases u)[(s.unitAt u).phase]? = some q ∧ (q.fin = 1 ∧ (s.unitAt u).reached = none) :=
  ⟨tDrvReach, 5, { target := 1500, fin := 1, t := 20000000, tlim := 50000000, fast := false, off := 1, tfast := 1000000 }, by decide +kernel⟩
theorem wit_DriveSequencerSteps_4 : ∃ (s : State) (u : Nat) (q : Phase) (r : Nat), (s.unitAt u).on = true ∧ (s.phases u)[(s.unitAt u).phase]? = some q ∧ (q.fin = 1 ∧ (s.unitAt u).reached = some r ∧ (s.unitAt u).ir = none) :=
  ⟨{ tDrvReach with units := [(5, { on := true, sw := .drive, reached := some 7000 })] }, 5, { target := 1500, fin := 1, t := 20000000, tlim := 50000000, fast := false, off := 1, tfast := 1000000 }, 7000, by decide +kernel⟩
theorem wit_DriveSequencerSteps_5 : ∃ (s : State) (u : Nat) (q : Phase), (s.unitAt u).on = true ∧ (s.phases u)[(s.unitAt u).phase]? = some q ∧ (q.fin = 1 ∧ (s.unitAt u).reached = none ∧ (s.unitAt u).ir = none) :=
  ⟨tDrvReach, 5, { target := 1500, fin := 1, t := 20000000, tlim := 50000000, fast := false, off := 1, tfast := 1000000 }, by decide +kernel⟩
theorem wit_DriveSequencerSteps_6 : ∃ (s : State) (u : Nat) (q : Phase) (k : Nat), ((s.unitAt u).fastSlow = true ∧ (s.unitAt u).decaySince = some k) ∧ s.offPhase u = some q :=
  ⟨{ tDrvOn with units := [(5, { sw := .fast, fastSlow := true, decaySince := some 9 })] }, 5, { target := 1500, fin := 0, t := 20000000, tlim := 50000000, fast := false, off := 1, tfast := 1000000 }, 9, by decide +kernel⟩
theorem wit_DriveSequencerSteps_7 : ∃ (s : State) (u : Nat) (k : Nat), ((s.unitAt u).sw = .slow ∧ (s.unitAt u).on = false ∧ (s.unitAt u).decaySince = some k) :=
  ⟨{ tDrvOn with units := [(5, { sw := .slow, decaySince := some 9 })] }, 5, 9, by decide +kernel⟩
theorem wit_DriveSequencerSteps_8 : ∃ (s : State) (u : Nat) (k : Nat), (s.unitAt u).decaySince = some k :=
  ⟨{ tDrvOn with units := [(5, { sw := .slow, decaySince := some 9 })] }, 5, 9, by decide +kernel⟩
theorem wit_DriveSequencerSteps_9 : ∃ (s : State) (u : Nat) (j : Nat), (s.uWord u "MODE" = "PWM" ∧ s.unitPresent u = true) ∧ (s.pwmIx u s.now = some j ∧ s.pwmStart u j < s.now) ∧ (s.unitAt u).enabled = false :=
  ⟨tPwmIdle, 5, 0, by decide +kernel⟩
theorem wit_DriveSequencerSteps_10 : ∃ (s : State) (u : Nat) (j : Nat), (s.uWord u "MODE" = "PWM" ∧ s.unitPresent u = true) ∧ (s.pwmIx u s.now = some j ∧ s.pwmStart u j < s.now) ∧ ((s.unitAt u).enabled = true ∧ (s.unitAt u).on = false ∧ (s.unitAt u).cut = false ∧ (s.unitAt u).blocked = false ∧ (s.unitAt u).retired = false) ∧ (s.safenLow = false ∧ s.rail u = .ok ∧ s.needsGrant u = false) ∧ ((s.unitAt u).dutyNew = none ∧ (s.unitAt u).duty < 1000) ∧ s.minPulse u ≤ s.pwmOn u (s.unitAt u).duty :=
  ⟨tPwm, 5, 0, by decide +kernel⟩
theorem wit_DriveSequencerSteps_11 : ∃ (s : State) (u : Nat) (k : Nat) (q : Phase), ((s.unitAt u).pulseEnd = some k ∧ (s.unitAt u).on = true) ∧ (s.phases u)[(s.unitAt u).phase]? = some q :=
  ⟨{ tDrvOn with units := [(5, { on := true, sw := .drive, pulseEnd := some 900 })] }, 5, 900, { target := 1500, fin := 0, t := 20000000, tlim := 50000000, fast := false, off := 1, tfast := 1000000 }, by decide +kernel⟩
theorem wit_DriveSequencerSteps_12 : ∃ (s : State) (u : Nat) (j : Nat), (s.uWord u "MODE" = "PROPORTIONAL" ∧ (s.unitAt u).on = true) ∧ s.uNat u "DFREQ" ≠ 0 ∧ ((s.now + 1) * 2 * s.uNat u "DFREQ" - 1) / nsS = j ∧ j * nsS / (2 * s.uNat u "DFREQ") ≠ s.now :=
  ⟨{ tDrvOn with cfg := [(⟨.chan, 5, "", "MODE"⟩, .w "PROPORTIONAL")], times := { sys := 1000000 } }, 5, 0, by decide +kernel⟩
theorem wit_DutyLimitCalibrationAndSafen_1 : ∃ (s : State) (u : Nat) (l : Nat), u < 48 ∧ s.natOpt (unitNoun u) (unitIx u) "DLIMIT" = some l :=
  ⟨tDuty, 5, 3, by decide +kernel⟩
theorem wit_DutyLimitCalibrationAndSafen_2 : ∃ (s : State) (u : Nat) (l : Nat), (s.natOpt (unitNoun u) (unitIx u) "DLIMIT" = some l ∧ s.uWord u "DACT" = "THROTTLE") ∧ l * 10000000 < (s.unitAt u).sums.sum ∧ ((s.unitAt u).lastSum ≤ (s.unitAt u).sums.sum ∧ s.uNat u "THRFLOOR" < (s.unitAt u).scale) :=
  ⟨tDuty, 5, 3, by decide +kernel⟩
theorem wit_DutyLimitCalibrationAndSafen_3 : ∃ (s : State) (u : Nat) (l : Nat), (s.natOpt (unitNoun u) (unitIx u) "DLIMIT" = some l ∧ s.uWord u "DACT" = "CUT") ∧ (l * 10000000 < (s.unitAt u).sums.sum ∧ (s.unitAt u).cut = false) :=
  ⟨{ tDuty with cfg := (⟨.chan, 5, "", "DACT"⟩, .w "CUT") :: tDuty.cfg }, 5, 3, by decide +kernel⟩
theorem wit_DutyLimitCalibrationAndSafen_4 : ∃ (s : State) (u : Nat) (ts : Nat), (s.unitPresent u = true ∧ s.pairOdd u = false ∧ s.uWord u "MODE" ≠ "PWM") ∧ ((s.unitAt u).on = false ∧ (s.unitAt u).sw = .off ∧ (s.unitAt u).decaySince = none ∧ (s.unitAt u).testing = none) ∧ ((s.unitAt u).calAt = none ∧ (s.unitAt u).calStart = none ∧ (s.unitAt u).offDone + 200000 ≤ max s.now ts) ∧ (s.advanceTo ts).onDueWithin u 250000 = false :=
  ⟨tReady, 5, 300000, by decide +kernel⟩
theorem wit_DutyLimitCalibrationAndSafen_5 : ∃ (s : State) (u : Nat), (u < 56 ∧ s.unitPresent u = true) ∧ s.safenLow = false :=
  ⟨tImplOpen, 5, by decide +kernel⟩
theorem wit_DutyLimitCalibrationAndSafen_6 : ∃ (s : State), s.safenLow = true :=
  ⟨{ tImplOpen with safenLow := true }, by decide +kernel⟩
theorem wit_DirectUnitsFollowPhrases_1 : ∃ (s : State) (i : Nat) (j : Nat) (n : Noun) (p : Phrase), (n = .chan ∧ j < 48 ∨ n = .gdr ∧ j < 8) ∧ s.mayRun i p = true ∧ p.names .start n (some j) ∧ p.attrs = [] ∧ s.unitErrs i p n (some j) = [] ∧ s.driveErrs (unitOfNoun n j) ["ONOFF", "PWM", "PROPORTIONAL"] = [] ∧ ((s.unitAt (unitOfNoun n j)).direct = false ∧ s.pairOdd (unitOfNoun n j) = false ∧ s.unitNamed (unitOfNoun n j) = false) ∧ (s.partAt (s.unitOwner (unitOfNoun n j))).state ≠ .faulted ∧ s.word n j "STATE" = "OFF" :=
  ⟨tReady, 0, 5, .chan, tPh .start (some ⟨.chan, .one 5, ""⟩), by decide +kernel⟩
theorem wit_DirectUnitsFollowPhrases_2 : ∃ (s : State) (i : Nat) (j : Nat) (n : Noun) (p : Phrase), (n = .chan ∧ j < 48 ∨ n = .gdr ∧ j < 8) ∧ s.mayRun i p = true ∧ p.names .stop n (some j) ∧ p.attrs = [] ∧ s.unitErrs i p n (some j) = [] ∧ (let x := s.unitAt (unitOfNoun n j); x.direct = true ∧ x.held = false ∧ x.cut = false ∧ x.blocked = false) ∧ s.pairOdd (unitOfNoun n j) = false :=
  ⟨tDirect, 0, 3, .gdr, tPh .stop (some ⟨.gdr, .one 3, ""⟩), by decide +kernel⟩
theorem wit_DirectUnitsFollowPhrases_3 : ∃ (s : State) (i : Nat) (j : Nat) (n : Noun) (p : Phrase) (w : String) (k : String), (n = .chan ∧ j < 48 ∨ n = .gdr ∧ j < 8) ∧ s.mayRun i p = true ∧ p.names .set n (some j) ∧ p.attrs = [⟨"STATE", some w, k⟩] ∧ (w = "ON" ∨ w = "OFF") ∧ s.unitErrs i p n (some j) = [] ∧ ((s.unitAt (unitOfNoun n j)).direct = false ∧ s.pairOdd (unitOfNoun n j) = false ∧ s.unitInUse (unitOfNoun n j) = false) :=
  ⟨tReady, 0, 5, .chan, tPh .set (some ⟨.chan, .one 5, ""⟩) [tAt "STATE" "ON"], "ON", "STATE=ON", by decide +kernel⟩
theorem wit_DirectUnitsFollowPhrases_4 : ∃ (s : State) (i : Nat) (j : Nat) (n : Noun) (p : Phrase) (k : String), (n = .chan ∧ j < 48 ∨ n = .gdr ∧ j < 8) ∧ s.mayRun i p = true ∧ p.names .set n (some j) ∧ p.attrs = [⟨"STATE", some "ON", k⟩] ∧ s.unitErrs i p n (some j) = [] ∧ (let x := s.unitAt (unitOfNoun n j); x.direct = true ∧ x.on = false ∧ x.retired = false ∧ x.held = false ∧ x.otwait = false ∧ x.cut = false ∧ x.blocked = false) ∧ (s.pairOdd (unitOfNoun n j) = false ∧ s.safenLow = false ∧ s.unitPresent (unitOfNoun n j) = true) ∧ (s.word n j "MODE" ≠ "PWM" ∧ s.rail (unitOfNoun n j) = .ok ∧ s.needsGrant (unitOfNoun n j) = false) :=
  ⟨tDirectFree, 0, 3, .gdr, tPh .set (some ⟨.gdr, .one 3, ""⟩) [tAt "STATE" "ON"], "STATE=ON", by decide +kernel⟩
theorem wit_DirectUnitsFollowPhrases_5 : ∃ (s : State) (i : Nat) (j : Nat) (n : Noun) (p : Phrase) (k : String), (n = .chan ∧ j < 48 ∨ n = .gdr ∧ j < 8) ∧ s.mayRun i p = true ∧ p.names .set n (some j) ∧ p.attrs = [⟨"STATE", some "OFF", k⟩] ∧ s.unitErrs i p n (some j) = [] ∧ (let x := s.unitAt (unitOfNoun n j); x.direct = true ∧ x.held = false ∧ x.cut = false ∧ x.blocked = false) ∧ s.pairOdd (unitOfNoun n j) = false :=
  ⟨tDirect, 0, 3, .gdr, tPh .set (some ⟨.gdr, .one 3, ""⟩) [tAt "STATE" "OFF"], "STATE=OFF", by decide +kernel⟩
theorem wit_DirectUnitsFollowPhrases_6 : ∃ (s : State) (i : Nat) (j : Nat) (n : Noun) (p : Phrase) (v : Int), (n = .chan ∧ j < 48 ∨ n = .gdr ∧ j < 8) ∧ s.mayRun i p = true ∧ p.names .set n (some j) ∧ p.attrs.map AttrTok.name = ["DUTY"] ∧ attrVal p "DUTY" (.int 0 1000) = some (.n v) ∧ s.unitErrs i p n (some j) = [] ∧ ((s.unitAt (unitOfNoun n j)).direct = true ∧ (s.unitAt (unitOfNoun n j)).held = false ∧ s.pairOdd (unitOfNoun n j) = false ∧ p.adv .now = false) :=
  ⟨tDirect, 0, 3, .gdr, tPh .set (some ⟨.gdr, .one 3, ""⟩) [tAt "DUTY" "250"], 250, by decide +kernel⟩
theorem wit_DirectUnitsFollowPhrases_7 : ∃ (s : State) (i : Nat) (j : Nat) (n : Noun) (p : Phrase) (v : Int), (n = .chan ∧ j < 48 ∨ n = .gdr ∧ j < 8) ∧ s.mayRun i p = true ∧ p.names .set n (some j) ∧ p.attrs.map AttrTok.name = ["TARGET"] ∧ attrVal p "TARGET" (.int 50 (if n = .gdr then 20000 else 8000)) = some (.n v) ∧ s.unitErrs i p n (some j) = [] ∧ (let x := s.unitAt (unitOfNoun n j); x.direct = true ∧ x.held = false ∧ (v.toNat ≤ x.target ∨ x.on = false)) ∧ (s.pairOdd (unitOfNoun n j) = false ∧ s.targetOk (unitOfNoun n j) v.toNat = true) :=
  ⟨tDirect, 0, 3, .gdr, tPh .set (some ⟨.gdr, .one 3, ""⟩) [tAt "TARGET" "300"], 300, by decide +kernel⟩
theorem wit_DirectUnitsFollowPhrases_8 : ∃ (s : State) (i : Nat) (j : Nat) (n : Noun) (p : Phrase) (w : String) (k : String), (n = .chan ∧ j < 48 ∨ n = .gdr ∧ j < 8) ∧ s.mayRun i p = true ∧ (n = .chan ∧ j % 2 = 0) ∧ p.names .set .pair (some j) ∧ p.attrs = [⟨"LINK", some w, k⟩] ∧ (w = "ON" ∨ w = "OFF") ∧ s.unitErrs i p .pair (some j) = [] ∧ s.owner .chan j = s.owner .chan (j + 1) ∧ (s.unitInUse j = false ∧ s.unitInUse (j + 1) = false) :=
  ⟨tReady, 0, 6, .chan, tPh .set (some ⟨.pair, .one 6, ""⟩) [tAt "LINK" "ON"], "ON", "LINK=ON", by decide +kernel⟩
theorem wit_GrantsStartEndAndAreReported_1 : ∃ (s : State) (u : Nat) (k : Nat), (s.unitAt u).waiting = some k ∧ s.rail u = .ok :=
  ⟨tWaitOn, 5, 900, by decide +kernel⟩
theorem wit_GrantsStartEndAndAreReported_2 : ∃ (s : State) (u : Nat) (k : Nat) (v : Nat), ((s.unitAt u).waiting = none ∧ (s.unitAt u).ramp = some (v, k)) ∧ (s.grantOf u).bind Grant.ir = none :=
  ⟨{ tDrvOn with units := [(5, { on := true, sw := .drive, ramp := some (700, 900) })] }, 5, 900, 700, by decide +kernel⟩
theorem wit_GrantsStartEndAndAreReported_3 : ∃ (s : State) (u : Nat) (g : Grant), s.grantOf u = some g ∧ (s.unitAt u).ramp = none :=
  ⟨tWaitOn, 5, { budget := 0, who := 5, cls := 0, start := 900, dur := 100, charge := 1000, booked := true }, by decide +kernel⟩
theorem wit_GrantsStartEndAndAreReported_4 : ∃ (s : State) (u : Nat) (g : GrantEv) (l : List GrantEv), u < 56 ∧ (s.unitAt u).gev = g :: l ∧ g.cnt ≠ 0 :=
  ⟨tGrantEv, 5, { outcome := 4, at_ := 500, cnt := 2, cls := 0, wait := 0, ir := 0 }, [], by decide +kernel⟩
theorem wit_GrantsStartEndAndAreReported_5 : ∃ (s : State) (u : Nat) (k : Nat), ((s.unitAt u).retryAt = some k ∧ (s.unitAt u).direct = true ∧ s.uWord u "STATE" = "ON" ∧ s.uWord u "MODE" ≠ "PWM") ∧ (let x := s.unitAt u; x.on = false ∧ x.retired = false ∧ x.held = false ∧ x.otwait = false ∧ x.cut = false ∧ x.blocked = false) ∧ (s.safenLow = false ∧ s.unitPresent u = true ∧ s.rail u = .ok) :=
  ⟨tRetry, 5, 900, by decide +kernel⟩
theorem wit_GrantsStartEndAndAreReported_6 : ∃ (s : State), (s.retired 37 = false ∧ s.retired 38 = false ∧ s.grants.chkEnd = none) :=
  ⟨tRun, by decide +kernel⟩
theorem wit_GrantsStartEndAndAreReported_7 : ∃ (s : State) (k : Nat), s.grants.chkEnd = some k ∧ (s.retired 37 = false ∧ s.retired 38 = false) ∧ s.power.dstate = .run :=
  ⟨{ tRun with grants := { chkEnd := some 900 } }, 900, by decide +kernel⟩
theorem wit_GrantsStartEndAndAreReported_8 : ∃ (s : State) (u : Nat) (i : Nat) (p : Phrase), s.mayRun i p = true ∧ (u < 3 ∧ p.names .set .grant (some u)) ∧ s.unitErrs i p .grant (some u) = [] ∧ (p.attrs.map AttrTok.name).Nodup ∧ setAttrErrs (grantAttrs u) (s.sessAt i).super p = [] ∧ (∀ m, m < 4 → (s.partAt m).state = .stopped ∨ (s.partAt m).state = .faulted) :=
  ⟨tReady, 1, 0, tPh .set (some ⟨.grant, .one 1, ""⟩) [tAt "BUDGET" "32000", tAt "SECRES" "300"], by decide +kernel⟩
theorem wit_DriveDiagnosisDecides_1 : ∃ (s : State) (u : Nat) (r : OnReading), (u < 48 ∧ s.unitPresent u = true ∧ s.pairOdd u = false ∧ s.pairEven u = false) ∧ ((s.unitAt u).on = true ∧ (s.unitAt u).retired = false ∧ (s.unitAt u).pulseEnd = none ∧ (s.unitAt u).suspectEnd = none) ∧ (s.safenLow = false ∧ s.isOn .diag u "ONDIAG" = true ∧ s.word .diag u "ACTION" = "RETIRE") ∧ (s.uWord u "WIRING" = "LOWSIDE" ∧ r.il < 20) :=
  ⟨{ tDrvOn with cfg := [(⟨.chan, 5, "", "WIRING"⟩, .w "LOWSIDE")] }, 5, { ih := 0, il := 3 }, by decide +kernel⟩
theorem wit_DriveDiagnosisDecides_2 : ∃ (s : State) (u : Nat) (r : OnReading), (u < 48 ∧ s.unitPresent u = true ∧ s.pairOdd u = false ∧ s.pairEven u = false) ∧ ((s.unitAt u).on = true ∧ (s.unitAt u).retired = false ∧ (s.unitAt u).pulseEnd = none) ∧ (s.safenLow = false ∧ s.isOn .diag u "ONDIAG" = true ∧ s.uWord u "WIRING" = "TWOTERM") ∧ (20 ≤ r.ih ∧ r.il = r.ih) :=
  ⟨tDrvOn, 5, { ih := 900, il := 900 }, by decide +kernel⟩
theorem wit_DriveDiagnosisDecides_3 : ∃ (s : State) (u : Nat), (u < 48 ∧ s.unitPresent u = true ∧ s.pairOdd u = false ∧ s.pairEven u = false) ∧ ((s.unitAt u).retired = false ∧ (s.unitAt u).suspectEnd = none ∧ s.word .diag u "ACTION" = "RETIRE") :=
  ⟨tDrvOn, 5, by decide +kernel⟩
theorem wit_DriveDiagnosisDecides_4 : ∃ (s : State) (u : Nat) (c : Int), (u < 48 ∧ s.unitPresent u = true ∧ s.pairOdd u = false ∧ s.pairEven u = false) ∧ ((s.unitAt u).retired = false ∧ (s.unitAt u).otwait = false ∧ (s.unitAt u).suspectEnd = none ∧ s.word .diag u "ACTION" = "RETIRE" ∧ 170 ≤ c) :=
  ⟨tDrvOn, 5, 171, by decide +kernel⟩
theorem wit_DriveDiagnosisDecides_5 : ∃ (s : State) (u : Nat) (c : Int), (u < 48 ∧ s.unitPresent u = true ∧ s.pairOdd u = false ∧ s.pairEven u = false) ∧ ((s.unitAt u).otwait = true ∧ (s.unitAt u).blocked = false ∧ c < 150) :=
  ⟨{ tRun with units := [(5, { otwait := true })] }, 5, 149, by decide +kernel⟩
theorem wit_DriveDiagnosisDecides_6 : ∃ (s : State) (u : Nat) (k : Nat), (u < 48 ∧ s.unitPresent u = true ∧ s.pairOdd u = false ∧ s.pairEven u = false) ∧ (s.sweepUnits ≠ [] ∧ s.grants.sweep = none ∧ ∀ v, v < 56 → (s.unitAt v).swept = false) ∧ ((s.tick "SWEEP" 0 (100 * nsMs)).askHeavy 3).2 = some k :=
  ⟨tSweep, 5, 0, by decide +kernel⟩
theorem wit_DriveDiagnosisDecides_7 : ∃ (s : State) (u : Nat) (k : Nat), (u < 48 ∧ s.unitPresent u = true ∧ s.pairOdd u = false ∧ s.pairEven u = false) ∧ (s.grants.sweep = some k ∧ s.sweepUnits.contains u = true ∧ (s.unitAt u).swept = false) ∧ (s.advanceTo (ceilDiv (max s.now k) nsMs * nsMs)).eligible u = true :=
  ⟨{ tSweep with grants := { sweep := some 1500000 } }, 5, 1500000, by decide +kernel⟩
theorem wit_DriveDiagnosisDecides_8 : ∃ (s : State) (u : Nat) (k : Nat) (m : Nat) (r : OffReading), (u < 48 ∧ s.unitPresent u = true ∧ s.pairOdd u = false ∧ s.pairEven u = false) ∧ ((s.unitAt u).testing = some (k, m) ∧ r.stable = true ∧ s.unitInUse u = false) ∧ (s.uWord u "WIRING" = "TWOTERM" ∧ r.temp < 170) :=
  ⟨{ tSweep with units := [(5, { testing := some (0, 0) })] }, 5, 0, 0, { outh := .low, outl := .low, temp := 40 }, by decide +kernel⟩
theorem wit_DriveDiagnosisDecides_9 : ∃ (s : State) (u : Nat) (k : Nat) (r : OffReading), (u < 48 ∧ s.unitPresent u = true ∧ s.pairOdd u = false ∧ s.pairEven u = false) ∧ ((s.unitAt u).blocked = true ∧ (s.unitAt u).retired = false ∧ (s.unitAt u).retestAt = some k) ∧ (s.advanceTo (max k ((s.unitAt u).offDone + 10 * nsMs))).eligible u = true ∧ (r.stable = true ∧ s.offDecide u r = 0) ∧ ((s.unitAt u).otwait = false ∧ (s.unitAt u).findOn = false ∧ (s.unitAt u).recorded = none) :=
  ⟨tSuspect, 5, 10000000, { outh := .mid, outl := .mid, temp := 40 }, by decide +kernel⟩
theorem wit_DriveDiagnosisDecides_10 : ∃ (s : State) (u : Nat) (k : Nat) (r : OffReading), (u < 48 ∧ s.unitPresent u = true ∧ s.pairOdd u = false ∧ s.pairEven u = false) ∧ ((s.unitAt u).blocked = true ∧ (s.unitAt u).retired = false ∧ (s.unitAt u).retestAt = some k) ∧ (s.advanceTo (max k ((s.unitAt u).offDone + 10 * nsMs))).eligible u = true ∧ (r.stable = true ∧ s.offDecide u r ≠ 0 ∧ s.word .diag u "ACTION" = "RETIRE") :=
  ⟨tSuspect, 5, 10000000, { outh := .low, outl := .low, temp := 40 }, by decide +kernel⟩
theorem wit_DriveDiagnosisDecides_11 : ∃ (s : State) (u : Nat) (k : Nat), (u < 48 ∧ s.unitPresent u = true ∧ s.pairOdd u = false ∧ s.pairEven u = false) ∧ (s.unitAt u).suspectEnd = some k :=
  ⟨tSuspect, 5, 60000000000, by decide +kernel⟩
theorem wit_DriveDiagnosisDecides_12 : ∃ (s : State) (u : Nat) (r : OffReading), (u < 48 ∧ s.unitPresent u = true ∧ s.pairOdd u = false ∧ s.pairEven u = false) ∧ ((s.unitAt u).bootDue = true ∧ s.eligible u = true ∧ r.stable = true) :=
  ⟨{ tSweep with units := [(5, { bootDue := true })], times := { sys := 1000000 } }, 5, { outh := .high, outl := .high, temp := 40 }, by decide +kernel⟩
theorem wit_DriveDiagnosisDecides_13 : ∃ (s : State) (u : Nat) (i : Nat) (k : Nat) (p : Phrase) (rs : List (Nat × OffReading)) (r : OffReading), (u < 48 ∧ s.unitPresent u = true ∧ s.pairOdd u = false ∧ s.pairEven u = false) ∧ s.mayRun i p = true ∧ (p.names .test .diag (some u) ∧ p.attrs = []) ∧ s.unitErrs i p .diag (some u) = [] ∧ ((s.unitAt u).retired = false ∧ (s.unitAt u).suspectEnd = none ∧ (s.unitAt u).blocked = false ∧ s.unitInUse u = false) ∧ (s.eligibleAt u = some k ∧ readingOf rs u = r ∧ r.stable = true) :=
  ⟨{ tSweep with times := { sys := 1000000 } }, 5, 0, 1000000, tPh .test (some ⟨.diag, .one 5, ""⟩), [(5, { outh := .high, outl := .low, temp := 40 })], { outh := .high, outl := .low, temp := 40 }, by decide +kernel⟩
theorem wit_DriveDiagnosisDecides_14 : ∃ (s : State) (u : Nat) (i : Nat) (k : Nat) (p : Phrase) (rs : List (Nat × OffReading)) (r : OffReading), (u < 48 ∧ s.unitPresent u = true ∧ s.pairOdd u = false ∧ s.pairEven u = false) ∧ s.mayRun i p = true ∧ (p.names .reset .diag (some u) ∧ p.attrs = []) ∧ (s.unitErrs i p .diag (some u) = [] ∧ (s.sessAt i).super = true) ∧ ((s.unitAt u).retired = true ∧ (s.unitAt u).retIsland = false ∧ (s.unitAt u).retFault = false ∧ s.unitInUse u = false) ∧ (s.eligibleAt u = some k ∧ readingOf rs u = r ∧ r.stable = true ∧ s.offDecide u r = 0) :=
  ⟨{ tSweep with units := [(5, { retired := true, dcause := 7 })], times := { sys := 1000000 } }, 5, 0, 1000000, tPh .reset (some ⟨.diag, .one 5, ""⟩), [(5, { outh := .mid, outl := .mid, temp := 40 })], { outh := .mid, outl := .mid, temp := 40 }, by decide +kernel⟩
theorem wit_PeerLinkTimeAndPresence_1 : ∃ (s : State) (f : PeerIn) (k : Nat), (s.peerHears f = true ∧ idTyp f.id = k ∧ (idDst f.id = 255 ∨ idDst f.id = s.ownAddr)) ∧ (peerLenOk k f.data = true ∧ peerCrcOk f = true) :=
  ⟨tPeer, tHb, 2, by decide +kernel⟩
theorem wit_PeerLinkTimeAndPresence_2 : ∃ (s : State) (f : PeerIn) (k : Nat), (s.peerHears f = true ∧ idTyp f.id = k) ∧ (s.canAt (s.peerCan f.onBridge)).rec_ ≤ 127 :=
  ⟨tPeer, { tHb with data := tHb.data.dropLast ++ [0] }, 2, by decide +kernel⟩
theorem wit_PeerLinkTimeAndPresence_3 : ∃ (s : State) (i : Nat) (p : Phrase), s.mayRun i p = true ∧ (p.names .start .peer none ∧ p.attrs = []) ∧ (s.unitErrs i p .peer none = [] ∧ s.peerStartErrs = []) :=
  ⟨tPeerReady, 0, tPh .start (some ⟨.peer, .none, ""⟩), by decide +kernel⟩
theorem wit_PeerLinkTimeAndPresence_4 : ∃ (s : State) (i : Nat) (p : Phrase), s.mayRun i p = true ∧ (p.names .stop .peer none ∧ p.attrs = []) ∧ s.unitErrs i p .peer none = [] ∧ (s.peer.state ≠ 0 ∧ (s.peerBound = false ∨ p.adv .force = true)) :=
  ⟨tPeerNode, 0, tPh .stop (some ⟨.peer, .none, ""⟩), by decide +kernel⟩
theorem wit_PeerLinkTimeAndPresence_5 : ∃ (s : State), (s.peer.state = 1 ∧ s.peer.master = some s.ownAddr ∧ s.isBridge = false) ∧ s.larderGives 4 1 = true :=
  ⟨tPeer, by decide +kernel⟩
theorem wit_PeerLinkTimeAndPresence_6 : ∃ (s : State) (f : PeerIn) (g : PeerIn) (d : List Nat) (b : List Nat), ((s.peerRx 0 f).2 = some d ∧ ((s.heard 0 f).peerRx 1 g).2 = some b) ∧ (idSrc f.id = idSrc g.id ∧ fld d 0 2 = fld b 0 2 ∧ f.onBridge = g.onBridge) ∧ (((s.heard 0 f).heard 1 g).peer.master = some (fld d 2 1) ∧ fld d 2 1 ≠ ((s.heard 0 f).heard 1 g).ownAddr ∧ f.onBridge = (((s.heard 0 f).heard 1 g).node (fld d 2 1)).onBridge) :=
  ⟨tPeerSlave, tSyncF, tFollow 900000, tSyncF.data, (tFollow 900000).data, by decide +kernel⟩
theorem wit_PeerLinkTimeAndPresence_7 : ∃ (s : State), (s.peer.state ≠ 0 ∧ s.peer.synced = true ∧ s.peer.master ≠ some s.ownAddr) :=
  ⟨{ tPeerSlave with peer := { tPeerSlave.peer with synced := true } }, by decide +kernel⟩
theorem wit_PeerLinkTimeAndPresence_8 : ∃ (s : State), (s.peer.state = 1 ∧ s.isBridge = false ∧ s.peer.leadBinds = []) ∧ s.larderGives 4 1 = true :=
  ⟨tPeer, by decide +kernel⟩
theorem wit_PeerLinkTimeAndPresence_9 : ∃ (s : State) (a : Nat) (f : PeerIn) (d : List Nat), (s.peerRx 2 f).2 = some d ∧ (idSrc f.id = a ∧ a < 128 ∧ a ≠ (s.heard 2 f).ownAddr ∧ (s.heard 2 f).isBridge = false ∧ ((s.heard 2 f).node a).present = false) :=
  ⟨tPeer, 5, tHb, tHb.data, by decide +kernel⟩
theorem wit_PeerLinkTimeAndPresence_10 : ∃ (s : State) (f : PeerIn) (d : List Nat), (s.peerRx 2 f).2 = some d ∧ (idSrc f.id = (s.heard 2 f).ownAddr ∧ fld d 8 4 ≠ (s.heard 2 f).peer.inst ∧ (s.heard 2 f).peer.state = 1 ∧ (s.heard 2 f).ownAddr < 128) :=
  ⟨tPeerTwin, tHb, tHb.data, by decide +kernel⟩
theorem wit_PeerLinkTimeAndPresence_11 : ∃ (s : State) (a : Nat), s.peer.state ≠ 0 ∧ (a < 128 ∧ (s.node a).present = true) :=
  ⟨tPeerNode, 5, by decide +kernel⟩
theorem wit_PeerLinkTimeAndPresence_12 : ∃ (s : State) (f : PeerIn), (s.peerHears f = true ∧ s.peer.state = 1 ∧ s.isBridge = true ∧ s.peer.loop = false) ∧ (2 ≤ idTyp f.id ∧ peerCrcOk f = true ∧ idHops f.id < 3 ∧ f.data.length ≤ 64) ∧ s.larderGives 4 1 = true :=
  ⟨tBridge, tHb, by decide +kernel⟩
theorem wit_RemoteBindingsAndFires_1 : ∃ (s : State) (f : PeerIn) (d : List Nat) (a : Nat), ((s.peerRx 4 f).2 = some d ∧ idSrc f.id = a ∧ (s.heard 4 f).doneOf a 4 (fld d 6 2) = none) ∧ (s.heard 4 f).judgeBind a (fld d 0 1) (fld d 1 1) (fld d 2 1) = 0 ∧ ((s.heard 4 f).peer.nodeBinds.any fun b => b.lead = a && b.utype = fld d 1 1 && b.unit = fld d 2 1) = false :=
  ⟨tPeerNode, tBindF, tBindF.data, 5, by decide +kernel⟩
theorem wit_RemoteBindingsAndFires_2 : ∃ (s : State) (f : PeerIn) (d : List Nat) (a : Nat), ((s.peerRx 4 f).2 = some d ∧ idSrc f.id = a ∧ (s.heard 4 f).doneOf a 4 (fld d 6 2) = none) ∧ (s.heard 4 f).judgeBind a (fld d 0 1) (fld d 1 1) (fld d 2 1) ≠ 0 :=
  ⟨tPeerNode, tBindBad, tBindBad.data, 5, by decide +kernel⟩
theorem wit_RemoteBindingsAndFires_3 : ∃ (s : State) (f : PeerIn) (d : List Nat) (a : Nat) (b : NodeBind), ((s.peerRx 5 f).2 = some d ∧ idSrc f.id = a ∧ (s.heard 5 f).doneOf a 5 (fld d 6 2) = none) ∧ ((s.heard 5 f).peer.nodeBinds.find? fun b => b.lead = a && b.impl = fld d 0 1 && b.utype = fld d 1 1 && b.unit = fld d 2 1) = some b ∧ (let x := (s.heard 5 f).unitAt (unitOfType b.utype b.unit); x.held = false ∧ x.cut = false ∧ x.blocked = false) :=
  ⟨tBound, tUnbindF, tUnbindF.data, 5, { lead := 5, impl := 0, utype := 0, unit := 7, sec := 2 }, by decide +kernel⟩
theorem wit_RemoteBindingsAndFires_4 : ∃ (s : State) (f : PeerIn) (d : List Nat) (a : Nat) (b : LeadBind), ((s.peerRx 6 f).2 = some d ∧ idSrc f.id = a) ∧ ((s.heard 6 f).peer.leadBinds.find? fun b => b.node = a && b.ref = fld d 0 2 && b.done.isNone && b.unbindEnd.isNone) = some b ∧ (b.failed = false ∧ ((s.heard 6 f).implAt b.impl).bindWait = none) :=
  ⟨tLead, tBindackF, tBindackF.data, 5, { impl := 0, node := 5, utype := 0, unit := 7, sec := 2, ref := 9 }, by decide +kernel⟩
theorem wit_RemoteBindingsAndFires_5 : ∃ (s : State) (f : PeerIn) (d : List Nat) (a : Nat) (u : Nat) (k : Nat), ((s.peerRx 8 f).2 = some d ∧ idSrc f.id = a ∧ (s.heard 8 f).doneOf a 8 (fld d 0 2) = none) ∧ ((s.heard 8 f).peer.nodeBinds.any fun b => b.lead = a && b.utype = fld d 3 1 && b.unit = fld d 4 1) = true ∧ (unitOfType (fld d 3 1) (fld d 4 1) = u ∧ ((s.heard 8 f).sysOf (sfld d 8 8)).toNat = k) ∧ (fld d 5 1 = 1 ∧ fld d 6 2 = 65535 ∧ (s.heard 8 f).peer.synced = true ∧ (s.heard 8 f).willBeOn u = false) ∧ ((s.heard 8 f).now < k ∧ (s.heard 8 f).needsGrant u = false) :=
  ⟨tBound, tFireF, tFireF.data, 5, 7, 90000000, by decide +kernel⟩
theorem wit_RemoteBindingsAndFires_6 : ∃ (s : State) (f : PeerIn) (d : List Nat) (a : Nat), ((s.peerRx 8 f).2 = some d ∧ idSrc f.id = a ∧ (s.heard 8 f).doneOf a 8 (fld d 0 2) = none) ∧ ((s.heard 8 f).peer.nodeBinds.any fun b => b.lead = a && b.utype = fld d 3 1 && b.unit = fld d 4 1) = true ∧ (fld d 5 1 = 2 ∧ (let x := (s.heard 8 f).unitAt (unitOfType (fld d 3 1) (fld d 4 1)); x.held = false ∧ x.cut = false ∧ x.blocked = false)) :=
  ⟨tBound, tOffNow, tOffNow.data, 5, by decide +kernel⟩
theorem wit_RemoteBindingsAndFires_7 : ∃ (s : State) (u : Nat) (c : NodeCmd), firstCmd (s.peer.cmds.filter fun c => unitOfType c.utype c.unit = u) = some c ∧ (c.action = 0 ∧ (s.unitAt u).held = false ∧ (s.unitAt u).cut = false ∧ (s.unitAt u).blocked = false) :=
  ⟨tHeldCmds, 7, { lead := 5, cseq := 4, impl := 0, utype := 0, unit := 7, action := 0, duty := 65535, ftime := 40000000 }, by decide +kernel⟩
theorem wit_RemoteBindingsAndFires_8 : ∃ (s : State) (u : Nat) (c : NodeCmd), firstCmd (s.peer.cmds.filter fun c => unitOfType c.utype c.unit = u) = some c ∧ (c.action = 1 ∧ s.needsGrant u = false ∧ s.rail u = .ok ∧ s.uWord u "MODE" ≠ "PWM" ∧ s.safenLow = false ∧ s.unitPresent u = true) ∧ (let x := s.unitAt u; x.on = false ∧ x.retired = false ∧ x.held = false ∧ x.otwait = false ∧ x.cut = false ∧ x.blocked = false) :=
  ⟨tHeldOnCmd, 7, { lead := 5, cseq := 3, impl := 0, utype := 0, unit := 7, action := 1, duty := 65535, ftime := 50000000 }, by decide +kernel⟩
theorem wit_RemoteBindingsAndFires_9 : ∃ (s : State) (f : PeerIn) (d : List Nat) (a : Nat) (c : NodeCmd), ((s.peerRx 9 f).2 = some d ∧ idSrc f.id = a ∧ (s.heard 9 f).doneOf a 9 (fld d 0 2) = none) ∧ ((s.heard 9 f).peer.cmds.find? fun c => c.lead = a && c.cseq = fld d 0 2) = some c ∧ (s.heard 9 f).now < c.due :=
  ⟨tHeldOnCmd, tCancelF, tCancelF.data, 5, { lead := 5, cseq := 3, impl := 0, utype := 0, unit := 7, action := 1, duty := 65535, ftime := 50000000 }, by decide +kernel⟩
theorem wit_RemoteBindingsAndFires_10 : ∃ (s : State) (f : PeerIn) (d : List Nat) (a : Nat), ((s.peerRx 11 f).2 = some d ∧ idSrc f.id = a) ∧ ((s.heard 11 f).peer.nodeBinds.any fun b => b.lead = a && b.utype = fld d 1 1 && b.unit = fld d 2 1) = true ∧ (fld d 4 2 ≤ 1000 ∧ ((s.heard 11 f).unitAt (unitOfType (fld d 1 1) (fld d 2 1))).held = false) :=
  ⟨tBound, tDutyF, tDutyF.data, 5, by decide +kernel⟩
theorem wit_RemoteBindingsAndFires_11 : ∃ (s : State) (f : PeerIn) (d : List Nat) (a : Nat) (k : Nat), ((s.peerRx 10 f).2 = some d ∧ idSrc f.id = a ∧ fld d 0 2 ≠ 0 ∧ fld d 2 1 = 0) ∧ (s.heard 10 f).secsAt a (fld d 4 1) (fld d 5 1) (fld d 8 1) = [k] :=
  ⟨tLeadFired, tReportF, tReportF.data, 5, 2, by decide +kernel⟩
theorem wit_RemoteBindingsAndFires_12 : ∃ (s : State) (f : PeerIn) (d : List Nat) (n : Nat) (k : Nat), ((s.peerRx 12 f).2 = some d ∧ fld d 0 1 = n ∧ n < 4 ∧ fld d 2 1 = 1) ∧ ((s.heard 12 f).word .impl n "POSSRC" = "EXT" ∧ (s.heard 12 f).natOpt .peer 0 ("POSFROM" ++ toString n) = some (idSrc f.id) ∧ (s.heard 12 f).peer.synced = true ∧ ((s.heard 12 f).implAt n).running = true) ∧ (s.heard 12 f).sysOf (sfld d 36 8) = (k : Int) ∧ posInRange true { lat := sfld d 4 8, lon := sfld d 12 8, hgt := some (sfld d 20 4), fix := fld d 1 1, tov := k } = true ∧ (s.heard 12 f).staleSample n true k = false :=
  ⟨tPosLead, tPosF, tPosF.data, 0, 999000000, by decide +kernel⟩
theorem wit_RemoteBindingsAndFires_13 : ∃ (s : State) (f : PeerIn) (d : List Nat), ((s.peerRx 12 f).2 = some d ∧ (s.heard 12 f).word .impl (fld d 0 1) "POSSRC" ≠ "EXT") :=
  ⟨tBound, tPosF, tPosF.data, by decide +kernel⟩
theorem wit_RemoteBindingsAndFires_14 : ∃ (s : State) (f : PeerIn) (d : List Nat) (a : Nat) (m : Nat) (fr : Nat), ((s.peerRx 16 f).2 = some d ∧ idSrc f.id = a ∧ fld d 0 1 = m ∧ fld d 1 1 = fr ∧ fr < 4) ∧ ((s.heard 16 f).doneOf a 16 (256 * m + fr) ≠ some (d.take (4 + fld d 2 1)) ∧ (s.heard 16 f).fragRoom (fld d 2 1) = true) ∧ ((s.heard 16 f).peer.asm = [] ∧ 0 < fld d 2 1) :=
  ⟨tPeerNode, tPhrF, tPhrF.data, 5, 4, 0, by decide +kernel⟩
theorem wit_RemoteBindingsAndFires_15 : ∃ (s : State) (f : PeerIn) (d : List Nat) (a : Nat) (m : Nat), ((s.peerRx 17 f).2 = some d ∧ idSrc f.id = a ∧ fld d 0 1 = m ∧ fld d 1 1 = 0) ∧ ((s.heard 17 f).doneOf a 17 (256 * m) ≠ some (d.take (4 + fld d 2 1)) ∧ (s.heard 17 f).fragRoom (fld d 2 1) = true ∧ (s.heard 17 f).peer.asm = []) :=
  ⟨tRplWait, tRplF, tRplF.data, 5, 4, by decide +kernel⟩
theorem wit_RemoteBindingsAndFires_16 : ∃ (s : State) (f : PeerIn) (d : List Nat) (a : Nat), ((s.peerRx 18 f).2 = some d ∧ idSrc f.id = a) :=
  ⟨tAsked, tAckF, tAckF.data, 5, by decide +kernel⟩
theorem wit_RemoteBindingsAndFires_17 : ∃ (s : State) (a : Nat) (m : Nat) (x : PeerAsm), (s.peer.asm.find? fun x => x.node = a && x.msg = m) = some x :=
  ⟨{ tPeerNode with peer := { tPeerNode.peer with asm := [{ node := 5, typ := 16, msg := 4, sess := 0, part := 1, since := 77 }] } }, 5, 4, { node := 5, typ := 16, msg := 4, sess := 0, part := 1, since := 77 }, by decide +kernel⟩
theorem wit_RemoteBindingsAndFires_18 : ∃ (s : State) (a : Nat) (k : Nat) (key : Nat) (w : PeerWait), (s.waitOf a k key = some w ∧ s.peer.state = 1) :=
  ⟨tAsked, 5, 16, 1152, { typ := 16, dst := 5, key := 1152, data := [4, 128, 1, 0, 65], sentAt := 1000 }, by decide +kernel⟩
theorem wit_CanControllersRun_1 : ∃ (s : State) (n : Nat) (f : CanFrame), n < 4 ∧ ((s.canAt n).running = true ∧ (s.canAt n).integ = false ∧ (s.canAt n).busoff = false ∧ (s.canAt n).peer = false ∧ (s.canAt n).rec_ = 0) ∧ (f.fd = false ∨ s.isOn .can n "FD" = true) ∧ (s.canAccepts n f = true ∧ s.word .can n "DELIVER" ≠ "EVENT") :=
  ⟨tCan, 2, { id := 0x123, dlc := 2, data := [1, 2, 3] }, by decide +kernel⟩
theorem wit_CanControllersRun_2 : ∃ (s : State) (n : Nat) (f : CanFrame), n < 4 ∧ ((s.canAt n).running = true ∧ (s.canAt n).integ = false ∧ (s.canAt n).busoff = false ∧ (s.canAt n).peer = false ∧ (s.canAt n).rec_ = 0) ∧ (f.fd = false ∧ s.canAccepts n f = false) :=
  ⟨{ tCan with cfg := [(⟨.can, 2, "", "FILTER"⟩, .w "LIST"), (⟨.can, 2, "", "NFILT"⟩, .n 0)] }, 2, { id := 0x123 }, by decide +kernel⟩
theorem wit_CanControllersRun_3 : ∃ (s : State) (n : Nat) (c : CanTx), n < 4 ∧ ((s.canAt n).running = true ∧ (s.canAt n).integ = false ∧ (s.canAt n).busoff = false ∧ (s.canAt n).peer = false ∧ (s.canAt n).tec ≤ 255) ∧ arbBest (s.canAt n).tx = some c :=
  ⟨tCan, 2, { f := { id := 5 }, order := 1, oneshot := true }, by decide +kernel⟩
theorem wit_CanControllersRun_4 : ∃ (s : State) (n : Nat) (c : CanTx), n < 4 ∧ ((s.canAt n).running = true ∧ (s.canAt n).integ = false ∧ (s.canAt n).busoff = false) ∧ arbBest (s.canAt n).tx = some c :=
  ⟨tCan, 2, { f := { id := 5 }, order := 1, oneshot := true }, by decide +kernel⟩
theorem wit_CanControllersRun_5 : ∃ (s : State) (n : Nat) (k : Nat), n < 4 ∧ ((s.canAt n).running = true ∧ (s.canAt n).integ = false ∧ (s.canAt n).busoff = false ∧ (s.canAt n).peer = false ∧ (s.canAt n).tec ≤ 255) ∧ (s.word .can n "MODE" ≠ "LISTEN" ∧ 1 ≤ k ∧ k ≤ 6) :=
  ⟨tCan, 2, 2, by decide +kernel⟩
theorem wit_CanControllersRun_6 : ∃ (s : State) (n : Nat) (k : Nat), n < 4 ∧ ((s.canAt n).running = true ∧ (s.canAt n).integ = false ∧ (s.canAt n).busoff = false ∧ (s.canAt n).peer = false) ∧ (s.word .can n "MODE" ≠ "LISTEN" ∧ 1 ≤ k ∧ k ≤ 6 ∧ k ≠ 3) :=
  ⟨{ tCan with cans := [(2, { running := true, tec := 250 })] }, 2, 4, by decide +kernel⟩
theorem wit_CanControllersRun_7 : ∃ (s : State) (n : Nat), n < 4 ∧ ((s.canAt n).running = true ∧ (s.canAt n).busoff = true) :=
  ⟨{ tCan with cans := [(2, { running := true, busoff := true, tec := 258, warn := true })] }, 2, by decide +kernel⟩
theorem wit_CanControllersRun_8 : ∃ (s : State) (n : Nat), n < 4 ∧ (s.canAt n).integ = true :=
  ⟨{ tCan with cans := [(2, { running := true, integ := true })] }, 2, by decide +kernel⟩
theorem wit_CanControllersRun_9 : ∃ (s : State) (i : Nat) (n : Nat) (p : Phrase), n < 4 ∧ (s.mayRun i p = true ∧ p.names .start .can (some n) ∧ p.attrs = []) ∧ (s.unitErrs i p .can (some n) = [] ∧ s.funcErrs ["CANTX" ++ toString n, "CANRX" ++ toString n] [] = []) ∧ (s.timingErrs n = [] ∧ s.filterErrs n = [] ∧ s.larderGives (s.owner .can n) (s.canBlocks n) = true) ∧ ((s.canAt n).running = false ∧ (s.partAt (s.owner .can n)).state ≠ .faulted) :=
  ⟨tCanReady, 0, 2, tPh .start (some ⟨.can, .one 2, ""⟩), by decide +kernel⟩
theorem wit_CanControllersRun_10 : ∃ (s : State) (i : Nat) (n : Nat) (p : Phrase), n < 4 ∧ (s.mayRun i p = true ∧ p.names .stop .can (some n) ∧ p.attrs = []) ∧ (s.unitErrs i p .can (some n) = [] ∧ (s.canAt n).peer = false ∧ (s.canAt n).running = true) :=
  ⟨tCan, 0, 2, tPh .stop (some ⟨.can, .one 2, ""⟩), by decide +kernel⟩
theorem wit_CanControllersRun_11 : ∃ (s : State) (i : Nat) (n : Nat) (p : Phrase), n < 4 ∧ (s.mayRun i p = true ∧ p.names .test .can (some n) ∧ p.attrs = []) ∧ (s.unitErrs i p .can (some n) = [] ∧ (s.canAt n).running = false) :=
  ⟨tReady, 0, 2, tPh .test (some ⟨.can, .one 2, ""⟩), by decide +kernel⟩
theorem wit_CanControllersRun_12 : ∃ (s : State) (i : Nat) (n : Nat) (p : Phrase) (r : CanRx) (l : List CanRx), n < 4 ∧ (s.mayRun i p = true ∧ p.names .get .can (some n) "RX" ∧ p.attrs = []) ∧ (s.unitErrs i p .can (some n) = [] ∧ s.word .can n "DELIVER" ≠ "EVENT" ∧ (s.canAt n).rx = r :: l) :=
  ⟨tCan, 0, 2, tPh .get (some ⟨.can, .one 2, "RX"⟩), { inst := 1, ts := 5, f := { id := 9, dlc := 1, data := [7] } }, [{ inst := 2, ts := 6, f := { id := 10 } }], by decide +kernel⟩
theorem wit_CanControllersRun_13 : ∃ (s : State) (i : Nat) (n : Nat) (p : Phrase), n < 4 ∧ (s.mayRun i p = true ∧ p.names .reset .can (some n) "RX" ∧ p.attrs = []) ∧ s.unitErrs i p .can (some n) = [] :=
  ⟨tCan, 0, 2, tPh .reset (some ⟨.can, .one 2, "RX"⟩), by decide +kernel⟩
theorem wit_CanControllersRun_14 : ∃ (s : State) (i : Nat) (n : Nat) (p : Phrase) (k : Int) (r : CanRx) (a : List CanRx) (b : List CanRx), n < 4 ∧ (s.mayRun i p = true ∧ p.names .reset .can (some n) "RX" ∧ p.attrs.map AttrTok.name = ["UPTO"]) ∧ (s.unitErrs i p .can (some n) = [] ∧ attrVal p "UPTO" (.int 1 4294967295) = some (.n k)) ∧ ((s.canAt n).rx = a ++ r :: b ∧ r.inst = k.toNat ∧ ∀ x ∈ a, x.inst ≠ k.toNat) :=
  ⟨tCan, 0, 2, tPh .reset (some ⟨.can, .one 2, "RX"⟩) [tAt "UPTO" "1"], 1, { inst := 1, ts := 5, f := { id := 9, dlc := 1, data := [7] } }, [], [{ inst := 2, ts := 6, f := { id := 10 } }], by decide +kernel⟩
theorem wit_CanControllersRun_15 : ∃ (s : State) (i : Nat) (n : Nat) (p : Phrase), n < 4 ∧ (s.mayRun i p = true ∧ p.names .arm .can (some n) "TX" ∧ armTxErrs s n p = []) ∧ (s.unitErrs i p .can (some n) = [] ∧ s.word .can n "MODE" ≠ "LISTEN" ∧ (s.canAt n).tx.length < s.nat .can n "TXMAX") ∧ ((s.canAt n).running = true ∧ (s.canAt n).peer = false ∧ (s.canAt n).busoff = false) :=
  ⟨tCan, 0, 2, tPh .arm (some ⟨.can, .one 2, "TX"⟩) [tAt "ID" "0x123", tAt "D" "0x0102", tAt "TAG" "9"], by decide +kernel⟩
theorem wit_CanControllersRun_16 : ∃ (s : State) (i : Nat) (n : Nat) (p : Phrase), n < 4 ∧ (s.mayRun i p = true ∧ p.names .disarm .can (some n) "TX" ∧ p.attrs = []) ∧ (s.unitErrs i p .can (some n) = [] ∧ (s.canAt n).peer = false) :=
  ⟨tCan, 0, 2, tPh .disarm (some ⟨.can, .one 2, "TX"⟩), by decide +kernel⟩
theorem wit_CanControllersRun_17 : ∃ (s : State) (i : Nat) (n : Nat) (p : Phrase) (k : Int), n < 4 ∧ (s.mayRun i p = true ∧ p.names .disarm .can (some n) "TX" ∧ p.attrs.map AttrTok.name = ["TAG"]) ∧ (s.unitErrs i p .can (some n) = [] ∧ attrVal p "TAG" (.int 0 255) = some (.n k) ∧ (s.canAt n).peer = false) :=
  ⟨tCan, 0, 2, tPh .disarm (some ⟨.can, .one 2, "TX"⟩) [tAt "TAG" "4"], 4, by decide +kernel⟩
theorem wit_PortsRun_1 : ∃ (s : State) (n : Nat) (r : UartIn), (s.uartRuns n = true ∧ n < 2 ∧ (s.uartAt n).xoffDue = false ∧ (s.uartAt n).xonDue = false ∧ (s.uartAt n).hunt = false ∧ (s.uartAt n).flow = false) ∧ (r.low = false ∧ (s.uartAt n).rx.length < 256 ∧ (s.uartAt n).inst < 4294967295 ∧ r.data < 256) :=
  ⟨tUart, 0, { data := 65, stopOk := false }, by decide +kernel⟩
theorem wit_PortsRun_2 : ∃ (s : State) (n : Nat) (r : UartIn), (s.uartRuns n = true ∧ n < 2 ∧ (s.uartAt n).xoffDue = false ∧ (s.uartAt n).xonDue = false ∧ (s.uartAt n).hunt = false ∧ (s.uartAt n).flow = false) ∧ (r.low = false ∧ r.stopOk = true ∧ r.parityOk = true ∧ 256 ≤ (s.uartAt n).rx.length) :=
  ⟨tUartFull, 0, { data := 65 }, by decide +kernel⟩
theorem wit_PortsRun_3 : ∃ (s : State) (n : Nat) (r : UartIn), (s.uartRuns n = true ∧ n < 2 ∧ (s.uartAt n).xoffDue = false ∧ (s.uartAt n).xonDue = false ∧ (s.uartAt n).paused = false) ∧ (r.low = true ∧ s.isOn .uart n "AUTOBAUD" = true) :=
  ⟨{ tUart with cfg := [(⟨.uart, 0, "", "AUTOBAUD"⟩, .w "ON")] }, 0, { data := 0, low := true }, by decide +kernel⟩
theorem wit_PortsRun_4 : ∃ (s : State) (n : Nat) (r : UartIn), (s.uartRuns n = true ∧ n < 2 ∧ (s.uartAt n).xoffDue = false ∧ (s.uartAt n).xonDue = false ∧ (s.uartAt n).hunt = true ∧ (s.uartAt n).armed = true) ∧ (r.low = false ∧ r.pattern = true ∧ 1200 ≤ huntRate r.clocks ∧ huntRate r.clocks ≤ 921600 ∧ (s.uartAt n).rx = []) :=
  ⟨tUartHunt, 0, { data := 13, clocks := 4262, pattern := true }, by decide +kernel⟩
theorem wit_PortsRun_5 : ∃ (s : State) (n : Nat), (s.uartRuns n = true ∧ (s.uartAt n).hunt = true) :=
  ⟨{ tUartHunt with uarts := [(0, { enabled := true, hunt := true })] }, 0, by decide +kernel⟩
theorem wit_PortsRun_6 : ∃ (s : State) (n : Nat), (s.uartRuns n = true ∧ (s.uartAt n).xoffDue = true) :=
  ⟨tUartX, 0, by decide +kernel⟩
theorem wit_PortsRun_7 : ∃ (s : State) (n : Nat) (c : Nat), (n < 2 ∧ (s.uartAt n).apply_ = some c ∧ s.replySent c = true ∧ s.replySent n = true ∧ (s.uartAt n).rehunt = true ∧ s.isOn .uart n "AUTOBAUD" = false) :=
  ⟨tUartSet, 0, 0, by decide +kernel⟩
theorem wit_PortsRun_8 : ∃ (s : State) (c : Nat), (s.spi.apply_ = some c ∧ s.replySent c = true ∧ s.spi.header = none ∧ s.spi.early = false) :=
  ⟨{ tReady with spi := { enabled := true, apply_ := some 0 }, cfg := [(⟨.spi, 0, "", "SPIMODE"⟩, .n 3)] }, 0, by decide +kernel⟩
theorem wit_PortsRun_9 : ∃ (s : State) (n : Nat) (c : Nat), (n < 2 ∧ (s.i2cAt n).apply_ = some c ∧ s.replySent c = true ∧ (s.i2cAt n).busy = none) :=
  ⟨{ tReady with i2cs := [(1, { enabled := true, apply_ := some 0 })], cfg := [(⟨.i2c, 1, "", "RATE"⟩, .n 100)] }, 1, 0, by decide +kernel⟩
theorem wit_PortsRun_10 : ∃ (s : State) (i : Nat) (p : Phrase), (s.mayRun i p = true ∧ p.names .set .uart (some 0) ∧ p.attrs.map AttrTok.name = ["ENABLE"] ∧ p.value "ENABLE" = some "ON") ∧ (s.unitErrs i p .uart (some 0) = [] ∧ setAttrErrs (uartAttrs 0) (s.sessAt i).super p = [] ∧ s.funcErrs (portFuncs .uart 0 false) [] = [] ∧ i ≠ 0) ∧ (s.isOn .uart 0 "ENABLE" = false ∧ s.word .uart 2 "MODE" ≠ "RAW") :=
  ⟨tUartPins, 1, tPh .set (some ⟨.uart, .one 0, ""⟩) [tAt "ENABLE" "ON"], by decide +kernel⟩
theorem wit_PortsRun_11 : ∃ (s : State) (i : Nat) (p : Phrase), (s.mayRun i p = true ∧ p.names .set .uart (some 0) ∧ p.attrs.map AttrTok.name = ["ENABLE"] ∧ p.value "ENABLE" = some "OFF") ∧ (s.unitErrs i p .uart (some 0) = [] ∧ setAttrErrs (uartAttrs 0) (s.sessAt i).super p = [] ∧ i ≠ 0) :=
  ⟨{ tUartPins with uarts := [(0, { enabled := true })], sess := [(0, { opened := true }), (1, { opened := true, super := true })] }, 1, tPh .set (some ⟨.uart, .one 0, ""⟩) [tAt "ENABLE" "OFF"], by decide +kernel⟩
theorem wit_PortsRun_12 : ∃ (s : State) (i : Nat) (p : Phrase), (s.mayRun i p = true ∧ p.names .set .spi none ∧ p.attrs.map AttrTok.name = ["ENABLE"] ∧ p.value "ENABLE" = some "ON") ∧ (s.unitErrs i p .spi none = [] ∧ setAttrErrs spiAttrs (s.sessAt i).super p = [] ∧ s.funcErrs (portFuncs .spi 0 false) [] = [] ∧ i ≠ 2) ∧ (s.isOn .spi 0 "ENABLE" = false ∧ s.word .uart 2 "MODE" ≠ "RAW") :=
  ⟨tSpiPins, 0, tPh .set (some ⟨.spi, .none, ""⟩) [tAt "ENABLE" "ON"], by decide +kernel⟩
theorem wit_PortsRun_13 : ∃ (s : State) (i : Nat) (n : Nat) (p : Phrase), (s.mayRun i p = true ∧ p.names .set .i2c (some n) ∧ n < 2 ∧ p.attrs.map AttrTok.name = ["ENABLE"] ∧ p.value "ENABLE" = some "ON") ∧ (s.unitErrs i p .i2c (some n) = [] ∧ setAttrErrs i2cAttrs (s.sessAt i).super p = [] ∧ s.funcErrs (portFuncs .i2c n false) [] = []) ∧ (s.isOn .i2c n "ENABLE" = false ∧ s.word .uart 2 "MODE" ≠ "RAW") :=
  ⟨tUartPins, 1, 1, tPh .set (some ⟨.i2c, .one 1, ""⟩) [tAt "ENABLE" "ON"], by decide +kernel⟩
theorem wit_PortsRun_14 : ∃ (s : State) (i : Nat) (p : Phrase) (d : List Nat), (s.mayRun i p = true ∧ p.names .arm .uart (some 2) "TX" ∧ p.attrs.map AttrTok.name = ["D"] ∧ attrVal p "D" (.bytes 1 64) = some (.l d)) ∧ (s.uart2Errs i = [] ∧ (s.uartAt 2).tx = [] ∧ 1 ≤ d.length ∧ d.length ≤ 64 ∧ s.larderGives 4 1 = true) :=
  ⟨tRaw, 0, tPh .arm (some ⟨.uart, .one 2, "TX"⟩) [tAt "D" "0x4142"], [65, 66], by decide +kernel⟩
theorem wit_PortsRun_15 : ∃ (s : State) (i : Nat) (p : Phrase), (s.mayRun i p = true ∧ p.names .get .uart (some 2) "RX" ∧ p.attrs = []) ∧ (s.uart2Errs i = [] ∧ (s.uartAt 2).rx ≠ []) :=
  ⟨tRaw, 0, tPh .get (some ⟨.uart, .one 2, "RX"⟩), by decide +kernel⟩
theorem wit_PortsRun_16 : ∃ (s : State) (i : Nat) (p : Phrase), (s.mayRun i p = true ∧ p.names .reset .uart (some 2) "RX" ∧ p.attrs = []) ∧ s.uart2Errs i = [] :=
  ⟨tRaw, 0, tPh .reset (some ⟨.uart, .one 2, "RX"⟩), by decide +kernel⟩
theorem wit_PortsRun_17 : ∃ (s : State) (i : Nat) (p : Phrase) (m : Int) (a : List UartEnt) (b : List UartEnt), (s.mayRun i p = true ∧ p.names .reset .uart (some 2) "RX" ∧ p.attrs.map AttrTok.name = ["UPTO"] ∧ attrVal p "UPTO" (.int 1 4294967295) = some (.n m)) ∧ (s.uart2Errs i = [] ∧ (s.uartAt 2).rx = a ++ b ∧ (∀ e ∈ a, instUpTo m.toNat e.inst = true) ∧ ∀ e ∈ b, instUpTo m.toNat e.inst = false) :=
  ⟨tRaw, 0, tPh .reset (some ⟨.uart, .one 2, "RX"⟩) [tAt "UPTO" "9"], 9, [{ data := 65, inst := 9 }], [{ data := 66, tag := 1, ovr := true, inst := 10 }], by decide +kernel⟩
theorem wit_PortsRun_18 : ∃ (s : State), (s.spi.enabled = true ∧ s.spi.header = none ∧ s.spi.lastRise = none) :=
  ⟨tSpi, by decide +kernel⟩
theorem wit_PortsRun_19 : ∃ (s : State) (bytes : List Nat) (h : Nat × Nat × Nat × Nat), (s.spi.enabled = true ∧ s.spi.header = some h ∧ s.spi.rxbuf.length ≤ 512) ∧ (4 ≤ bytes.length ∧ bytes.length ≤ 256 ∧ bytes.getD 0 0 < 253 ∧ bytes.length ≥ 4 + bytes.getD 0 0 ∧ bytes.getD 1 0 = Nat.xor (bytes.getD 0 0) 255 ∧ bytes.getD 2 0 = 0 ∧ bytes.getD 3 0 = 0) ∧ bytes.getD 0 0 ≤ 512 - s.spi.rxbuf.length :=
  ⟨tSpiIn, [2, 253, 0, 0, 71, 69, 0], (129, 4, 252, 0), by decide +kernel⟩
theorem wit_PortsRun_20 : ∃ (s : State) (bytes : List Nat) (h : Nat × Nat × Nat × Nat), (s.spi.enabled = true ∧ s.spi.header = some h) ∧ (4 ≤ bytes.length ∧ bytes.getD 1 0 ≠ Nat.xor (bytes.getD 0 0) 255 ∧ bytes.length ≤ 256 ∧ bytes.length ≥ 4 + bytes.getD 0 0) :=
  ⟨tSpiIn, [2, 252, 0, 0, 71, 69, 0], (129, 4, 252, 0), by decide +kernel⟩
theorem wit_PortsRun_21 : ∃ (s : State) (i : Nat) (n : Nat) (p : Phrase) (b : I2cBus) (a : Int), (s.mayRun i p = true ∧ p.names .get .i2c (some n) "XFER" ∧ p.attrs.map AttrTok.name = ["ADDR", "R"] ∧ attrVal p "ADDR" (.int 8 119) = some (.n a)) ∧ (n < 2 ∧ s.retired 41 = false ∧ s.useErrs i .i2c n = [] ∧ optAttr p "R" (.int 0 64) = [] ∧ (s.i2cAt n).enabled = true ∧ (s.i2cAt n).busy = none) ∧ (b.sclLow = false ∧ b.sdaFree = none ∧ b.outcome = 0) :=
  ⟨tI2c, 0, 1, tI2cRead, { r := [1, 2] }, 80, by decide +kernel⟩
theorem wit_PortsRun_22 : ∃ (s : State) (i : Nat) (n : Nat) (p : Phrase) (b : I2cBus) (a : Int) (w : List Nat), (s.mayRun i p = true ∧ p.names .set .i2c (some n) "XFER" ∧ p.attrs.map AttrTok.name = ["ADDR", "W"] ∧ attrVal p "ADDR" (.int 8 119) = some (.n a) ∧ attrVal p "W" (.bytes 0 64) = some (.l w)) ∧ (n < 2 ∧ s.retired 41 = false ∧ s.useErrs i .i2c n = [] ∧ (s.i2cAt n).enabled = true ∧ (s.i2cAt n).busy = none) ∧ (b.sclLow = false ∧ b.sdaFree = none ∧ b.outcome = 1) :=
  ⟨tI2c, 0, 1, tI2cPh, { outcome := 1, at_ := 2 }, 80, [1, 2], by decide +kernel⟩
theorem wit_PortsRun_23 : ∃ (s : State) (n : Nat) (j : Nat) (q : Phrase) (b : I2cBus), ((s.i2cAt n).busy = some (j, q, b) ∧ b.outcome = 4) :=
  ⟨tI2cBusy, 1, 0, tI2cPh, { outcome := 4 }, by decide +kernel⟩
theorem wit_PinsAndRegisters_1 : ∃ (s : State) (k : Nat) (high : Bool), k < 64 ∧ (s.bankDown (k / 16) = false ∧ (s.pinAt k).val ≠ high ∧ (s.pinAt k).lineAt = none ∧ (s.pinAt k).since = 0) ∧ (s.word .pin k "IRQ" = "BOTH" ∨ s.word .pin k "IRQ" = (if high then "RISE" else "FALL")) :=
  ⟨tPin, 9, true, by decide +kernel⟩
theorem wit_PinsAndRegisters_2 : ∃ (s : State) (k : Nat) (ts : Nat) (d : Nat) (high : Bool), k < 64 ∧ (s.bankDown (k / 16) = false ∧ (s.pinAt k).val ≠ high ∧ s.evminEnd k = some d ∧ max s.now ts < d ∧ s.word .pin k "IRQ" = "BOTH") :=
  ⟨tPinWait, 9, 6000000, 50000000, false, by decide +kernel⟩
theorem wit_PinsAndRegisters_3 : ∃ (s : State) (k : Nat) (ts : Nat), k < 64 ∧ (s.bankDown (k / 16) = true ∧ s.now ≤ ts) :=
  ⟨{ tPin with pins := { down := [0] } }, 9, 400, by decide +kernel⟩
theorem wit_PinsAndRegisters_4 : ∃ (s : State) (k : Nat) (d : Nat), k < 64 ∧ (s.evminEnd k = some d ∧ 0 < (s.pinAt k).since) :=
  ⟨tPinDue, 9, 50000000, by decide +kernel⟩
theorem wit_PinsAndRegisters_5 : ∃ (s : State) (k : Nat), k < 64 ∧ (s.bankDown (k / 16) = false ∧ s.word .pin k "IRQ" = "HIGH" ∧ (s.pinAt k).evt = false) :=
  ⟨tPin, 10, by decide +kernel⟩
theorem wit_PinsAndRegisters_6 : ∃ (s : State) (k : Nat) (b : Nat), k < 64 ∧ (b < 4 ∧ s.bankDown b = false) :=
  ⟨tPin, 9, 2, by decide +kernel⟩
theorem wit_PinsAndRegisters_7 : ∃ (s : State) (k : Nat) (b : Nat) (ls : List Bool), k < 64 ∧ (b < 4 ∧ s.bankDown b = true ∧ ls.length = 16 ∧ ∀ j, j < 16 → s.word .pin (16 * b + j) "IRQ" = "NONE") :=
  ⟨{ tReady with pins := { down := [2] } }, 9, 2, [true, false, true, true, false, false, false, false, true, false, true, true, false, false, false, false], by decide +kernel⟩
theorem wit_PinsAndRegisters_8 : ∃ (s : State) (i : Nat) (k : Nat) (p : Phrase), k < 64 ∧ (s.mayRun i p = true ∧ p.names .set .pin (some k) ∧ p.has "FUNC" = true ∧ (p.attrs.map AttrTok.name).Nodup) ∧ (s.unitErrs i p .pin (some k) = [] ∧ setAttrErrs pinAttrs (s.sessAt i).super p = [] ∧ s.funcSetErrs k p = [] ∧ ¬(s.pinlock = true ∧ s.owner .pin k = secureOwner)) ∧ (p.has "TYPE" = false ∧ p.has "DRIVE" = false ∧ p.has "PULL" = false ∧ p.has "LEVEL" = false ∧ p.has "IRQ" = false) :=
  ⟨tPinSet, 0, 9, tPh .set (some ⟨.pin, .one 9, ""⟩) [tAt "FUNC" "CNTA3", tAt "DIR" "IN"], by decide +kernel⟩
theorem wit_PinsAndRegisters_9 : ∃ (s : State) (i : Nat) (k : Nat) (p : Phrase), k < 64 ∧ (s.mayRun i p = true ∧ p.names .reset .pin (some k) ∧ p.attrs = [] ∧ s.unitErrs i p .pin (some k) = [] ∧ s.levelHolds k = false) :=
  ⟨tPinSet, 0, 9, tPh .reset (some ⟨.pin, .one 9, ""⟩), by decide +kernel⟩
theorem wit_PinsAndRegisters_10 : ∃ (s : State) (i : Nat) (k : Nat) (p : Phrase) (o : Nat) (v : Nat), k < 64 ∧ (s.mayRun i p = true ∧ o < 5 ∧ p.names .set .reg (some (0xF0400 + 64 * o + 4 * (k / 32))) ∧ p.attrs.map AttrTok.name = ["VALUE"]) ∧ (attrVal p "VALUE" (.int 0 4294967295) = some (.n v) ∧ s.setRegErrs i p (0xF0400 + 64 * o + 4 * (k / 32)) = []) :=
  ⟨tGroup, 0, 40, tRegSet "F0404" "0x300", 0, 768, by decide +kernel⟩
theorem wit_PinsAndRegisters_11 : ∃ (s : State) (i : Nat) (k : Nat) (p : Phrase) (o : Nat) (v : Nat), k < 64 ∧ (s.mayRun i p = true ∧ o < 5 ∧ p.names .set .reg (some (0xF0408 + 64 * o + 4 * (k / 32))) ∧ p.attrs.map AttrTok.name = ["VALUE"]) ∧ (attrVal p "VALUE" (.int 0 4294967295) = some (.n v) ∧ s.setRegErrs i p (0xF0408 + 64 * o + 4 * (k / 32)) = []) :=
  ⟨tGroup, 0, 40, tRegSet "F040C" "0x300", 0, 768, by decide +kernel⟩
theorem wit_PinsAndRegisters_12 : ∃ (s : State) (i : Nat) (k : Nat) (p : Phrase) (o : Nat) (v : Nat), k < 64 ∧ (s.mayRun i p = true ∧ o < 5 ∧ p.names .set .reg (some (0xF0410 + 64 * o + 4 * (k / 32))) ∧ p.attrs.map AttrTok.name = ["VALUE"]) ∧ (attrVal p "VALUE" (.int 0 4294967295) = some (.n v) ∧ s.setRegErrs i p (0xF0410 + 64 * o + 4 * (k / 32)) = []) :=
  ⟨tGroup, 0, 9, tRegSet "F0410" "0x300", 0, 768, by decide +kernel⟩
theorem wit_PinsAndRegisters_13 : ∃ (s : State) (i : Nat) (k : Nat) (p : Phrase) (o : Nat) (v : Nat), k < 64 ∧ (s.mayRun i p = true ∧ o < 5 ∧ p.names .set .reg (some (0xF0418 + 64 * o + 4 * (k / 32))) ∧ p.attrs.map AttrTok.name = ["VALUE"]) ∧ (attrVal p "VALUE" (.int 0 4294967295) = some (.n v) ∧ s.setRegErrs i p (0xF0418 + 64 * o + 4 * (k / 32)) = []) :=
  ⟨tPinSet, 0, 9, tRegSet "F0418" "0x300", 0, 768, by decide +kernel⟩
theorem wit_PinsAndRegisters_14 : ∃ (s : State) (i : Nat) (k : Nat) (p : Phrase) (v : Nat), k < 64 ∧ (s.mayRun i p = true ∧ p.names .set .reg (some 0x10004) ∧ p.attrs.map AttrTok.name = ["VALUE"] ∧ attrVal p "VALUE" (.int 0 4294967295) = some (.n v)) ∧ s.setRegErrs i p 0x10004 = [] :=
  ⟨tReady, 0, 0, tRegSet "10004" "2", 2, by decide +kernel⟩
theorem wit_PinsAndRegisters_15 : ∃ (s : State) (i : Nat) (k : Nat) (p : Phrase) (v : Nat), k < 64 ∧ (s.mayRun i p = true ∧ p.names .set .reg (some 0x130004) ∧ p.attrs.map AttrTok.name = ["VALUE"] ∧ attrVal p "VALUE" (.int 0 4294967295) = some (.n v)) ∧ (s.setRegErrs i p 0x130004 = [] ∧ ∀ c ∈ s.faults.latch, c < 32) :=
  ⟨{ tReady with faults := { latch := [1, 4, 9] } }, 0, 0, tRegSet "130004" "0x12", 18, by decide +kernel⟩
theorem wit_PinsAndRegisters_16 : ∃ (s : State) (i : Nat) (k : Nat) (p : Phrase) (v : Nat) (r : ARec), k < 64 ∧ (s.mayRun i p = true ∧ p.names .set .reg (some 0x110044) ∧ p.attrs.map AttrTok.name = ["VALUE"] ∧ attrVal p "VALUE" (.int 0 4294967295) = some (.n v)) ∧ (s.setRegErrs i p 0x110044 = [] ∧ v < 65536 ∧ s.atticRec 0 (s.attic.selLo.toNat + 2 ^ 32 * v) = some r) ∧ (s.atticOldest 0 ≤ s.attic.selLo.toNat + 2 ^ 32 * v ∧ s.attic.selLo.toNat + 2 ^ 32 * v ≤ s.atticNewest 0) :=
  ⟨tAtticRegs, 0, 0, tRegSet "110044" "0", 0, { log := 0, code := 5, seq := 1 }, by decide +kernel⟩
theorem wit_PinsAndRegisters_17 : ∃ (s : State) (i : Nat) (k : Nat) (p : Phrase) (v : Nat), k < 64 ∧ (s.mayRun i p = true ∧ p.names .set .reg (some 0x110044) ∧ p.attrs.map AttrTok.name = ["VALUE"] ∧ attrVal p "VALUE" (.int 0 4294967295) = some (.n v)) ∧ (s.setRegErrs i p 0x110044 = [] ∧ v < 65536 ∧ s.atticNewest 0 < s.attic.selLo.toNat + 2 ^ 32 * v) :=
  ⟨tAtticRegs, 0, 0, tRegSet "110044" "1", 1, by decide +kernel⟩
theorem wit_PinsAndRegisters_18 : ∃ (s : State) (i : Nat) (k : Nat) (p : Phrase) (v : Nat), k < 64 ∧ (s.mayRun i p = true ∧ p.names .set .reg (some (0xF0100 + 4 * k)) ∧ p.attrs.map AttrTok.name = ["VALUE"] ∧ attrVal p "VALUE" (.int 0 4294967295) = some (.n v)) ∧ s.setRegErrs i p (0xF0100 + 4 * k) = [] :=
  ⟨tPinSet, 0, 9, tRegSet "F0124" "5", 5, by decide +kernel⟩
theorem wit_PinsAndRegisters_19 : ∃ (s : State) (i : Nat) (k : Nat) (p : Phrase) (v : Nat), k < 64 ∧ (s.mayRun i p = true ∧ p.names .set .reg (some (0xF0000 + 4 * k)) ∧ p.attrs.map AttrTok.name = ["VALUE"] ∧ attrVal p "VALUE" (.int 0 4294967295) = some (.n v)) ∧ s.setRegErrs i p (0xF0000 + 4 * k) = [] :=
  ⟨tPinSet, 0, 9, tRegSet "F0024" "5", 5, by decide +kernel⟩
theorem wit_PinsAndRegisters_20 : ∃ (s : State) (i : Nat) (k : Nat) (p : Phrase) (a : Nat) (v : Nat), k < 64 ∧ (s.mayRun i p = true ∧ p.names .get .reg (some a) ∧ p.attrs = [] ∧ a / 0x10000 ≠ 0xC) ∧ (s.takePhrase i p).map (fun x => (((x.counted i).reg a).val, (x.counted i).regErrs i p a, (x.counted i).regPair a)) = some (v, [], none) :=
  ⟨tPinSet, 0, 9, tPh .get (some ⟨.reg, .one 0xF0124, ""⟩), 0xF0124, 3, by decide +kernel⟩
theorem wit_PinsAndRegisters_21 : ∃ (s : State) (i : Nat) (k : Nat) (p : Phrase) (a : Nat) (v : Nat) (c : String), k < 64 ∧ (s.mayRun i p = true ∧ p.names .showV .reg (some a) ∧ p.attrs = [] ∧ a / 0x10000 ≠ 0xC ∧ (s.takePhrase i p).map (fun x => ((x.counted i).reg a).classText) = some c) ∧ (s.takePhrase i p).map (fun x => (((x.counted i).reg a).val, (x.counted i).regErrs i p a, (x.counted i).regPair a)) = some (v, [], none) :=
  ⟨tPinSet, 0, 9, tPh .showV (some ⟨.reg, .one 0xF0124, ""⟩), 0xF0124, 3, "[31:0]COUNTER", by decide +kernel⟩
theorem wit_TimeAtticAndTrace_1 : ∃ (s : State) (off : Int) (g : Nat), (s.times.gpsOff = some off ∧ s.gpsTime = some g ∧ s.times.calSrc ≠ .gps) :=
  ⟨tGpsFirst, 80000000700, 85000000700, by decide +kernel⟩
theorem wit_TimeAtticAndTrace_2 : ∃ (s : State) (off : Int) (g : Nat), (s.times.gpsOff = some off ∧ s.gpsTime = some g ∧ s.times.calSrc = .gps) ∧ (let d := (((s.advanceTo (((s.nextCompare g * 1000000000 : Nat) : Int) - off).toNat).now : Int) + off).toNat - ((s.advanceTo (((s.nextCompare g * 1000000000 : Nat) : Int) - off).toNat).times.cal : Int); d.natAbs ≤ 1000000) :=
  ⟨tGps, 85000000700, 90000000700, by decide +kernel⟩
theorem wit_TimeAtticAndTrace_3 : ∃ (s : State) (i : Nat) (p : Phrase) (c : Nat), (s.mayRun i p = true ∧ p.names .set .time none ∧ p.attrs.map AttrTok.name = ["CAL"] ∧ attrVal p "CAL" (.int 0 9223372036854775807) = some (.n c)) ∧ (s.unitErrs i p .time none = [] ∧ setAttrErrs timeAttrs (s.sessAt i).super p = [] ∧ s.times.gpsOff = none) :=
  ⟨tTime, 0, tPh .set (some ⟨.time, .none, ""⟩) [tAt "CAL" "1234"], 1234, by decide +kernel⟩
theorem wit_TimeAtticAndTrace_4 : ∃ (s : State) (i : Nat) (p : Phrase) (a : Nat), (s.mayRun i p = true ∧ p.names .set .time none ∧ p.attrs.map AttrTok.name = ["ALARMIN"] ∧ attrVal p "ALARMIN" (.timeW 1000000 2592000000000 1 ["NONE"]) = some (.n a)) ∧ (s.unitErrs i p .time none = [] ∧ setAttrErrs timeAttrs (s.sessAt i).super p = []) :=
  ⟨tTime, 0, tPh .set (some ⟨.time, .none, ""⟩) [tAt "ALARMIN" "2s"], 2000000, by decide +kernel⟩
theorem wit_TimeAtticAndTrace_5 : ∃ (s : State) (a : Nat), (s.times.alarm = some a ∧ s.awake = true ∧ s.power.dstate ≠ .shutdown) :=
  ⟨{ tTime with times := { tTime.times with alarm := some 6000000000 } }, 6000000000, by decide +kernel⟩
theorem wit_TimeAtticAndTrace_6 : ∃ (s : State), (s.times.rtcRC = false ∧ s.awake = true) :=
  ⟨tTime, by decide +kernel⟩
theorem wit_TimeAtticAndTrace_7 : ∃ (s : State), (s.times.rtcRC = true ∧ s.awake = true) :=
  ⟨{ tTime with times := { tTime.times with rtcRC := true, calSrc := .none_ } }, by decide +kernel⟩
theorem wit_TimeAtticAndTrace_8 : ∃ (s : State) (a : Nat) (new : Nat), (s.times.leapSched = some (a, new) ∧ s.times.gpsOff = none ∧ s.calValid = true ∧ s.times.cal ≤ a * 1000000000) :=
  ⟨tLeap, 100, 19, by decide +kernel⟩
theorem wit_TimeAtticAndTrace_9 : ∃ (s : State), (s.awake = true ∧ s.attic.committed = false) :=
  ⟨{ tTime with times := { tTime.times with hoursNs := 7000000000 } }, by decide +kernel⟩
theorem wit_TimeAtticAndTrace_10 : ∃ (s : State) (r : ARec) (l : List ARec), (s.attic.pend = r :: l ∧ r.log = 0 ∧ s.attic.lost0 = 0 ∧ s.retired 39 = false ∧ s.attic.scanned = true ∧ 1 ≤ s.attic.next0 ∧ s.attic.next0 < 2 ^ 48 - 1) :=
  ⟨tAttic, tPendRec, [{ log := 1, code := 0x020A }], by decide +kernel⟩
theorem wit_TimeAtticAndTrace_11 : ∃ (s : State) (i : Nat) (p : Phrase) (d : List Nat), (s.mayRun i p = true ∧ p.names .save .attic (some 0) ∧ p.attrs.map AttrTok.name = ["D"] ∧ attrVal p "D" (.bytes 1 25) = some (.l d)) ∧ (s.unitErrs i p .attic (some 0) true = [] ∧ (s.hostRecent i).length < 10 ∧ s.attic.pend.length < 64 ∧ s.larderGives 4 1 = true ∧ s.retired 39 = false ∧ s.attic.committed = false ∧ s.calValid = true ∧ s.times.calSrc = .gps) :=
  ⟨tGps, 0, tPh .save (some ⟨.attic, .one 0, ""⟩) [tAt "D" "0x0102"], [1, 2], by decide +kernel⟩
theorem wit_TimeAtticAndTrace_12 : ∃ (s : State) (i : Nat) (n : Nat) (p : Phrase), (s.mayRun i p = true ∧ p.names .get .attic (some n) ∧ n < 2 ∧ p.attrs = [] ∧ s.atticOldest n ≤ s.atticNewest n ∧ (s.atticRec n (s.atticOldest n)).isSome = true) :=
  ⟨{ tAttic with attic := { tAttic.attic with ring0 := [(0, { log := 0, code := 0x01F0, seq := 1 })], next0 := 2 } }, 0, 0, tPh .get (some ⟨.attic, .one 0, ""⟩), by decide +kernel⟩
theorem wit_TimeAtticAndTrace_13 : ∃ (s : State) (i : Nat) (n : Nat) (p : Phrase), (s.mayRun i p = true ∧ p.names .reset .attic (some n) ∧ n < 2 ∧ p.attrs = [] ∧ s.retired 39 = false ∧ s.attic.committed = false ∧ s.attic.pend.length < 64 ∧ s.larderGives 4 1 = true) :=
  ⟨tAttic, 0, 1, tPh .reset (some ⟨.attic, .one 1, ""⟩), by decide +kernel⟩
theorem wit_TimeAtticAndTrace_14 : ∃ (s : State) (l : TLine) (ls : List TLine), (s.trace.queue = l :: ls ∧ s.traceGoes = true ∧ s.word .trace 0 "DEST" = "UART2" ∧ s.trace.lost = 0) :=
  ⟨tTrace, { t := 7000, text := "ODO.3 START" }, [{ t := 8000, text := "X" }], by decide +kernel⟩
theorem wit_TimeAtticAndTrace_15 : ∃ (s : State) (i : Nat) (p : Phrase), (s.mayRun i p = true ∧ p.names .start .trace none ∧ p.attrs = [] ∧ s.unitErrs i p .trace none = [] ∧ s.trace.running = false) ∧ (s.word .trace 0 "DEST" ≠ "UART2" ∨ s.word .uart 2 "MODE" = "TRACE") :=
  ⟨tRing, 0, tPh .start (some ⟨.trace, .none, ""⟩), by decide +kernel⟩
theorem wit_TimeAtticAndTrace_16 : ∃ (s : State) (i : Nat) (p : Phrase), (s.mayRun i p = true ∧ p.names .stop .trace none ∧ p.attrs = [] ∧ s.unitErrs i p .trace none = []) :=
  ⟨tTrace, 0, tPh .stop (some ⟨.trace, .none, ""⟩), by decide +kernel⟩
theorem wit_TimeAtticAndTrace_17 : ∃ (s : State) (i : Nat) (p : Phrase) (x : Nat × String) (xs : List (Nat × String)), (s.mayRun i p = true ∧ p.names .get .trace none ∧ p.attrs = [] ∧ s.trace.ring = x :: xs) :=
  ⟨tRing, 0, tPh .get (some ⟨.trace, .none, ""⟩), (4, "T 1 7 ODO.3 START why=HOST\r\n"), [(5, "T 2 9 ODO.3 STOP\r\n")], by decide +kernel⟩
theorem wit_TimeAtticAndTrace_18 : ∃ (s : State) (i : Nat) (p : Phrase), (s.mayRun i p = true ∧ p.names .reset .trace none ∧ p.attrs = [] ∧ s.unitErrs i p .trace none = []) :=
  ⟨tRing, 0, tPh .reset (some ⟨.trace, .none, ""⟩), by decide +kernel⟩
theorem wit_TimeAtticAndTrace_19 : ∃ (s : State) (i : Nat) (p : Phrase) (k : Int) (x : Nat × String) (a : List (Nat × String)) (b : List (Nat × String)), (s.mayRun i p = true ∧ p.names .reset .trace none ∧ p.attrs.map AttrTok.name = ["UPTO"] ∧ s.unitErrs i p .trace none = [] ∧ attrVal p "UPTO" (.int 1 4294967295) = some (.n k)) ∧ (s.trace.ring = a ++ x :: b ∧ x.1 = k.toNat ∧ ∀ y ∈ a, y.1 ≠ k.toNat) :=
  ⟨tRing, 0, tPh .reset (some ⟨.trace, .none, ""⟩) [tAt "UPTO" "4"], 4, (4, "T 1 7 ODO.3 START why=HOST\r\n"), [], [(5, "T 2 9 ODO.3 STOP\r\n")], by decide +kernel⟩
theorem wit_TimeAtticAndTrace_20 : ∃ (s : State) (a : Nat), (s.trace.asleep = some a ∧ s.power.dstate = .shutdown) :=
  ⟨{ tTrace with power := { tReady.power with dstate := .shutdown }, trace := { tTrace.trace with asleep := some 3000 } }, 3000, by decide +kernel⟩
theorem wit_RailsShutdownAndStart_1 : ∃ (s : State), (s.power.dstate = .ready ∨ s.power.dstate = .run ∨ s.power.dstate = .safe) :=
  ⟨tDriving, by decide +kernel⟩
theorem wit_RailsShutdownAndStart_2 : ∃ (s : State), (s.power.dstate = .shutdown ∧ s.power.trigger = some 1) :=
  ⟨tShut, by decide +kernel⟩
theorem wit_RailsShutdownAndStart_3 : ∃ (s : State), (s.power.ign = true ∧ s.ignActs = true ∧ s.power.wakeholdEnd = 0) :=
  ⟨tIgn, by decide +kernel⟩
theorem wit_RailsShutdownAndStart_4 : ∃ (s : State), (s.power.ign = false ∧ s.awake = true) :=
  ⟨{ tIgn with power := { tIgn.power with ign := false, ignLowSince := some 0 } }, by decide +kernel⟩
theorem wit_RailsShutdownAndStart_5 : ∃ (s : State) (a : Nat), (s.power.ignLowSince = some a ∧ s.ignActs = true) :=
  ⟨{ tIgn with power := { tIgn.power with ign := false, ignLowSince := some 0 } }, 0, by decide +kernel⟩
theorem wit_RailsShutdownAndStart_6 : ∃ (s : State), (s.power.wakeholdEnd ≠ 0 ∧ s.ignActs = true ∧ s.power.ign = false ∧ s.power.ignLowSince = none) :=
  ⟨{ tIgn with power := { tIgn.power with ign := false, wakeholdEnd := 5000000 } }, by decide +kernel⟩
theorem wit_RailsShutdownAndStart_7 : ∃ (s : State), (s.power.dstate = .shutdown ∧ s.power.step = 1 ∧ s.retired 39 = false ∧ s.attic.scanned = true ∧ s.attic.pend = [] ∧ s.attic.lost1 = 0 ∧ 1 ≤ s.attic.next1 ∧ s.attic.next1 < 2 ^ 48 - 1) :=
  ⟨tShut, by decide +kernel⟩
theorem wit_RailsShutdownAndStart_8 : ∃ (s : State), (s.power.dstate = .shutdown ∧ s.power.step = 2 ∧ s.attic.scanned = true ∧ s.power.trigger = some 1 ∧ s.cellar.logPend = []) :=
  ⟨{ tShut with power := { tShut.power with step := 2 }, gnss := { aid := { eph := [(11, 0, false)] } } }, by decide +kernel⟩
theorem wit_RailsShutdownAndStart_9 : ∃ (s : State) (mv : Nat), (s.power.dstate = .shutdown ∧ s.power.step = 3 ∧ mv < 2250) :=
  ⟨{ tShut with power := { tShut.power with step := 3 } }, 2000, by decide +kernel⟩
theorem wit_RailsShutdownAndStart_10 : ∃ (s : State) (mv : Nat), (s.power.dstate = .shutdown ∧ s.power.step = 3 ∧ 2250 ≤ mv ∧ s.power.latched = none ∧ s.power.trigger = some 0) :=
  ⟨{ tShut with power := { tShut.power with step := 3, trigger := some 0 } }, 2500, by decide +kernel⟩
theorem wit_RailsShutdownAndStart_11 : ∃ (s : State) (mv : Nat), (s.power.dstate = .shutdown ∧ s.power.step = 3 ∧ 2250 ≤ mv ∧ s.power.latched = none ∧ s.power.trigger = some 1 ∧ s.power.ignBack = false) :=
  ⟨{ tShut with power := { tShut.power with step := 3 } }, 3300, by decide +kernel⟩
theorem wit_RailsShutdownAndStart_12 : ∃ (s : State) (mv : Nat), (s.power.dstate = .off ∧ s.power.watchVlog = true ∧ s.nat .power 0 "VLOGWARN" + 100 ≤ mv) :=
  ⟨{ power := { dstate := .off, watchVlog := true } }, 4800, by decide +kernel⟩
theorem wit_RailsShutdownAndStart_14 : ∃ (s : State), (s.power.dstate = .ready ∨ s.power.dstate = .run ∨ s.power.dstate = .safe) :=
  ⟨tDriving, by decide +kernel⟩
theorem wit_RailsShutdownAndStart_16 : ∃ (s : State) (r : BootReport), (s.power.dstate = .boot ∧ s.power.inReset = false ∧ s.power.noTcxo = false ∧ r.tcxo = true ∧ r.bistFail = []) :=
  ⟨tBoot, { ign := true, vlog := 3300 }, by decide +kernel⟩
theorem wit_RailsShutdownAndStart_17 : ∃ (s : State) (r : BootReport), (s.power.dstate = .boot ∧ s.power.inReset = false ∧ s.power.noTcxo = false ∧ r.tcxo = false) :=
  ⟨tBoot, { tcxo := false }, by decide +kernel⟩
theorem wit_RailsShutdownAndStart_18 : ∃ (s : State), s.power.noTcxo = true :=
  ⟨{ tBoot with power := { tBoot.power with noTcxo := true } }, by decide +kernel⟩
theorem wit_RailsShutdownAndStart_19 : ∃ (s : State) (r : RailIn), (s.awake = true ∧ s.power.railA ≠ railOf r ∧ (r = .crank → s.power.railA = .ok)) :=
  ⟨tDriving, .uv, by decide +kernel⟩
theorem wit_RailsShutdownAndStart_20 : ∃ (s : State), (s.power.vxslow = false ∧ s.awake = true) :=
  ⟨tCellar, by decide +kernel⟩
theorem wit_RailsShutdownAndStart_21 : ∃ (s : State), (s.power.vxslow = true ∧ s.awake = true) :=
  ⟨{ tCellar with power := { tReady.power with vxslow := true } }, by decide +kernel⟩
theorem wit_RailsShutdownAndStart_23 : ∃ (s : State) (w : WakeIn), (s.power.dstate = .standby ∧ s.power.waking = false ∧ w.waken = true ∧ (splitStr ',' (s.word .power 0 "WAKESRC")).contains "WAKEN" = true) :=
  ⟨tStandby, { waken := true, periods := 1 }, by decide +kernel⟩
theorem wit_RailsShutdownAndStart_24 : ∃ (s : State) (r : WakeReport), (s.power.dstate = .standby ∧ s.power.waking = true ∧ r.bistFail = [] ∧ (s.retired 2 = false ∨ s.retired 3 = false)) :=
  ⟨{ tStandby with power := { tStandby.power with waking := true, lastwake := ["WAKEN"] } }, { ms := 50 }, by decide +kernel⟩
theorem wit_RailsShutdownAndStart_25 : ∃ (s : State), s.power.dstate = .standby :=
  ⟨tStandby, by decide +kernel⟩
theorem wit_UnitsOffOnLossOfSupply_1 : ∃ (s : State) (u : Nat), (u < 56 ∧ s.unitPresent u = true) ∧ (s.power.dstate = .ready ∨ s.power.dstate = .run ∨ s.power.dstate = .safe) :=
  ⟨tDriving, 5, by decide +kernel⟩
theorem wit_UnitsOffOnLossOfSupply_2 : ∃ (s : State) (u : Nat) (a : Nat), (u < 56 ∧ s.unitPresent u = true) ∧ (s.power.ignLowSince = some a ∧ s.ignActs = true) :=
  ⟨{ tIgn with units := tOnUnits, power := { tIgn.power with ign := false, ignLowSince := some 0 } }, 30, 0, by decide +kernel⟩
theorem wit_UnitsOffOnLossOfSupply_3 : ∃ (s : State) (u : Nat), (u < 56 ∧ s.unitPresent u = true) ∧ (s.awake = true ∧ unitDieB u = false ∧ s.power.railA ≠ .uv) :=
  ⟨tDriving, 5, by decide +kernel⟩
theorem wit_UnitsOffOnLossOfSupply_4 : ∃ (s : State) (u : Nat), (u < 56 ∧ s.unitPresent u = true) ∧ (s.power.dstate ≠ .off ∧ s.power.dstate ≠ .standby ∧ s.power.dstate ≠ .shutdown) :=
  ⟨tDriving, 5, by decide +kernel⟩
theorem wit_FaultsAreReported_1 : ∃ (n : Nat) (d : Detection), ((d.cls = 9 ∨ (d.cls = 8 ∧ d.detail = 0x51)) ∧ d.island = some n) :=
  ⟨42, { cls := 8, detail := 0x51, island := some 42 }, by decide +kernel⟩
theorem wit_FaultsAreReported_2 : ∃ (s : State) (n : Nat) (d : Detection), (d.cls = 14 ∧ d.island = some n ∧ n < 64 ∧ 4 ≤ n ∧ essential n = false ∧ s.retired n = false ∧ s.islandAbsent n = false) :=
  ⟨tFaulty, 22, { cls := 14, detail := 0xB0, island := some 22 }, by decide +kernel⟩
theorem wit_FaultsAreReported_3 : ∃ (s : State) (u : Nat) (ts : Nat), (u < 56 ∧ s.unitPresent u = true ∧ (s.unitAt u).retired = false ∧ max (s.unitAt u).phStart ((s.unitAt u).decaySince.getD 0) + 20000 ≤ max s.now ts ∧ Tab.get 0 s.faults.mism u = 0) :=
  ⟨tDriving, 5, 400000, by decide +kernel⟩
theorem wit_FaultsAreReported_4 : ∃ (s : State) (u : Nat) (ts : Nat), (u < 56 ∧ s.unitPresent u = true ∧ (s.unitAt u).retired = false ∧ max (s.unitAt u).phStart ((s.unitAt u).decaySince.getD 0) + 20000 ≤ max s.now ts ∧ Tab.get 0 s.faults.mism u ≠ 0) :=
  ⟨tMism, 5, 400000, by decide +kernel⟩
theorem wit_FaultsAreReported_5 : ∃ (s : State) (u : Nat), (u < 56 ∧ s.unitPresent u = true ∧ (s.unitAt u).retired = false) :=
  ⟨tMism, 5, by decide +kernel⟩
theorem wit_FaultsAreReported_6 : ∃ (s : State) (n : Nat), (48 ≤ n ∧ n < 64 ∧ s.retired n = false ∧ s.islandAbsent n = false) :=
  ⟨tDriving, 49, by decide +kernel⟩
theorem wit_FaultsAreReported_7 : ∃ (s : State) (b : Bool), ((b = false ∨ s.hasDieB = true) ∧ Tab.get none s.faults.dieLast (if b then 1 else 0) = none ∧ s.safenLow = false) :=
  ⟨tDriving, false, by decide +kernel⟩
theorem wit_FaultsAreReported_8 : ∃ (s : State) (b : Bool), (b = false ∨ s.hasDieB = true) :=
  ⟨tDriving, true, by decide +kernel⟩
theorem wit_FaultsAreReported_9 : ∃ (s : State) (i : Nat), (s.retired 2 = false ∧ s.retired 3 = false ∧ s.faults.laneChk = none ∧ i ∉ s.faults.disputed) :=
  ⟨tReady, 0, by decide +kernel⟩
theorem wit_FaultsAreReported_11 : ∃ (s : State) (a : Nat), (s.faults.laneChk = some a ∧ s.retired 2 = false ∧ s.retired 3 = false ∧ s.islandAbsent 2 = false ∧ s.islandAbsent 3 = false) :=
  ⟨{ tReady with faults := { laneChk := some 500000, disputed := [0] } }, 500000, by decide +kernel⟩
theorem wit_FaultsAreReported_12 : ∃ (s : State) (n : Nat), (1 ≤ n ∧ n < 64 ∧ 4 ≤ n ∧ essential n = false ∧ s.retired n = false ∧ s.islandAbsent n = false) :=
  ⟨tReady, 22, by decide +kernel⟩
theorem wit_FaultsAreReported_13 : ∃ (n : Nat) (k : Nat), (islandKhz n * 98 ≤ k * 100 ∧ k * 100 ≤ islandKhz n * 102) :=
  ⟨22, 98208, by decide +kernel⟩
theorem wit_FaultsAreReported_14 : ∃ (s : State) (n : Nat), (n < 64 ∧ 4 ≤ n ∧ essential n = false ∧ s.retired n = false ∧ s.islandAbsent n = false) :=
  ⟨tReady, 22, by decide +kernel⟩
theorem wit_FaultsAreReported_16 : ∃ (s : State), (s.power.dstate ≠ .off ∧ s.power.dstate ≠ .standby) :=
  ⟨tDriving, by decide +kernel⟩
theorem wit_FaultsAreReported_17 : ∃ (s : State), (Tab.get none s.faults.dieLast 0 = none ∧ s.safenLow = false) :=
  ⟨tDriving, by decide +kernel⟩
theorem wit_FaultsAreReported_19 : ∃ (s : State) (n : Nat), (n < 64 ∧ 4 ≤ n ∧ essential n = false ∧ s.retired n = false ∧ s.islandAbsent n = false) :=
  ⟨tReady, 22, by decide +kernel⟩
theorem wit_FaultsAreReported_20 : ∃ (s : State) (i : Nat) (p : Phrase), (s.mayRun i p = true ∧ p.names .test .fault none ∧ p.attrs = [] ∧ s.accessErr i .test .fault none = []) :=
  ⟨tReady, 0, tPh .test (some ⟨.fault, .none, ""⟩), by decide +kernel⟩
theorem wit_FaultsAreReported_21 : ∃ (s : State) (i : Nat) (p : Phrase), (s.mayRun i p = true ∧ p.names .reset .fault none ∧ p.attrs = [] ∧ s.accessErr i .reset .fault none = []) :=
  ⟨tFaulty, 0, tPh .reset (some ⟨.fault, .none, ""⟩), by decide +kernel⟩
theorem wit_FaultsAreReported_22 : ∃ (s : State) (n : Nat) (us : Nat), (n < 4 ∧ (s.partAt n).state = .running ∧ s.natOpt .fault n "HBTIME" = some us ∧ s.power.dstate = .run) :=
  ⟨tHbeat, 0, 500000, by decide +kernel⟩
theorem wit_FaultsAreReported_23 : ∃ (s : State) (b : Bool × List String) (c : Bool × List String), (s.faults.coverBase = some b ∧ s.faults.coverAt = none ∧ s.coverNow = c ∧ c ≠ b) :=
  ⟨tFaulty, (true, []), tFaulty.coverNow, by decide +kernel⟩

end Sys2Proof.Tests
end

namespace Sys2Proof.Machine

/-! ### What the work on sections, units and products leaves alone -/

/-- Time, settings, owners and implements: what the planner reads of the state and no command to a section, a unit or a product writes. -/
structure PlanBase where
  times : Times
  cfg   : AMap CKey Val
  own   : AMap (Noun × Nat) Nat
  impls : Tab Impl

def State.planBase (s : State) : PlanBase := ⟨s.times, s.cfg, s.own, s.impls⟩

section Writes
variable (s : State)

@[simp] theorem State.planBase_with_peer (x : Peer) : State.planBase { s with peer := x } = s.planBase := rfl
@[simp] theorem State.planBase_with_grants (x : Grants) : State.planBase { s with grants := x } = s.planBase := rfl
@[simp] theorem State.planBase_with_cellar (x : Cellar) : State.planBase { s with cellar := x } = s.planBase := rfl
@[simp] theorem State.setUnit_planBase (i : Nat) (x : Unit_) : (s.setUnit i x).planBase = s.planBase := rfl
@[simp] theorem State.setSec_planBase (i : Nat) (x : Sec) : (s.setSec i x).planBase = s.planBase := rfl
@[simp] theorem State.setOdo_planBase (i : Nat) (x : Odo) : (s.setOdo i x).planBase = s.planBase := rfl
@[simp] theorem State.setProd_planBase (i : Nat) (x : Prod_) : (s.setProd i x).planBase = s.planBase := rfl
@[simp] theorem State.setNode_planBase (a : Nat) (x : Node_) : (s.setNode a x).planBase = s.planBase := rfl
@[simp] theorem State.bump_planBase (c : String) (i : Nat) : (s.bump c i).planBase = s.planBase := rfl
@[simp] theorem State.bumpBy_planBase (c : String) (i k : Nat) : (s.bumpBy c i k).planBase = s.planBase := rfl

@[simp] theorem State.traceLine_planBase (l : Nat) (c t : String) : (s.traceLine l c t).planBase = s.planBase := by simp [State.planBase]
@[simp] theorem State.ev_planBase (c : String) (d : EvDest) (b : String) : (s.ev c d b).planBase = s.planBase := by simp [State.planBase]
@[simp] theorem State.larderRefused_planBase (o : Nat) : (s.larderRefused o).planBase = s.planBase := by simp [State.planBase]
@[simp] theorem State.setPState_planBase (n : Nat) (x : PState) (c : String) : (s.setPState n x c).planBase = s.planBase := by simp [State.planBase]

end Writes

/-- A loop whose turns leave the base alone leaves it alone. -/
theorem overList_planBase {α : Type} (f : α → State → State) (h : ∀ x a, (f x a).planBase = a.planBase) (xs : List α) (s : State) :
    (overList xs f s).planBase = s.planBase := overList_keeps State.planBase f h xs s

/-! ### The peer link -/

section Peer
variable (s : State)

@[simp] theorem State.peerPut_planBase (f : PeerTx) : (s.peerPut f).planBase = s.planBase := by
  simp [State.peerPut, apply_ite State.planBase]

@[simp] theorem State.peerTo_planBase (typ a : Nat) (d : List Nat) : (s.peerTo typ a d).planBase = s.planBase := by
  simp [State.peerTo]

@[simp] theorem State.peerAsk_planBase (typ a key : Nat) (d : List Nat) : (s.peerAsk typ a key d).planBase = s.planBase := by
  simp [State.peerAsk]

@[simp] theorem State.askUnbind_planBase (a i ty u : Nat) : (s.askUnbind a i ty u).planBase = s.planBase := by
  simp [State.askUnbind]

@[simp] theorem State.sendFire_planBase (k act t : Nat) : (s.sendFire k act t).1.planBase = s.planBase := by
  unfold State.sendFire; split <;> simp

@[simp] theorem State.sendCancel_planBase (k c : Nat) : (s.sendCancel k c).planBase = s.planBase := by
  unfold State.sendCancel; split <;> simp

@[simp] theorem State.sendDuty_planBase (k d : Nat) : (s.sendDuty k d).planBase = s.planBase := by
  unfold State.sendDuty; split <;> simp

@[simp] theorem State.unbindLead_planBase (b : LeadBind) : (s.unbindLead b).planBase = s.planBase := by
  simp [State.unbindLead]

end Peer

/-! ### Grants and units -/

section Units
variable (s : State)

@[simp] theorem State.grantNote_planBase (u o c w i : Nat) : (s.grantNote u o c w i).planBase = s.planBase := by
  unfold State.grantNote; simp only []; split <;> simp [State.grantLine]

@[simp] theorem State.grantAccount_planBase (u c tq : Nat) (d : Option Decision) : (s.grantAccount u c tq d).planBase = s.planBase := by
  simp [State.grantAccount, apply_ite State.planBase]

@[simp] theorem State.addGrant_planBase (g : Grant) : (s.addGrant g).planBase = s.planBase := rfl
@[simp] theorem State.dropGrants_planBase (w : Nat) : (s.dropGrants w).planBase = s.planBase := rfl
@[simp] theorem State.releaseGrant_planBase (w : Nat) : (s.releaseGrant w).planBase = s.planBase := rfl
@[simp] theorem State.dropBooked_planBase (u : Nat) : (s.dropBooked u).planBase = s.planBase := rfl

@[simp] theorem State.askSwitchOn_planBase (u c tq : Nat) (b : Bool) : (s.askSwitchOn u c tq b).1.planBase = s.planBase := by
  unfold State.askSwitchOn; simp only []; split <;> simp

@[simp] theorem State.askMeter_planBase (u i : Nat) : (s.askMeter u i).1.planBase = s.planBase := by
  unfold State.askMeter; simp only []; split <;> simp

@[simp] theorem State.abortTests_planBase (u : Nat) : (s.abortTests u).planBase = s.planBase := by
  unfold State.abortTests; simp only []; (repeat' split) <;> simp

@[simp] theorem State.beginOn_planBase (u : Nat) (ir pend : Option Nat) : (s.beginOn u ir pend).planBase = s.planBase := by
  simp only [State.beginOn, apply_ite State.planBase, State.bump_planBase, State.releaseGrant_planBase, State.planBase_with_grants,
    State.setUnit_planBase, State.abortTests_planBase, ite_self]

@[simp] theorem State.offSwitch_planBase (u : Nat) : (s.offSwitch u).planBase = s.planBase := by
  simp [State.offSwitch]

@[simp] theorem State.countOn_planBase (u : Nat) : (s.countOn u).planBase = s.planBase := by
  simp [State.countOn, apply_ite State.planBase]

@[simp] theorem State.onAt_planBase (u : Nat) (d : Option Decision) (pend : Option Nat) : (s.onAt u d pend).1.planBase = s.planBase := by
  unfold State.onAt; (repeat' split) <;> simp

@[simp] theorem State.askOn_planBase (u c : Nat) (b : Option Decision) : (s.askOn u c b).1.planBase = s.planBase := by
  unfold State.askOn; (repeat' split) <;> simp

@[simp] theorem State.pwmSwitchOn_planBase (u c : Nat) (b : Option Decision) : (s.pwmSwitchOn u c b).1.planBase = s.planBase := by
  unfold State.pwmSwitchOn; simp only []; (repeat' split) <;> simp

@[simp] theorem State.unitOn_planBase (u c : Nat) (b : Option Decision) : (s.unitOn u c b).1.planBase = s.planBase := by
  unfold State.unitOn
  extract_lets x s1 y s2 r q
  have hq : q.1.planBase = s.planBase := by
    simp [q, r, s2, s1, apply_ite Prod.fst, apply_ite State.planBase]
  clear_value q
  split
  · rfl
  split
  · rfl
  split
  · rfl
  split
  · rfl
  split <;> simp [hq]

@[simp] theorem State.unitOff_planBase (u : Nat) : (s.unitOff u).planBase = s.planBase := by
  simp [State.unitOff, apply_ite State.planBase]

@[simp] theorem State.unitDuty_planBase (u d : Nat) (b : Bool) : (s.unitDuty u d b).planBase = s.planBase := by
  unfold State.unitDuty; simp only []; (repeat' split) <;> simp

@[simp] theorem State.unitTarget_planBase (u t : Nat) : (s.unitTarget u t).planBase = s.planBase := by
  unfold State.unitTarget; simp only []; (repeat' split) <;> simp

end Units

/-! ### Metering -/

section Metering
variable (s : State)

@[simp] theorem State.driveOut_planBase (p u : Nat) : (s.driveOut p u).planBase = s.planBase := by
  unfold State.driveOut; split <;> simp [apply_ite State.planBase]

@[simp] theorem State.nozzles_planBase (p d : Nat) : (s.nozzles p d).planBase = s.planBase := by
  refine overList_planBase _ (fun k a => ?_) _ _
  simp only []; (repeat' split) <;> simp

@[simp] theorem State.applyOut_planBase (p : Nat) (u : Int) : (s.applyOut p u).planBase = s.planBase := by
  simp [State.applyOut, apply_ite State.planBase]

@[simp] theorem State.applySamples_planBase (p : Nat) : (s.applySamples p).planBase = s.planBase := by
  refine overList_planBase _ (fun k a => ?_) _ _
  simp only []; split <;> simp

@[simp] theorem State.openSetChanged_planBase (p : Nat) : (s.openSetChanged p).planBase = s.planBase := by
  simp [State.openSetChanged, apply_ite State.planBase]

@[simp] theorem State.setMetOpen_planBase (k : Nat) (b : Bool) : (s.setMetOpen k b).planBase = s.planBase := by
  unfold State.setMetOpen; simp only []; (repeat' split) <;> simp

end Metering

/-! ### Sections and their triggers -/

section Sections
variable (s : State)

@[simp] theorem State.dropTrig_planBase (k : Nat) (e : Entry) : (s.dropTrig k e).planBase = s.planBase := by
  unfold State.dropTrig; simp only []; (repeat' split) <;> simp

@[simp] theorem State.dropTrigs_planBase (k : Nat) (p : Entry → Bool) : (s.dropTrigs k p).planBase = s.planBase := by
  unfold State.dropTrigs
  split
  · rfl
  · simp [overList_planBase]

@[simp] theorem State.dropHeld_planBase (k : Nat) : (s.dropHeld k).planBase = s.planBase := by
  unfold State.dropHeld; simp only []; (repeat' split) <;> simp

@[simp] theorem State.dueEff_planBase (k : Nat) (b : Bool) (t : Nat) : (s.dueEff k b t).planBase = s.planBase := rfl

@[simp] theorem State.remoteOn_planBase (k : Nat) : (s.remoteOn k).planBase = s.planBase := by
  simp [State.remoteOn, apply_ite State.planBase]

@[simp] theorem State.cancelDirect_planBase (k : Nat) : (s.cancelDirect k).planBase = s.planBase :=
  overList_planBase _ (fun c a => by simp) _ _

@[simp] theorem State.secOnNow_planBase (k : Nat) : (s.secOnNow k).planBase = s.planBase := by
  unfold State.secOnNow; simp only []; (repeat' split) <;> simp

@[simp] theorem State.secOffNow_planBase (k : Nat) : (s.secOffNow k).planBase = s.planBase := by
  unfold State.secOffNow; simp only []; split <;> simp

@[simp] theorem State.secNow_planBase (k : Nat) (b : Bool) : (s.secNow k b).planBase = s.planBase := by
  simp [State.secNow, apply_ite State.planBase]

@[simp] theorem State.bookTrig_planBase (k tq : Nat) (e : Entry) : (s.bookTrig k tq e).1.planBase = s.planBase := by
  unfold State.bookTrig; simp only []; (repeat' split) <;> simp

@[simp] theorem State.writeEntry_planBase (d : Nat) (e : Entry) : (s.writeEntry d e).planBase = s.planBase := rfl
@[simp] theorem State.putTrig_planBase (d : Nat) (e : Entry) : (s.putTrig d e).planBase = s.planBase := rfl
@[simp] theorem State.noteRemain_planBase (k d : Nat) : (s.noteRemain k d).planBase = s.planBase := rfl

@[simp] theorem State.commitTrig_planBase (k : Nat) (r : Option Nat) (e : Entry) : (s.commitTrig k r e).1.planBase = s.planBase := by
  simp [State.commitTrig]

@[simp] theorem State.remoteTrig_planBase (k d : Nat) (e : Entry) (r : Option Nat) : (s.remoteTrig k d e r).planBase = s.planBase := by
  simp [State.remoteTrig, apply_ite State.planBase]

@[simp] theorem State.formTrig_planBase (k d : Nat) (b : Bool) (t : Int) (pt : Int × Int) : (s.formTrig k d b t pt).planBase = s.planBase := by
  simp [State.formTrig, apply_ite State.planBase]

@[simp] theorem State.nextCount_planBase (k d : Nat) (b : Bool) : (s.nextCount k d b).planBase = s.planBase := by
  simp [State.nextCount, apply_ite State.planBase]

@[simp] theorem State.refreshTrig_planBase (k d : Nat) (t : Int) (e : Entry) : (s.refreshTrig k d t e).planBase = s.planBase := by
  simp [State.refreshTrig, apply_ite State.planBase]

@[simp] theorem State.closeSec_planBase (k r : Nat) (c : Closing) : (s.closeSec k r c).planBase = s.planBase := by
  unfold State.closeSec; simp only []; (repeat' split) <;> simp

@[simp] theorem State.openManual_planBase (k : Nat) : (s.openManual k).planBase = s.planBase := by
  simp [State.openManual, apply_ite State.planBase]

@[simp] theorem State.retry_planBase (k : Nat) : (s.retry k).planBase = s.planBase := by
  unfold State.retry; simp only []; (repeat' split) <;> simp

@[simp] theorem State.passRx_planBase (k l : Nat) (v : Option Nat) : (s.passRx k l v).planBase = s.planBase := by
  unfold State.passRx; simp only []; (repeat' split) <;> simp

@[simp] theorem State.turnComp_planBase (k : Nat) : (s.turnComp k).planBase = s.planBase := by
  simp [State.turnComp, apply_ite State.planBase]

@[simp] theorem State.offAgain_planBase (k : Nat) : (s.offAgain k).planBase = s.planBase := by
  simp [State.offAgain, apply_ite State.planBase]

@[simp] theorem State.mapFull_planBase (l : Nat) (i j : Int) : (s.mapFull l i j).planBase = s.planBase := by
  simp only [State.mapFull, State.mapEv, apply_ite State.planBase, State.ev_planBase, State.bump_planBase, State.planBase_with_cellar, ite_self]

@[simp] theorem State.mark_planBase (l : Nat) (i j : Int) : (s.mark l i j).planBase = s.planBase := by
  unfold State.mark; simp only []; (repeat' split) <;> simp

@[simp] theorem State.endSec_planBase (k : Nat) : (s.endSec k).planBase = s.planBase := by
  unfold State.endSec; simp only []; (repeat' split) <;> simp

@[simp] theorem State.integrateInternal_planBase (d : Nat) : (s.integrateInternal d).planBase = s.planBase := by
  unfold State.integrateInternal; split <;> simp

@[simp] theorem State.internalHold_planBase (n : Nat) : (s.internalHold n).planBase = s.planBase := by
  unfold State.internalHold; simp only []; (repeat' split) <;> simp

@[simp] theorem State.updatePart_planBase (n : Nat) : (s.updatePart n).planBase = s.planBase := by
  unfold State.updatePart; (repeat' split) <;> simp

@[simp] theorem State.leaveStop_planBase (n : Nat) : (s.leaveStop n).planBase = s.planBase :=
  overList_planBase _ (fun k a => by simp only []; split <;> simp) _ _

@[simp] theorem State.evIf_planBase (c : Bool) (n : Nat) (t : String) : (s.evIf c n t).planBase = s.planBase := by
  simp [State.evIf, State.implEv, apply_ite State.planBase]

end Sections

/-! ### What the planner keeps of one implement (R135, R139) -/

/-- An implement without the notes that its sections' cycles leave on it: map errors (R149) and differing lanes (R159). -/
def Impl.lasting (x : Impl) : Impl := { x with mapErr := false, mapErrAt := none, laneDiff := 0, laneEnd := none }

/-- SYSTIME, the yaw source of implement n, and what lasts of the implement. -/
structure ImplView where
  now    : Nat
  yawSrc : String
  impl   : Impl

def PlanBase.view (b : PlanBase) (n : Nat) : ImplView :=
  ⟨b.times.sys, ((b.cfg.find ⟨.impl, n, "", "YAWSRC"⟩).getD (dfltOf .impl n "" "YAWSRC")).word, (Tab.get {} b.impls n).lasting⟩

section View
variable (s : State)

theorem State.planBase_view (n : Nat) : s.planBase.view n = ⟨s.now, s.word .impl n "YAWSRC", (s.implAt n).lasting⟩ := rfl

/-- A write to implement m shows in the view of n only where m is n and something that lasts changes. -/
theorem State.setImpl_view {m n : Nat} {x : Impl} (h : m = n → x.lasting = (s.implAt n).lasting) :
    (s.setImpl m x).planBase.view n = s.planBase.view n := by
  simp only [State.planBase_view, State.setImpl_implAt, State.setImpl_now]
  split
  · rw [h ‹_›]; rfl
  · rfl

theorem State.setImpl_view_ne {m n : Nat} (x : Impl) (h : m ≠ n) : (s.setImpl m x).planBase.view n = s.planBase.view n :=
  s.setImpl_view fun e => absurd e h

/-- The field origin (R22) is no implement's setting. -/
@[simp] theorem State.autoOrigin_view (m n : Nat) : (s.autoOrigin m).planBase.view n = s.planBase.view n := by
  unfold State.autoOrigin
  split
  · simp [State.planBase_view, State.setOrigin, State.word, State.store_val]
  · rfl

@[simp] theorem State.mapErrs_view (m k bad n : Nat) : (s.mapErrs m k bad).planBase.view n = s.planBase.view n := by
  unfold State.mapErrs
  split
  · rfl
  · simp only [State.evIf_planBase, State.bumpBy_planBase]
    exact s.setImpl_view (by rintro rfl; rfl)

@[simp] theorem State.lanesDiffer_view (m n : Nat) : (s.lanesDiffer m).planBase.view n = s.planBase.view n := by
  simp only [State.lanesDiffer, State.evIf_planBase]
  exact (s.bump "LANE_CNT" m).setImpl_view (by rintro rfl; rfl)

@[simp] theorem bisect_view (k : Nat) (old new : Bool) (t0 t1 : Int) (i : Nat) (lo hi : Int) (n : Nat) :
    (bisect k old new t0 t1 i lo hi s).2.planBase.view n = s.planBase.view n := by
  induction i generalizing lo hi s with
  | zero => rfl
  | succ i ih => simp only [bisect]; split <;> rw [ih, State.mapErrs_view]

@[simp] theorem State.changeDecision_view (k : Nat) (new : Bool) (reason : Nat) (prev : Option Nat) (l n : Nat) :
    (s.changeDecision k new reason prev l).planBase.view n = s.planBase.view n := by
  unfold State.changeDecision
  simp only []
  (repeat' split) <;> simp

@[simp] theorem State.autoSec_view (k : Nat) (x : Sampled) (prev : Option Nat) (l n : Nat) :
    (s.autoSec k x prev l).planBase.view n = s.planBase.view n := by
  unfold State.autoSec
  simp only []
  (repeat' split) <;> simp

@[simp] theorem secCycle_view (k n : Nat) : (secCycle k s).planBase.view n = s.planBase.view n := by
  unfold secCycle
  simp only []
  (repeat' split) <;> simp

@[simp] theorem markSec_view (k n : Nat) : (markSec k s).planBase.view n = s.planBase.view n := by
  unfold markSec
  simp only []
  (repeat' split) <;> simp [overList_planBase]

end View

/-! ### The pose of a cycle (R137 to R139) -/

theorem motionOf_of_slow {v : Int} (h : -100 < v ∧ v < 100) : motionOf v = 0 := by
  rw [motionOf, if_neg (by omega), if_neg (by omega)]

theorem motionOf_of_ahead {v : Int} (h : 100 ≤ v) : motionOf v = 1 := if_pos h

theorem motionOf_of_back {v : Int} (h : v ≤ -100) : motionOf v = 2 := by
  rw [motionOf, if_neg (by omega), if_pos h]

section Pose
variable (s : State)

/-- In STOP a heading that the implement had before is held (R45). -/
theorem State.cycleHeading_of_stop {n : Nat} {v : Int} (hv : motionOf v = 0) (hm : (s.implAt n).moved = true) :
    s.cycleHeading n v = (s.implAt n).hdg := by
  simp [State.cycleHeading, hv, hm]

/-- In STOP the derived yaw rate is 0 (R139). -/
theorem State.cycleYaw_of_stop {n : Nat} {v h : Int} (hv : motionOf v = 0) (hs : s.word .impl n "YAWSRC" = "DERIVED") :
    s.cycleYaw n v h = 0 := by
  simp [State.cycleYaw, hv, hs]

/-- What R139 asks of an implement's pose, from its view before the cycle. -/
def ImplView.Posed (x y : ImplView) : Prop :=
  y.impl.cycled = true ∧ y.impl.motion = motionOf y.impl.speed
    ∧ (y.impl.motion = 0 → x.impl.moved = true → y.impl.hdg = x.impl.hdg)
    ∧ (y.impl.motion = 0 → x.yawSrc = "DERIVED" → y.impl.yaw = 0)

theorem State.takePose_posed (n : Nat) : (s.planBase.view n).Posed ((s.takePose n).planBase.view n) := by
  rw [← s.autoOrigin_view n n]
  simp only [State.takePose, State.evIf_planBase, State.planBase_view, State.setImpl_implAt_same]
  refine ⟨rfl, rfl, fun hm hmoved => ?_, fun hm hsrc => ?_⟩
  · exact (if_pos hm).trans (State.cycleHeading_of_stop _ hm hmoved)
  · exact State.cycleYaw_of_stop _ hm hsrc

theorem State.takePose_view_ne {m n : Nat} (h : m ≠ n) : (s.takePose m).planBase.view n = s.planBase.view n := by
  simp only [State.takePose, State.evIf_planBase, State.setImpl_view_ne _ _ h, State.autoOrigin_view]

end Pose

/-! ### The cycle of one implement (R135) -/

section Cycle
variable (s : State)

/-- A loop whose turns leave a view alone leaves it alone. -/
theorem overList_view {α : Type} {f : α → State → State} {n : Nat} (h : ∀ x a, (f x a).planBase.view n = a.planBase.view n) (xs : List α) :
    (overList xs f s).planBase.view n = s.planBase.view n := overList_keeps (fun a => a.planBase.view n) f h xs s

theorem State.stopImpl_stopped (n : Nat) : ((s.stopImpl n).implAt n).running = false := by
  cases h : (s.implAt n).running <;> simp [State.stopImpl, h]

theorem State.stopImpl_view_ne {m n : Nat} (h : m ≠ n) : (s.stopImpl m).planBase.view n = s.planBase.view n := by
  unfold State.stopImpl
  split
  · rfl
  · simp [State.setImpl_view_ne _ _ h, overList_planBase]

theorem implCycle_of_stopped {m : Nat} (d : Bool) (hr : (s.implAt m).running = false) : implCycle d m s = s := by
  simp [implCycle, hr]

theorem implCycle_of_stopDue {m : Nat} (d : Bool) (hr : (s.implAt m).running = true) (hs : (s.implAt m).stopDue = true) :
    implCycle d m s = (s.stopImpl m).updatePart m := by
  simp [implCycle, hr, hs]

/-- The state in which the cycle of implement m takes its pose: the integral of an INTERNAL driving odometer is taken before (R279). -/
def State.beforePose (m : Nat) (s : State) : State :=
  match s.natOpt .impl m "ODO" with
  | some d => if s.word .odo d "SRC" = "INTERNAL" then s.integrateInternal d else s
  | none => s

theorem State.beforePose_planBase (m : Nat) : (s.beforePose m).planBase = s.planBase := by
  unfold State.beforePose; (repeat' split) <;> simp

/-- After the pose is taken, no work of the cycle on sections, lanes or maps shows in the view of any implement. -/
theorem implCycle_of_running {m : Nat} (d : Bool) (hr : (s.implAt m).running = true) (hs : (s.implAt m).stopDue = false) :
    ∃ a : State, a.planBase = s.planBase ∧ ∀ n, (implCycle d m s).planBase.view n = (a.takePose m).planBase.view n := by
  have hlane (a : State) (n : Nat) : (a.setImpl m { a.implAt m with laneDiff := 0 }).planBase.view n = a.planBase.view n :=
    a.setImpl_view (by rintro rfl; rfl)
  have hsec (a : State) (xs : List Nat) (n : Nat) : (overList xs secCycle a).planBase.view n = a.planBase.view n :=
    overList_view a (fun k b => secCycle_view b k n) xs
  have hmark (a : State) (xs : List Nat) (n : Nat) : (overList xs markSec a).planBase.view n = a.planBase.view n :=
    overList_view a (fun k b => markSec_view b k n) xs
  refine ⟨s.beforePose m, s.beforePose_planBase m, fun n => ?_⟩
  simp only [implCycle, hr, hs, Bool.not_true, Bool.false_eq_true, if_false, hmark, State.traceLine_planBase]
  cases d <;> simp [hlane, hsec, apply_ite State.planBase] <;> rfl

theorem implCycle_posed {n : Nat} (d : Bool) (hr : (s.implAt n).running = true) (hs : (s.implAt n).stopDue = false) :
    (s.planBase.view n).Posed ((implCycle d n s).planBase.view n) := by
  obtain ⟨a, ha, hv⟩ := implCycle_of_running s d hr hs
  rw [hv, ← ha]
  exact a.takePose_posed n

theorem implCycle_ends_stopDue {n : Nat} (d : Bool) (hr : (s.implAt n).running = true) (hs : (s.implAt n).stopDue = true) :
    ((implCycle d n s).planBase.view n).impl.running = false := by
  rw [implCycle_of_stopDue s d hr hs, State.updatePart_planBase]
  exact s.stopImpl_stopped n

theorem implCycle_view_ne (d : Bool) {m n : Nat} (h : m ≠ n) : (implCycle d m s).planBase.view n = s.planBase.view n := by
  cases hr : (s.implAt m).running with
  | false => rw [implCycle_of_stopped s d hr]
  | true =>
    cases hs : (s.implAt m).stopDue with
    | true => rw [implCycle_of_stopDue s d hr hs, State.updatePart_planBase, State.stopImpl_view_ne s h]
    | false =>
      obtain ⟨a, ha, hv⟩ := implCycle_of_running s d hr hs
      rw [hv, a.takePose_view_ne h, ha]

/-- The cycle of an implement takes no time. -/
theorem implCycle_now (d : Bool) (m : Nat) : (implCycle d m s).now = s.now :=
  congrArg ImplView.now (implCycle_view_ne s d (Nat.ne_add_one m))

end Cycle

/-! ### The cycle of all four (R46, R135) -/

section Loop
variable {β : Type} {g : State → β} {f : Nat → State → State} {n : Nat} (h : ∀ m a, m ≠ n → g (f m a) = g a)
include h

/-- A loop of which only the turn of `n` touches `g` leaves it alone where it has no such turn. -/
theorem overList_without_turn {xs : List Nat} (hn : n ∉ xs) (s : State) : g (overList xs f s) = g s := by
  induction xs generalizing s with
  | nil => rfl
  | cons x xs ih =>
    obtain ⟨hx, hxs⟩ := not_or.mp (mt List.mem_cons.mpr hn)
    exact (ih hxs (f x s)).trans (h x s (Ne.symm hx))

/-- Over distinct numbers that turn finds `g` as the loop did and leaves it as the loop does. -/
theorem overList_turn {xs : List Nat} (hd : xs.Nodup) (hn : n ∈ xs) (s : State) : ∃ a, g a = g s ∧ g (overList xs f s) = g (f n a) := by
  induction xs generalizing s with
  | nil => cases hn
  | cons x xs ih =>
    obtain ⟨hx, hd⟩ := List.nodup_cons.mp hd
    rcases List.mem_cons.mp hn with rfl | hn
    · exact ⟨s, rfl, overList_without_turn h hx (f n s)⟩
    · obtain ⟨a, ha, hf⟩ := ih hd hn (f x s)
      exact ⟨a, ha.trans (h x s fun e => hx (e ▸ hn)), hf⟩

end Loop

section AllImpls
variable (s : State)

/-- A periodic step runs at its due instant, which is never in the past. -/
theorem State.tick_now (c : String) (i : Nat) {p : Nat} (hp : 0 < p) : (s.tick c i p).now = s.nextTick c i p := by
  have hle : s.now ≤ ceilDiv s.now p * p := by
    have := Nat.lt_div_mul_add hp (a := s.now + p - 1)
    unfold ceilDiv
    omega
  have hdue : s.now ≤ s.nextTick c i p := by
    unfold State.nextTick
    simp only []
    split <;> omega
  exact (s.advanceTo_now _).trans (Nat.max_eq_right hdue)

/-- The cycle ends at its due instant, and shows of implement n what its own turn left, begun with what the cycle began with. -/
theorem execPlannerCycle_turn (d : Bool) {n : Nat} (hn : n < 4) :
    ∃ t, exec (.plannerCycle d) s = .next t ∧ t.now = s.nextTick "PLAN" 0 (5 * nsMs)
      ∧ ∃ a : State, (a.planBase.view n).impl = (s.implAt n).lasting ∧ (a.planBase.view n).yawSrc = s.word .impl n "YAWSRC"
        ∧ t.planBase.view n = (implCycle (d && s.lanes 10 11 = "TWIN") n a).planBase.view n := by
  refine ⟨_, rfl, ?_, ?_⟩
  · rw [overList_keeps State.now _ (fun m a => implCycle_now a _ m), s.tick_now "PLAN" 0 (by decide)]
  · obtain ⟨a, ha, hv⟩ := overList_turn (g := fun a => a.planBase.view n)
      (fun m a h => implCycle_view_ne a (d && s.lanes 10 11 = "TWIN") h) List.nodup_range (List.mem_range.mpr hn) (s.tick "PLAN" 0 (5 * nsMs))
    exact ⟨a, congrArg ImplView.impl ha, congrArg ImplView.yawSrc ha, hv⟩

end AllImpls

end Sys2Proof.Machine

section
open Sys2Proof Sys2Proof.Machine

/-- Settles O22: only the turn of an implement in the cycle touches what lasts of it, its pose is taken once in that turn (R139), and a waiting STOP
ends it there (R135). -/
theorem motionFollowsSpeed : Obligations.MotionFollowsSpeed := by
  unfold Obligations.MotionFollowsSpeed
  intro s n d hn hr
  obtain ⟨t, ht, hnow, a, hview, hsrc, hv⟩ := execPlannerCycle_turn s d hn
  have har : (a.implAt n).running = true := (congrArg Impl.running hview).trans hr
  refine ⟨fun hs => ⟨t, ht, hnow, ?_⟩, fun hs => ⟨t, ht, ?_, hnow⟩⟩
  · have has : (a.implAt n).stopDue = false := (congrArg Impl.stopDue hview).trans hs
    have hp := implCycle_posed a (d && s.lanes 10 11 = "TWIN") har has
    rw [← hv] at hp
    obtain ⟨hcyc, hmot, hhdg, hyaw⟩ := hp
    rw [hview] at hhdg
    rw [hsrc] at hyaw
    have hmotion : (t.implAt n).motion = motionOf (t.implAt n).speed := hmot
    exact ⟨hcyc, fun h => hmotion.trans (motionOf_of_slow h), fun h => hmotion.trans (motionOf_of_ahead h),
      fun h => hmotion.trans (motionOf_of_back h), hhdg, hyaw⟩
  · have has : (a.implAt n).stopDue = true := (congrArg Impl.stopDue hview).trans hs
    have he := implCycle_ends_stopDue a (d && s.lanes 10 11 = "TWIN") har has
    rw [← hv] at he
    exact he

end

namespace Sys2Proof.Machine

/-! ### Attributes of a phrase (R57, R59) -/

section Attributes
variable {p : Phrase}

theorem has_iff_mem {n : String} : p.has n = true ↔ n ∈ p.attrs.map AttrTok.name := by
  simp [Phrase.has]

/-- A phrase that names nothing but what it may draws no E-ATTR. -/
theorem extraAttrs_of_names {ok : List String} (h : p.attrs.map AttrTok.name = ok) : extraAttrs p ok = [] := by
  refine List.filterMap_eq_nil_iff.mpr fun a ha => ?_
  have hmem : a.name ∈ ok := h ▸ List.mem_map_of_mem ha
  simp [hmem]

/-- A required attribute whose value is in form draws no error. -/
theorem needAttr_of_attrVal {n : String} {f : AForm} {v : Val} (h : attrVal p n f = some v) : needAttr p n f = [] := by
  unfold attrVal Phrase.value at h
  cases hattr : p.attr n with
  | none => simp [hattr] at h
  | some a =>
    have hval : a.value.bind (parseVal f) = some v := by simpa [hattr] using h
    simp [needAttr, hattr, hval]

theorem needAttr_of_attrInt {n : String} {lo hi k : Int} (h : attrInt p n lo hi = some k) : needAttr p n (.int lo hi) = [] := by
  obtain ⟨v, hv, -⟩ := Option.map_eq_some_iff.mp h
  exact needAttr_of_attrVal hv

end Attributes

/-! ### What receiving a phrase leaves to its checks -/

section Begun
variable (s : State) (i : Nat) (p : Phrase)

@[simp] theorem State.begun_butReply (r : State) : (s.begun i p).butReply r = s.butReply r :=
  begun_keeps (fun a => a.butReply r) (fun _ _ _ => rfl) (fun _ _ _ _ => rfl) (fun _ _ _ => rfl) i p s

@[simp] theorem State.begun_accessErr (v : Verb) (n : Noun) (ix : Option Nat) (own : Bool) :
    (s.begun i p).accessErr i v n ix own = s.accessErr i v n ix own := by
  have howner (k : Nat) : (s.begun i p).owner n k = s.owner n k :=
    begun_keeps (fun a => a.owner n k) (fun _ _ _ => rfl) (fun _ _ _ _ => rfl) (fun _ _ _ => rfl) i p s
  have hlayer (k : Nat) : (s.begun i p).layerOwner k = s.layerOwner k :=
    begun_keeps (fun a => a.layerOwner k) (fun _ _ _ => rfl) (fun _ _ _ _ => rfl) (fun _ _ _ => rfl) i p s
  have hpeer (k : Nat) : (s.begun i p).canPeer n k = s.canPeer n k :=
    begun_keeps (fun a => a.canPeer n k) (fun _ _ _ => rfl) (fun _ _ _ _ => rfl) (fun _ _ _ => rfl) i p s
  simp only [State.accessErr, State.begun_sessAt, if_true, howner, hlayer, hpeer]

/-- Receiving and counting a phrase change nothing that the checks 9 to 12 of R70 read. -/
@[simp] theorem State.begun_unitErrs (q : Phrase) (n : Noun) (ix : Option Nat) (own : Bool) :
    (s.begun i p).unitErrs i q n ix own = s.unitErrs i q n ix own := by
  have habsent (k : Nat) : (s.begun i p).nounAbsent n k = s.nounAbsent n k :=
    begun_keeps (fun a => a.nounAbsent n k) (fun _ _ _ => rfl) (fun _ _ _ _ => rfl) (fun _ _ _ => rfl) i p s
  have hretired (k : Nat) : (s.begun i p).nounRetired n k = s.nounRetired n k :=
    begun_keeps (fun a => a.nounRetired n k) (fun _ _ _ => rfl) (fun _ _ _ _ => rfl) (fun _ _ _ => rfl) i p s
  simp only [State.unitErrs, habsent, hretired, State.begun_accessErr]

@[simp] theorem State.begun_winBytes : (s.begun i p).winBytes = s.winBytes := by
  simp only [State.winBytes, State.celNat, State.celUse, State.begun_cellar]
@[simp] theorem State.begun_psReady : (s.begun i p).psReady = s.psReady := by simp only [State.psReady, State.begun_cellar]
@[simp] theorem State.begun_mapBusy : (s.begun i p).mapBusy = s.mapBusy := by simp only [State.mapBusy, State.begun_cellar]
@[simp] theorem State.begun_slotFree (c : Bool) : (s.begun i p).slotFree c = s.slotFree c :=
  begun_keeps (fun a => a.slotFree c) (fun _ _ _ => rfl) (fun _ _ _ _ => rfl) (fun _ _ _ => rfl) i p s
@[simp] theorem State.begun_tileRange (l : Nat) : (s.begun i p).tileRange l = s.tileRange l := by
  simp only [State.tileRange, State.cellMm, State.nat, State.val, State.begun_cfg]

end Begun

/-! ### A phrase answered with an error (R67, R69, R73) -/

@[simp] theorem Ans.eff_errs (es : List Err) (g : State → State) : (Ans.eff es g).errs = es := rfl

theorem errIf_lt_of_le {a b : Nat} (h : b ≤ a) (code : ECode) (t : Option String) : errIf (a < b) code t = [] := by
  rw [decide_eq_false (Nat.not_lt.mpr h)]
  rfl

/-- An error that names its token keeps it (R67). -/
theorem namedErr_tok (p : Phrase) (code : ECode) (n : String) : namedErr p ⟨code, p.tok n⟩ = ⟨code, p.tok n⟩ := by
  simp [namedErr, Phrase.tok]

/-- The lines a session was given, sent or owed (R73). -/
def Session.given (x : Session) : List String := x.out ++ x.owed

theorem given_placeLines (ls : List String) (x : Session) : (placeLines ls x).given = x.given ++ ls := by
  induction ls generalizing x with
  | nil => simp [placeLines]
  | cons l ls ih =>
    unfold placeLines
    split
    next h =>
      have howed : x.owed = [] := by simp_all
      rw [ih]
      simp [Session.given, howed]
    next =>
      rw [ih]
      simp [Session.given]

theorem placeLines_queue (ls : List String) (x : Session) : (placeLines ls x).queue = x.queue := by
  induction ls generalizing x with
  | nil => rfl
  | cons l ls ih => unfold placeLines; split <;> rw [ih]

section Error
variable (s : State) (i : Nat)

theorem State.prompt_given : ((s.prompt i).sessAt i).given = (s.sessAt i).given ∨ ((s.prompt i).sessAt i).given = (s.sessAt i).given ++ ["> "] := by
  unfold State.prompt
  simp only []
  split
  next h =>
    have howed : (s.sessAt i).owed = [] := by simp_all
    simp [Session.given, howed]
  next => exact .inl rfl

/-- The session was used now; only the peer sessions keep the instant (R465). -/
def State.used (i : Nat) (s : State) : State := if 3 ≤ i then s.setSess i { s.sessAt i with lastUse := s.now } else s

theorem State.used_given : ((s.used i).sessAt i).given = (s.sessAt i).given := by
  unfold State.used
  split <;> simp [Session.given]

theorem State.settle_of_queue_nil (hq : (s.sessAt i).queue = []) :
    s.settle i = if ((s.used i).sessAt i).await.isNone then (s.used i).prompt i else s.used i := by
  unfold State.settle
  rw [hq]
  rfl

/-- With nothing queued, the end of a phrase gives its session a prompt or nothing (R75). -/
theorem State.settle_given (hq : (s.sessAt i).queue = []) :
    ((s.settle i).sessAt i).given = (s.sessAt i).given ∨ ((s.settle i).sessAt i).given = (s.sessAt i).given ++ ["> "] := by
  rw [s.settle_of_queue_nil i hq, ← s.used_given i]
  split
  · exact (s.used i).prompt_given i
  · exact .inl rfl

theorem State.sendErr_sessAt (e : Err) (tag : Option String) (c : Bool) :
    (s.sendErr i e tag c).sessAt i = placeLines [erLine e tag c] (s.sessAt i) := by
  unfold State.sendErr
  simp only []
  split <;> simp [State.putLines]

theorem State.sendErr_butReply (e : Err) (tag : Option String) (c : Bool) (r : State) : (s.sendErr i e tag c).butReply r = s.butReply r := by
  unfold State.sendErr
  simp only []
  split <;> rfl

/-- An error answer gives its session the ER line. -/
theorem State.gave_settle_sendErr (hq : (s.sessAt i).queue = []) (e : Err) (tag : Option String) (c : Bool) :
    s.gave ((s.sendErr i e tag c).settle i) i [erLine e tag c] := by
  have hline : ((s.sendErr i e tag c).sessAt i).given = (s.sessAt i).given ++ [erLine e tag c] := by
    rw [State.sendErr_sessAt, given_placeLines]
  have hempty : ((s.sendErr i e tag c).sessAt i).queue = [] := by
    rw [State.sendErr_sessAt, placeLines_queue, hq]
  have h := (s.sendErr i e tag c).settle_given i hempty
  rw [hline] at h
  exact h

end Error

section Answer
variable {s : State} {i : Nat} {p : Phrase} {row : String} {f : State → Ans} {e : Err}

theorem queue_of_mayRun (hm : s.mayRun i p = true) : (s.sessAt i).queue = [] := by
  simp only [State.mayRun, Bool.and_eq_true, List.isEmpty_iff] at hm
  obtain ⟨⟨⟨⟨⟨⟨⟨⟨-, hqueue⟩, -⟩, -⟩, -⟩, -⟩, -⟩, -⟩, -⟩ := hm
  exact hqueue

/-- A phrase that may run and draws an error is answered with it. -/
theorem runRow_err (hr : rowOf p = row) (hm : s.mayRun i p = true) (he : pickErr (f (s.begun i p)).errs = some e) :
    runRow row i p f s = ((lockedEffects i (f (s.begun i p)) e (s.begun i p)).sendErr i (namedErr p e) p.tag p.checked).settle i := by
  have ht := takePhrase_of_mayRun hm
  simp only [State.mayRun, Bool.and_eq_true, Bool.not_eq_true', Bool.or_eq_true, decide_eq_true_eq] at hm
  obtain ⟨⟨⟨⟨⟨⟨⟨-, hcheck⟩, -⟩, -⟩, -⟩, -⟩, hdisputed⟩, hstate⟩ := hm
  have hneed : ((s.sessAt i).reqcheck && !p.checked) = false := by
    rcases hcheck with h | h <;> simp [h]
  have hdevice : (s.begun i p).deviceErr p = [] := by
    rcases hstate with h | h <;> simp [State.deviceErr, h]
  have hbegun : (if ((s.received i p.checked).sessAt i).reqcheck && !p.checked then s.received i p.checked
      else (s.received i p.checked).counted i) = s.begun i p := by simp [hneed, State.begun]
  have hfaults : (s.begun i p).faults.disputed.contains i = false := by simpa using hdisputed
  have hlate : (((s.begun i p).sessAt i).reqcheck && !p.checked) = false := by simpa using hneed
  simp only [runRow, hr, ht, hbegun, hfaults, State.answer, hlate, hdevice, errIf, ne_eq, not_true_eq_false, if_false, Bool.false_eq_true,
    List.nil_append, he]

/-- An error other than E-LOCKED, of a row without an effect of its own on errors, changes nothing but session, counters and heartbeat (R69). -/
theorem runRow_err_butReply (hr : rowOf p = row) (hm : s.mayRun i p = true) (he : pickErr (f (s.begun i p)).errs = some e)
    (hf : (f (s.begun i p)).onErr = none) (hl : e.code ≠ .locked) :
    s.gave (runRow row i p f s) i [erLine (namedErr p e) p.tag p.checked] ∧ (runRow row i p f s).butReply s = s := by
  have hnone : lockedEffects i (f (s.begun i p)) e (s.begun i p) = s.begun i p := by simp [lockedEffects, hf, hl]
  have hsess : (s.begun i p).sessAt i = { s.sessAt i with lastPhrase := s.now } := by simp
  rw [runRow_err hr hm he, hnone]
  constructor
  · have h := (s.begun i p).gave_settle_sendErr i (by rw [hsess]; exact queue_of_mayRun hm) (namedErr p e) p.tag p.checked
    simp only [State.gave, hsess] at h
    exact h
  · rw [settle_keeps (fun a => a.butReply s) (fun _ _ _ => rfl) (fun _ _ _ _ => rfl), State.sendErr_butReply, State.begun_butReply]
    rfl

end Answer

/-! ### Staging windows and tiles (R210, R211) -/

section Cellar
variable {s t : State}

/-- The windows lie in the cellar. -/
theorem State.stage_congr (h : t.cellar = s.cellar) (m : Nat) : t.stage m = s.stage m := by
  simp only [State.stage, h]

theorem State.askHeavy_cellar (k : Nat) (s : State) : (s.askHeavy k).1.cellar = s.cellar := by
  unfold State.askHeavy
  simp only []
  split
  · rfl
  · split <;> simp [State.heavyLine]

end Cellar

section SetStage
variable {s : State} {i l off : Nat} {d : List Nat} {p : Phrase}

theorem ix_of_names {v : Verb} {n : Noun} {sub : String} (h : p.names v n (some l) sub) : p.ix = some l := by
  simp [Phrase.ix, h.2]

/-- The phrase is `SET MAP.l STAGE=off D=d`, in form. -/
structure IsSetStage (p : Phrase) (l off : Nat) (d : List Nat) : Prop where
  noun  : p.names .set .map (some l)
  attrs : p.attrs.map AttrTok.name = ["STAGE", "D"]
  stage : attrInt p "STAGE" 0 4294967295 = some (off : Int)
  data  : attrVal p "D" (.bytes 1 64) = some (.l d)

theorem IsSetStage.row (h : IsSetStage p l off d) : rowOf p = "SET_MAP_STAGE" := by
  have hstage : p.has "STAGE" = true := has_iff_mem.mpr (by simp [h.attrs])
  simp [rowOf, setRow, h.noun.1, h.noun.2, hstage]

/-- A SET MAP STAGE in form is judged on its window's end and the memory alone (R210, R242), and writes into its session's window. The empty parts
go by `rw`: a definitional `[] ++ e = e` makes the kernel unfold the window's size in unary. -/
theorem exec_setMapStage (hu : s.unitErrs i p .map (some l) = []) (h : IsSetStage p l off d) :
    ∃ f, exec (.setMapStage i p) s = .next (runRow "SET_MAP_STAGE" i p f s)
      ∧ f (s.begun i p) = Ans.eff (errIf (s.winBytes < off + d.length) .range (p.tok "STAGE") ++ errIf (!s.psReady) .state)
        fun a => a.setStage (s.sessAt i).part (stageWrites d off (a.stage (s.sessAt i).part)) := by
  refine ⟨_, rfl, ?_⟩
  have hpart : ((s.begun i p).sessAt i).part = (s.sessAt i).part := by simp
  have hbytes : ((attrVal p "D" (.bytes 1 64)).map Val.list).getD [] = d := by rw [h.data]; rfl
  dsimp only
  rw [ix_of_names h.noun, Option.getD_some, State.begun_unitErrs, hu, extraAttrs_of_names h.attrs, needAttr_of_attrInt h.stage,
    needAttr_of_attrVal h.data, h.stage, Option.getD_some, Int.toNat_natCast, hbytes, hpart, State.begun_winBytes, State.begun_psReady]
  repeat rw [List.nil_append]

/-- A write that runs past its window finds E-RANGE first, whatever the memory's state (R70, R242). -/
theorem pickErr_stage_range (h : s.winBytes < off + d.length) (t : Option String) :
    pickErr (errIf (s.winBytes < off + d.length) .range t ++ errIf (!s.psReady) .state) = some ⟨.range, t⟩ := by
  rw [decide_eq_true h]
  cases s.psReady <;> rfl

/-- Past the end of the window: E-RANGE, and nothing written (R242). -/
theorem setMapStage_past_window (hm : s.mayRun i p = true) (hu : s.unitErrs i p .map (some l) = []) (h : IsSetStage p l off d)
    (hpast : s.winBytes < off + d.length) :
    ∃ t, exec (.setMapStage i p) s = .next t ∧ s.gave t i [erLine ⟨.range, p.tok "STAGE"⟩ p.tag p.checked] ∧ t.butReply s = s := by
  obtain ⟨f, hexec, hans⟩ := exec_setMapStage hu h
  have he : pickErr (f (s.begun i p)).errs = some ⟨.range, p.tok "STAGE"⟩ := by
    rw [hans, Ans.eff_errs, pickErr_stage_range hpast]
  have hown : (f (s.begun i p)).onErr = none := by rw [hans]; rfl
  have hanswered := runRow_err_butReply h.row hm he hown (by simp)
  rw [namedErr_tok] at hanswered
  exact ⟨_, hexec, hanswered⟩

/-- `t` with what answering a phrase and writing the cellar change taken from `s`. -/
def State.butCellar (t s : State) : State := { t.butReply s with cellar := s.cellar }

/-- Within the window: the bytes go into the window of the session's partition, and nothing else changes (R210). -/
theorem setMapStage_within_window (hm : s.mayRun i p = true) (hu : s.unitErrs i p .map (some l) = []) (hpart : (s.sessAt i).part < 4)
    (h : IsSetStage p l off d) (hfits : off + d.length ≤ s.winBytes) (hps : s.psReady = true) :
    ∃ t, exec (.setMapStage i p) s = .next t
      ∧ (∀ m, m < 4 → t.stage m = if m = (s.sessAt i).part then stageWrites d off (s.stage (s.sessAt i).part) else s.stage m)
      ∧ t.butCellar s = s := by
  obtain ⟨f, hexec, hans⟩ := exec_setMapStage hu h
  rw [errIf_lt_of_le hfits, hps] at hans
  have he : pickErr (f (s.begun i p)).errs = none := by rw [hans]; rfl
  rw [runRow_ok h.row hm he, hans] at hexec
  have hbegun (m : Nat) : (s.begun i p).stage m = s.stage m := State.stage_congr (s.begun_cellar i p) m
  refine ⟨_, hexec, fun m hm4 => ?_, ?_⟩
  · rw [State.stage_congr (State.succeed_eff_cellar _ _ _ _ _), stage_setStage _ _ _ _ hpart hm4, hbegun, hbegun]
  · have hsucceed (a : State) (es : List Err) (g : State → State) : (a.succeed i p (Ans.eff es g)).butCellar s = (g a).butCellar s :=
      succeed_keeps (fun b => b.butCellar s) (fun _ _ _ => rfl) (fun _ _ _ _ => rfl) i p _ (fun _ => rfl) a
    have hreceived : (s.begun i p).butCellar s = s.butCellar s :=
      begun_keeps (fun b => b.butCellar s) (fun _ _ _ => rfl) (fun _ _ _ _ => rfl) (fun _ _ _ => rfl) i p s
    exact (hsucceed _ _ _).trans hreceived

end SetStage

section LoadTile
variable {s : State} {i l off : Nat} {te tn : Int} {p : Phrase}

/-- The phrase is `LOAD MAP.l TE=te TN=tn STAGE=off`, in form for the layer's cell size. -/
structure State.IsLoadTile (s : State) (p : Phrase) (l : Nat) (te tn : Int) (off : Nat) : Prop where
  noun  : p.names .load .map (some l)
  attrs : p.attrs.map AttrTok.name = ["TE", "TN", "STAGE"]
  east  : attrVal p "TE" (s.tileRange l) = some (.n te)
  north : attrVal p "TN" (s.tileRange l) = some (.n tn)
  stage : attrInt p "STAGE" 0 4294967295 = some (off : Int)

/-- A tile of layer `l` can be loaded from address `off` of a window (R209, R211, R214). -/
structure State.CanLoad (s : State) (l off : Nat) : Prop where
  fits    : off + tileBytes l ≤ s.winBytes
  ready   : s.psReady = true
  idle    : s.mapBusy = false
  slot    : s.slotFree (coverLayer l) = true
  stopped : coverLayer l = true → (s.implAt l).running = false

/-- The tile that a window's bytes make from an address on (R207). -/
def stagedTile (l off : Nat) (c : List Host.Cell) : Tab Nat := tileOf l ((List.range (tileBytes l)).map fun j => stageRead c (off + j))

theorem State.IsLoadTile.begun (h : s.IsLoadTile p l te tn off) : (s.begun i p).IsLoadTile p l te tn off :=
  { h with east := by rw [State.begun_tileRange, h.east], north := by rw [State.begun_tileRange, h.north] }

theorem State.CanLoad.begun (h : s.CanLoad l off) : (s.begun i p).CanLoad l off where
  fits    := by rw [State.begun_winBytes]; exact h.fits
  ready   := by rw [State.begun_psReady, h.ready]
  idle    := by rw [State.begun_mapBusy, h.idle]
  slot    := by rw [State.begun_slotFree, h.slot]
  stopped := by rw [State.begun_implAt]; exact h.stopped

theorem State.IsLoadTile.row (h : s.IsLoadTile p l te tn off) : rowOf p = "LOAD_MAP_TILE" := by
  simp [rowOf, actRow, h.noun.1, h.noun.2]

theorem loadTileAns_errs (hu : s.unitErrs i p .map (some l) = []) (h : s.IsLoadTile p l te tn off) (hl : s.CanLoad l off) :
    (loadTileAns i p s).errs = [] := by
  have hstate : errIf (!s.psReady || (coverLayer l && (s.implAt l).running)) .state = [] := by
    cases hc : coverLayer l with
    | false => rw [hl.ready]; rfl
    | true => rw [hl.ready, hl.stopped hc]; rfl
  dsimp only [loadTileAns]
  rw [ix_of_names h.noun, Option.getD_some, hu, extraAttrs_of_names h.attrs, needAttr_of_attrVal h.east, needAttr_of_attrVal h.north,
    needAttr_of_attrInt h.stage, h.stage, Option.getD_some, Int.toNat_natCast, errIf_lt_of_le hl.fits, hstate, hl.idle, hl.slot]
  rfl

/-- A load puts the tile that its window's bytes make into the layer, and leaves every window (R211). -/
theorem loadTileAns_act (h : s.IsLoadTile p l te tn off) :
    ((loadTileAns i p s).act s).1.cellar.tiles = AMap.put (l, te, tn) (stagedTile l off (s.stage (s.sessAt i).part)) s.cellar.tiles
      ∧ ∀ m, ((loadTileAns i p s).act s).1.stage m = s.stage m := by
  have hask := s.askHeavy_cellar 2
  dsimp only [loadTileAns]
  rw [ix_of_names h.noun, Option.getD_some, h.east, h.north, h.stage]
  generalize s.askHeavy 2 = r at hask ⊢
  obtain ⟨a, start⟩ := r
  dsimp only at hask ⊢
  rw [← State.stage_congr hask (s.sessAt i).part, ← hask]
  cases start <;> exact ⟨rfl, fun m => Eq.trans rfl (State.stage_congr (t := a) hask m)⟩

/-- A load that is granted at once: the staged bytes become the tile, and no window changes (R211). -/
theorem loadMapTile_granted (hm : s.mayRun i p = true) (hu : s.unitErrs i p .map (some l) = []) (h : s.IsLoadTile p l te tn off)
    (hl : s.CanLoad l off) (hgrant : (s.askHeavy 2).2 = some s.now) :
    ∃ t, exec (.loadMapTile i p) s = .next t
      ∧ t.cellar.tiles = AMap.put (l, te, tn) (stagedTile l off (s.stage (s.sessAt i).part)) s.cellar.tiles
      ∧ ∀ m, t.stage m = s.stage m := by
  have hexec : exec (.loadMapTile i p) s = .next (runRow "LOAD_MAP_TILE" i p (loadTileAns i p) s) := by
    change execLoadMapTile i p s = _
    simp only [execLoadMapTile, hgrant, Option.isNone_some, Bool.and_false, Bool.false_eq_true, if_false]
  have herrs := loadTileAns_errs ((s.begun_unitErrs i p p .map (some l) false).trans hu) (h.begun (i := i)) hl.begun
  rw [runRow_ok h.row hm (by rw [herrs]; rfl)] at hexec
  obtain ⟨htiles, hwindows⟩ := loadTileAns_act (i := i) (h.begun (i := i))
  have hbegun (m : Nat) : (s.begun i p).stage m = s.stage m := State.stage_congr (s.begun_cellar i p) m
  have hpart : ((s.begun i p).sessAt i).part = (s.sessAt i).part := by simp
  rw [hpart, hbegun, State.begun_cellar] at htiles
  have hcellar := (s.begun i p).succeed_cellar i p (loadTileAns i p (s.begun i p)) (fun _ => rfl)
  refine ⟨_, hexec, (congrArg Cellar.tiles hcellar).trans htiles, fun m => ?_⟩
  rw [State.stage_congr hcellar, hwindows, hbegun]

end LoadTile

end Sys2Proof.Machine

section
open Sys2Proof Sys2Proof.Machine

/-- Settles O29: a SET MAP STAGE in form is judged on its window's end alone and writes into its own window (R210, R242); a load puts the window's bytes
into one tile and leaves every window (R211). -/
theorem stagingWritesStayInTheirWindow : Obligations.StagingWritesStayInTheirWindow := by
  unfold Obligations.StagingWritesStayInTheirWindow
  intro s i l off d p hm hu hpart
  refine ⟨?past, ?within, ?load⟩
  case past =>
    intro hn ha ⟨hoff, hd⟩ hpast
    exact setMapStage_past_window hm hu ⟨hn, ha, hoff, hd⟩ hpast
  case within =>
    intro hn ha ⟨hoff, hd⟩ hfits hps hbytes
    obtain ⟨t, hexec, hwindows, hframe⟩ := setMapStage_within_window hm hu hpart ⟨hn, ha, hoff, hd⟩ hfits hps
    have hread (a : Nat) : stageRead (t.stage (s.sessAt i).part) a
        = if off ≤ a ∧ a < off + d.length then d.getD (a - off) 0 % 256 else stageRead (s.stage (s.sessAt i).part) a := by
      rw [hwindows _ hpart, if_pos rfl, stageRead_stageWrites]
    refine ⟨t, hexec, fun j hj => ?_, fun a houtside => ?_, fun m hm4 hne => ?_, hframe⟩
    · have hbyte : d.getD j 0 < 256 := by
        rw [List.getD_eq_getElem?_getD, List.getElem?_eq_getElem hj, Option.getD_some]
        exact hbytes _ (List.getElem_mem hj)
      rw [hread, if_pos (by omega), Nat.add_sub_cancel_left, Nat.mod_eq_of_lt hbyte]
    · rw [hread, if_neg (by omega)]
    · rw [hwindows m hm4, if_neg hne]
  case load =>
    intro te tn hn ha ⟨hte, htn, hoff⟩ ⟨hend, hps, hbusy, hslot⟩ hrun hgrant
    obtain ⟨t, hexec, htiles, hwindows⟩ :=
      loadMapTile_granted hm hu ⟨hn, ha, hte, htn, hoff⟩ ⟨hend, hps, hbusy, hslot, hrun⟩ hgrant
    refine ⟨t, hexec, ?_, fun k e n hne => ?_, fun m _ => hwindows m⟩
    · rw [State.tile, htiles, AMap.find_put, if_pos rfl]
      rfl
    · rw [State.tile, htiles, AMap.find_put, if_neg hne.symm]
      rfl

end
